-- ==== Sys2Proof/Word.lean ====
section
/-! DEFINITION. The words of the part: what travels on the line and the taps as bits, and the sets that are bit masks there. -/

namespace Sys2Proof

/-- One byte of a frame (R4). -/
abbrev Byte := BitVec 8

/-- A count of the Time Base in milliseconds: 48 bits, wrapping (R1). -/
abbrev Ms := BitVec 48

/-- A station number as a frame carries it: 0 the supervisor, 1-8 the parts, 15 all (R4). -/
abbrev Station := BitVec 4

/-- Port n of the manual (1-12) is index n - 1. -/
abbrev Port := Fin 12

/-- Sweep Engine 0 or 1. -/
abbrev EngineId := Fin 2

/-- A set of grades, G1 to G4 in bits 0 to 3 (R17). -/
abbrev GradeSet := BitVec 4

/-- A set of pairs, A to D in bits 0 to 3 (R17). -/
abbrev PairSet := BitVec 4

/-- A set of ports, port n in bit n - 1 (R17). -/
abbrev PortSet := BitVec 12

/-- One signed sample of a capture, -2048 to +2047 (R51). -/
abbrev Sample := BitVec 12

/-- Four like things, one for each pair A, B, C, D. -/
structure Four (α : Type) where
  a : α
  b : α
  c : α
  d : α
  deriving DecidableEq, Repr

end Sys2Proof
end

