-- ==== Sys2Proof/Config.lean ====
section
/-! DEFINITION. What the manual fixes as a number for every NDQ1210, and the one value it leaves free. -/

namespace Sys2Proof.Config

/-- Identification of the part (General Description; R24). -/
def vendorCode : BitVec 16 := 0x2E61
def partCode : BitVec 16 := 0x1210
def revision : Byte := 0x03

/-- Capacities: R11, R12 with R9, R109, R160, R67, R142. -/
def coordCapacity : Nat := 8
def replyCapacity : Nat := 4
def queueCapacity : Nat := 6
def couplingCapacity : Nat := 64
def quietCapacity : Nat := 4
def reflectionCapacity : Nat := 3

/-- Consecutive collision errors that drop a frame (R7). -/
def collisionLimit : Nat := 8

/-- Times in milliseconds: R71, R120, R123, R122, R38, R51, R180, R1. -/
def backoffMs : Nat := 1000
def settleMs : Nat := 20
def retryWaitMs : Nat := 100
def analysisMs : Nat := 2
def calibrationMs : Nat := 2
def captureTimeoutMs : Nat := 5
def holdoffMs : Nat := 5000
def minuteMs : Nat := 60000

/-- Bounds of the time spent in UP (R85). -/
def lostEarlyMs : Nat := 2000
def lostStableMs : Nat := 60000

/-- Shots of one calibration (R38) and the default of offset_t (R38). -/
def calShots : Nat := 16
def defaultOffset : Nat := 24

/-- Noise retries of one entry (R122). -/
def noiseRetries : Nat := 2

/-- The least level a QUIET_ASK selects at (R165), and the least that is learned (R173, R174). -/
def selectLevel : Nat := 50
def learnLevel : Nat := 20

/-- DESIGN CHOICE, log 3. Which of several events of the part's own that fall due in the same millisecond is taken first.
The manual gives the result of each order and leaves the order open, so nothing is known of this function. The step
applies it to the count of the choices taken before. -/
opaque dueChoice : Nat → Nat

end Sys2Proof.Config
end

