-- ==== Sys2Proof/Syntax.lean ====
section
/-! DEFINITION. The names the commands use, and the commands: one constructor for each row of spec/opcode_table.json. -/

namespace Sys2Proof

/-- A link speed (Conventions, Grades). -/
inductive Grade where
  | g1 | g2 | g3 | g4
  deriving DecidableEq, Repr

/-- One of the four twisted pairs of a port. -/
inductive Pair where
  | a | b | c | d
  deriving DecidableEq, Repr

/-- A stage the tap reports in TRAIN mode (R57). -/
inductive TrainStage where
  | echoConverged | aligned | locked
  deriving DecidableEq, Repr

/-- A fault the tap reports in TRAIN mode (R57). -/
inductive TrainFaultKind where
  | pairMissing | skew | polarity
  deriving DecidableEq, Repr

/-- One block of a SHOOT or CAL_SHOOT: the samples just before the window, then the window (R51). -/
structure ShotBlock where
  pre : Vector Sample 32
  window : Vector Sample 512
  deriving DecidableEq, Repr

/-- The sample blocks of one CAPTURE_DONE, by the capture that it ends (R51). -/
inductive Capture where
  /-- SHOOT: one block for each pair. -/
  | shoot (blocks : Four ShotBlock)
  /-- CAL_SHOOT: one block, from the reference load. -/
  | cal (block : ShotBlock)
  /-- LISTEN on all four pairs, as the engines issue it: 512 samples for each pair, no pre-window. -/
  | listen (blocks : Four (Vector Sample 512))
  deriving DecidableEq, Repr

/-- The payload of SET_PROFILE, byte for byte (R17). -/
structure ProfileBytes where
  mask : BitVec 16
  apply : Byte
  advertised : Byte
  nvp : BitVec 16
  slope : Byte
  attempts : Byte
  negWindow : Byte
  trainWindow : Byte
  optionSelect : Byte
  optionValue : Byte
  depth : Byte
  deriving DecidableEq, Repr

/-- The commands. A supervisor request (stationReset to clearCoupling) is the request as the Line Interface hands it on
(R8 step 8, R9), with its payload bytes unchecked. A peer frame (quietAsk to couplingSeen) is the frame as it is handed
to the Bundle Coordinator (R8 step 9), with its originator and payload bytes. A tap event names the port of the tap. -/
inductive Instr where
  /-- RESET_ASSERT: RSTN goes low (R35). -/
  | resetAssert
  /-- RESET_RELEASE: RSTN rises with these levels on the strap pins: STA2-STA0, PCS high, AUT high (R35). -/
  | resetRelease (sta : BitVec 3) (pcs : Bool) (aut : Bool)
  /-- MINUTE_ADVANCE (R1). -/
  | minuteAdvance
  /-- FRAME_RECEIVED: the check byte of a frame has been received (R4). The length byte is the payload's length. -/
  | frameReceived (kind : Byte) (header : Byte) (payload : List Byte) (check : Byte)
  /-- FRAME_BREAK (R3). -/
  | frameBreak
  /-- FRAME_LENGTH_OVERFLOW: the third byte of the frame gives this L (R5). -/
  | frameLengthOverflow (len : Byte)
  /-- TRAILING_CELL (R3). -/
  | trailingCell
  /-- LINE_IDLE (R3). -/
  | lineIdle
  /-- ARBITRATION_LOST (R6). -/
  | arbitrationLost
  /-- COLLISION_ERROR (R7). -/
  | collisionError
  /-- FRAME_SENT (R14). -/
  | frameSent
  /-- STATION_RESET (R30). -/
  | stationReset
  /-- ENABLE (R86). -/
  | enable (port : Byte)
  /-- DISABLE (R87). -/
  | disable (port : Byte)
  /-- RETRAIN (R88). -/
  | retrain (port : Byte)
  /-- UNPARK (R89). -/
  | unpark (port : Byte)
  /-- SWEEP (R113). -/
  | sweep (port : Byte) (mask : Byte) (depth : Byte) (flags : Byte)
  /-- CANCEL_SWEEP (R114). -/
  | cancelSweep (port : Byte)
  /-- SET_PROFILE (R41). -/
  | setProfile (bytes : ProfileBytes)
  /-- SET_GUARD (R29). -/
  | setGuard (mask : BitVec 16)
  /-- SET_SURVEY (R177). -/
  | setSurvey (interval : Byte) (mode : Byte)
  /-- QUERY_STATION (R24). -/
  | queryStation
  /-- QUERY_PORT (R25). -/
  | queryPort (port : Byte)
  /-- READ_RECORD (R27). -/
  | readRecord (port : Byte)
  /-- READ_COUPLING (R28). -/
  | readCoupling (start : Byte)
  /-- CLEAR_COUPLING (R163). -/
  | clearCoupling
  /-- QUIET_ASK from a peer (R165). -/
  | quietAsk (sender : Station) (port : Byte) (units : Byte)
  /-- QUIET_END from a peer (R166). -/
  | quietEnd (sender : Station) (port : Byte)
  /-- SWEEP_START from a peer (R168). -/
  | sweepStart (sender : Station) (port : Byte) (mask : Byte) (units : Byte)
  /-- SWEEP_END from a peer (R167). -/
  | sweepEnd (sender : Station) (port : Byte)
  /-- COUPLING_SEEN from a peer (R174). -/
  | couplingSeen (sender : Station) (swept : Byte) (sendersPort : Byte) (level : BitVec 16)
  /-- ENERGY_ON (R53). -/
  | energyOn (port : Port)
  /-- ENERGY_OFF (R52). -/
  | energyOff (port : Port)
  /-- BURST: one partner word (R54). -/
  | burst (port : Port) (offer : GradeSet) (ack : Bool) (remoteFault : Bool)
  /-- PLAIN_PULSE (R55). -/
  | plainPulse (port : Port)
  /-- TRAIN_PROGRESS (R57). -/
  | trainProgress (port : Port) (stage : TrainStage)
  /-- TRAIN_FAULT (R77). -/
  | trainFault (port : Port) (kind : TrainFaultKind) (pair : Pair)
  /-- LINK_LOST (R85). -/
  | linkLost (port : Port)
  /-- POWER_DETECT_BEGIN (R66). -/
  | powerDetectBegin (port : Port)
  /-- POWER_DETECT_END (R66). -/
  | powerDetectEnd (port : Port)
  /-- CAPTURE_DONE: the capture of this tag, with its samples (R51). -/
  | captureDone (port : Port) (tag : Byte) (data : Capture)
  /-- CAPTURE_TIMEOUT (R51). -/
  | captureTimeout (port : Port)
  /-- CALIBRATION_RESULT: the engine's 2 ms computation ends (R38). -/
  | calibrationResult (engine : EngineId)
  /-- NEG_WINDOW_EXPIRY (R75). -/
  | negWindowExpiry (port : Port)
  /-- TRAIN_WINDOW_EXPIRY (R77). -/
  | trainWindowExpiry (port : Port)
  /-- BACKOFF_EXPIRY (R71). -/
  | backoffExpiry (port : Port)
  /-- QUIET_RECORD_EXPIRY: of the record with this key (R68). -/
  | quietRecordExpiry (port : Port) (asker : Station) (askerPort : Port)
  /-- SETTLE_EXPIRY (R120). -/
  | settleExpiry (engine : EngineId)
  /-- RETRY_WAIT_EXPIRY (R123). -/
  | retryWaitExpiry (engine : EngineId)
  /-- PREPARE_PASS (R120). -/
  | preparePass (engine : EngineId)
  /-- ANALYSIS_END (R122). -/
  | analysisEnd (engine : EngineId)
  /-- LISTEN_JOB_END: the job's timer expires (R173). -/
  | listenJobEnd (engine : EngineId)
  /-- HOLDOFF_EXPIRY (R181). -/
  | holdoffExpiry (port : Port)
  /-- SURVEY_EXPIRY (R178). -/
  | surveyExpiry
  /-- NEW_FRAME (R3). -/
  | newFrame
  deriving DecidableEq, Repr

end Sys2Proof
end

