-- ==== Sys2Proof/Decode.lean ====
section
/-! DEFINITION. The decoder of the opcode table's words. -/

namespace Sys2Proof

/-- The command a word of nbits bits spells by the bits of spec/opcode_table.json. No row of that table gives any bits
(every row's fields are empty, and it has no match and no mask), so no word spells a command. -/
def decodeTableWord (_nbits _w : Nat) : Option Instr := none

end Sys2Proof
end

