-- ==== Sys2Proof/Machine/State.lean ====
section
/-! DEFINITION. Everything the manual gives the part to hold, as plain data, and the state right after power-on reset. -/

namespace Sys2Proof.Machine

/-! ## Lane Controllers -/

/-- The ten lane states (R61). -/
inductive LaneState where
  | starting | disabled | advertise | held | negotiate | train | up | backoff | sweepWait | parked
  deriving DecidableEq, Repr

/-- The reasons that keep a lane quiet (the hold set, R64). -/
structure HoldSet where
  sweep : Bool
  listen : Bool
  quiet : Bool
  power : Bool
  deriving DecidableEq, Repr

def HoldSet.empty : HoldSet := ⟨false, false, false, false⟩

/-- One record of a quiet-hold list (R67). -/
structure QuietRecord where
  asker : Station
  askerPort : Port
  expiry : Ms
  deriving DecidableEq, Repr

/-- Progress of the present negotiation (R72 to R74). -/
structure NegRecord where
  lastOffer : Option GradeSet
  identical : Nat
  ownAck : Bool
  ackRun : Nat
  deriving DecidableEq, Repr

def NegRecord.cleared : NegRecord := ⟨none, 0, false, 0⟩

/-- Last failure: none, a failure reason, or CABLE (R78). -/
inductive LastFailure where
  | none | noCommon | partnerFault | negTimeout | pairFault | skew | polarity | trainTimeout | partnerLost | lostEarly
  | cable
  deriving DecidableEq, Repr

/-- The timers a lane state may run (R91). -/
inductive LaneTimer where
  | negotiate | train | backoff
  deriving DecidableEq, Repr

/-- A port's tunable settings (R40). Windows are in units of 100 ms. -/
structure Profile where
  advertised : GradeSet
  nvp : Nat
  slope : Nat
  attempts : Nat
  negWindow : Nat
  trainWindow : Nat
  depth : Nat
  downshift : Bool
  autoSweep : Bool
  surveyMember : Bool
  listenPeers : Bool
  honourQuiet : Bool
  deriving DecidableEq, Repr

/-- The power-on defaults (R40). -/
def Profile.default : Profile :=
  { advertised := 0b1111, nvp := 690, slope := 12, attempts := 2, negWindow := 20, trainWindow := 8, depth := 3,
    downshift := true, autoSweep := true, surveyMember := true, listenPeers := true, honourQuiet := true }

/-- The commands a tap takes (R46). -/
inductive TapCommand where
  | sendQuiet
  | sendWord (offer : GradeSet) (ack : Bool)
  | train (grade : Grade)
  | shoot (pair : Pair) (tag : Byte)
  | calShoot (tag : Byte)
  | listen (pairs : PairSet) (tag : Byte)
  deriving DecidableEq, Repr

/-- Who issues a tap's commands (R47). -/
inductive Holder where
  | lane
  | engine (e : EngineId)
  deriving DecidableEq, Repr

/-- One Lane Controller with the tap state of its port (R60, R92). -/
structure Lane where
  state : LaneState
  hold : HoldSet
  quiet : List QuietRecord
  ceiling : Grade
  attempts : Nat
  offered : GradeSet
  neg : NegRecord
  grade : Option Grade
  training : Option Grade
  upStart : Ms
  lastFailure : LastFailure
  failureCount : Nat
  transferOwed : Bool
  timer : Option (LaneTimer × Ms)
  active : Profile
  shadow : Profile
  shadowPending : Bool
  offsetT : Nat
  calDefaulted : Bool
  energy : Bool
  power : Bool
  pulseCount : Nat
  lastPulse : Option Ms
  holder : Holder
  tagCounter : Byte
  outstanding : Option Byte
  captureDue : Option Ms
  tapCommand : Option TapCommand
  deriving DecidableEq, Repr

/-- A lane as power-on reset leaves it (R36, R45, R60, R92, R108), before calibration takes its port. The offered set is a
subset of G1 to G4 and holds none until the first entry into ADVERTISE, as R108 states. UP start, offset_t and the
calibration-defaulted flag: DESIGN CHOICE, log 5. -/
def Lane.powerOn : Lane :=
  { state := .starting, hold := .empty, quiet := [], ceiling := .g4, attempts := 0, offered := 0, neg := .cleared,
    grade := none, training := none, upStart := 0, lastFailure := .none, failureCount := 0, transferOwed := false,
    timer := none, active := .default, shadow := .default, shadowPending := false, offsetT := Config.defaultOffset,
    calDefaulted := false, energy := false, power := false, pulseCount := 0, lastPulse := none, holder := .lane,
    tagCounter := 0, outstanding := none, captureDue := none, tapCommand := none }

/-- A lane whose first CAL_SHOOT engine e has issued at count 0 (R37, R38, R49). -/
def Lane.powerOnCalibrating (e : EngineId) : Lane :=
  { Lane.powerOn with
    holder := .engine e, tagCounter := 1, outstanding := some 0,
    captureDue := some (BitVec.ofNat 48 Config.captureTimeoutMs), tapCommand := some (.calShoot 0) }

/-! ## Cable records -/

/-- Verdict of a tested pair (R144, R145). -/
inductive Verdict where
  | good | opened | shorted | highImp | lowImp | untestable
  | crossed (p : Pair)
  deriving DecidableEq, Repr

/-- A kept echo: distance in dm and signed compensated level in permille (R142). -/
structure Reflection where
  distance : Nat
  level : Int
  deriving DecidableEq, Repr

/-- A pair result, as an engine hands it over (R145). -/
structure PairResult where
  verdict : Verdict
  low : Bool
  noisy : Bool
  clipped : Bool
  distance : Option Nat
  noise : Nat
  cross : Nat
  crossPair : Pair
  reflections : List Reflection
  deriving DecidableEq, Repr

/-- A pair record: the fields of the last result written, with a verdict exactly where the pair is TESTED (R149). -/
structure PairRecord where
  verdict : Option Verdict
  low : Bool
  noisy : Bool
  clipped : Bool
  distance : Option Nat
  noise : Nat
  cross : Nat
  crossPair : Pair
  reflections : List Reflection
  deriving DecidableEq, Repr

/-- The NOT_TESTED record of a pair: no verdict and no fault distance, confidence NORMAL, no flags, noise figure 0, cross level
0 given with the pair itself, no reflections (R149). -/
def PairRecord.untested (q : Pair) : PairRecord :=
  { verdict := none, low := false, noisy := false, clipped := false, distance := none, noise := 0, cross := 0, crossPair := q,
    reflections := [] }

inductive RecordStatus where
  | neverTested | partly | complete
  deriving DecidableEq, Repr

/-- Who asked for a sweep, highest rank first (The Sweep Queue and Engines). -/
inductive Origin where
  | supervisor | laneFailure | linkDown | survey
  deriving DecidableEq, Repr

inductive Overall where
  | good | fault | unknown
  deriving DecidableEq, Repr

/-- One port's cable record with the allowed set held beside it (R148). -/
structure CableRecord where
  status : RecordStatus
  sequence : BitVec 16
  origin : Option Origin
  age : Nat
  overall : Overall
  pairs : Four PairRecord
  allowed : GradeSet
  deriving DecidableEq, Repr

/-- Every record at power-on reset (R148, R149). -/
def CableRecord.neverTested : CableRecord :=
  { status := .neverTested, sequence := 0, origin := none, age := 0, overall := .unknown,
    pairs := ⟨.untested .a, .untested .b, .untested .c, .untested .d⟩, allowed := 0b1111 }

/-! ## Bundle Coordinator -/

/-- One entry of the Coupling Table (R160). -/
structure CouplingEntry where
  localPort : Port
  station : Station
  remotePort : Port
  level : Nat
  heard : Bool
  told : Bool
  age : Nat
  deriving DecidableEq, Repr

/-- One member of a listen job: its reading, and whether the job gave it LISTEN (R169). -/
structure Member where
  port : Port
  reading : Nat
  given : Bool
  deriving DecidableEq, Repr

/-- A listen job. Its code is the code of the key's station (R168, R132). -/
structure ListenJob where
  station : Station
  port : Port
  endTime : Ms
  members : List Member
  deriving DecidableEq, Repr

/-! ## Sweep Scheduler and engines -/

inductive EntryState where
  | waiting | running | suspended
  deriving DecidableEq, Repr

/-- What a sweep measures with, taken at its first start (R119). -/
structure Snapshot where
  nvp : Nat
  slope : Nat
  offsetT : Nat
  deriving DecidableEq, Repr

/-- One entry of the Sweep Queue (R109, R110). -/
structure Entry where
  port : Port
  mask : PairSet
  depth : Nat
  origin : Origin
  force : Bool
  state : EntryState
  completed : PairSet
  retries : Nat
  snapshot : Option Snapshot
  engine : Option EngineId
  cancelPending : Bool
  deriving DecidableEq, Repr

/-- The six engine states (Engine states). -/
inductive EngineState where
  | idle | preparing | shooting | analysing | listening | calibrating
  deriving DecidableEq, Repr

/-- Which coordination frames of a pass are outstanding (R124). -/
inductive Announcement where
  | none | asked | started
  deriving DecidableEq, Repr

/-- The timers an engine may run: settle (R120), retry wait (R123), analysis (R122), and the 2 ms computation of a
calibration (R38). -/
inductive EngineTimer where
  | settle | retryWait | analysis | calibration
  deriving DecidableEq, Repr

/-- The calibration of one lane in progress (R38). -/
structure CalWork where
  port : Port
  issued : Nat
  completed : Nat
  sums : List Int
  deriving DecidableEq, Repr

/-- 512 sums of nothing (R133). -/
def clearedSums : List Int := List.replicate 512 0

/-- One Sweep Engine (Engine states; R168; R37). -/
structure Engine where
  state : EngineState
  bound : Option Port
  passPairs : PairSet
  current : Option Pair
  issued : Nat
  completed : Nat
  failedRun : Nat
  sums : Four (List Int)
  floors : List Nat
  clipped : Bool
  heldBack : PairSet
  announcement : Announcement
  timer : Option (EngineTimer × Ms)
  job : Option ListenJob
  cal : Option CalWork
  deriving DecidableEq, Repr

/-- An engine that does nothing (R131, R133). R131 gives no value for pass pairs, shots issued and consecutive failed:
DESIGN CHOICE, log 28. -/
def Engine.idle : Engine :=
  { state := .idle, bound := none, passPairs := 0, current := none, issued := 0, completed := 0, failedRun := 0,
    sums := ⟨clearedSums, clearedSums, clearedSums, clearedSums⟩, floors := [], clipped := false, heldBack := 0,
    announcement := .none, timer := none, job := none, cal := none }

/-- An engine that has issued the first CAL_SHOOT of a lane (R37, R38). -/
def Engine.calibrating (p : Port) : Engine :=
  { Engine.idle with state := .calibrating, cal := some ⟨p, 1, 0, clearedSums⟩ }

/-! ## Line Interface -/

/-- The receiver (R3): waiting for idle after reset or a broken frame, idle, taking a frame, or waiting for idle after a
complete frame. -/
inductive RxState where
  | waitIdle | idle | inFrame | afterFrame
  deriving DecidableEq, Repr

/-- A frame the part sends; its originator is the station number (R4). -/
structure Frame where
  kind : Byte
  target : Station
  payload : List Byte
  deriving DecidableEq, Repr

/-- A frame of the coordination list, with the engine it was posted for (R11, R120). -/
structure CoordFrame where
  frame : Frame
  engine : Option EngineId
  deriving DecidableEq, Repr

/-- An entry of the reply list (R12): a built frame, or a piece train with its snapshot and its next piece. -/
inductive ReplyEntry where
  | single (frame : Frame)
  | recordTrain (port : Port) (record : CableRecord) (next : Nat)
  | couplingTrain (start : Byte) (total : Nat) (entries : List CouplingEntry) (next : Nat)
  deriving DecidableEq, Repr

/-- Reason of a station notice (R34). -/
inductive StationNotice where
  | started | surveyDone
  deriving DecidableEq, Repr

/-- Where the transmitter's frame came from (R7), with what a notice carries (R13). -/
inductive TxPlace where
  | coordination
  | reply
  | stationNotice (reason : StationNotice)
  | portNotice (port : Port) (carried : Byte)
  deriving DecidableEq, Repr

/-- The frame the transmitter has open (R14). -/
structure TxFrame where
  frame : Frame
  place : TxPlace
  deriving DecidableEq, Repr

/-! ## The machine -/

/-- The state of the part. `freeCount` and `pending` are the model's own. -/
structure State where
  ms : Ms
  minutes : BitVec 32
  minuteMark : Ms
  inReset : Bool
  station : Station
  twelvePorts : Bool
  autostart : Bool
  rx : RxState
  tx : Option TxFrame
  lastOpened : Option TxPlace
  collisionRun : Nat
  coordList : List CoordFrame
  replyList : List ReplyEntry
  noticeFlags : Vector Byte 12
  stationNotice : Option StationNotice
  checkFailures : Nat
  collisionErrors : Nat
  requestsDiscarded : Nat
  guards : PortSet
  lanes : Vector Lane 12
  queue : List Entry
  engines : Vector Engine 2
  calList : List Port
  records : Vector CableRecord 12
  coupling : List CouplingEntry
  surveyInterval : Nat
  surveyContinuous : Bool
  surveyEnabled : Bool
  surveyTimer : Option Ms
  passSet : PortSet
  holdoffs : Vector (Option Ms) 12
  freeCount : Nat
  pending : List Instr
  deriving DecidableEq, Repr

/-- How a step may stop. -/
inductive Fault where
  /-- Raised by CAPTURE_DONE when a capture answers the outstanding tag with blocks of another kind than the capture the
  engine commanded, which R51 rules out. Safe: the model stops where the manual says nothing. Log 9. -/
  | captureShape
  deriving DecidableEq, Repr

/-- Why a command has no meaning. -/
inductive Refusal where
  /-- Raised by an arm of exec whose command is not modelled yet. Safe: nothing is claimed of it. No arm does. -/
  | notModelled (mnemonic : String)
  deriving DecidableEq, Repr

/-- The part right after power-on reset, as RSTN has risen: every block at its power-on values, both engines calibrating,
engine 0 at port 1 and engine 1 at port 2, each with its first CAL_SHOOT issued (R1, R15, R35 to R37, R45, R60, R92, R108,
R131, R148, R160, R182). The straps of this state are station 1, 12 ports, autostart enabled: DESIGN CHOICE, log 4. -/
def State.reset : State :=
  { ms := 0, minutes := 0, minuteMark := 0, inReset := false, station := 1, twelvePorts := true, autostart := true,
    rx := .waitIdle, tx := none, lastOpened := none, collisionRun := 0, coordList := [], replyList := [],
    noticeFlags := Vector.replicate 12 0, stationNotice := none, checkFailures := 0, collisionErrors := 0,
    requestsDiscarded := 0, guards := 0,
    lanes := ((Vector.replicate 12 Lane.powerOn).set 0 (Lane.powerOnCalibrating 0)).set 1 (Lane.powerOnCalibrating 1),
    queue := [], engines := #v[Engine.calibrating 0, Engine.calibrating 1], calList := [2, 3, 4, 5, 6, 7, 8, 9, 10, 11],
    records := Vector.replicate 12 CableRecord.neverTested, coupling := [], surveyInterval := 0,
    surveyContinuous := false, surveyEnabled := false, surveyTimer := none, passSet := 0,
    holdoffs := Vector.replicate 12 none, freeCount := 0, pending := [] }

end Sys2Proof.Machine
end

