-- ==== Sys2Proof/Machine/Ops.lean ====
section
/-! DEFINITION. Reading and writing the parts of State, counting and time. -/

namespace Sys2Proof.Machine

/-- Ports 1 to 12 in port order. -/
def allPorts : List Port := [0, 1, 2, 3, 4, 5, 6, 7, 8, 9, 10, 11]

/-- Engines 0 and 1. -/
def allEngines : List EngineId := [0, 1]

/-- The strapped port count (R35). -/
def State.portCount (s : State) : Nat := if s.twelvePorts then 12 else 8

/-- Ports 9-12 are absent under the 8-port strap (R35). -/
def State.present (s : State) (p : Port) : Bool := decide (p.val < s.portCount)

def State.presentPorts (s : State) : List Port := allPorts.filter s.present

def State.lane (s : State) (p : Port) : Lane := s.lanes[p.val]

def State.setLane (s : State) (p : Port) (l : Lane) : State := { s with lanes := s.lanes.set p.val l }

def State.modifyLane (s : State) (p : Port) (f : Lane → Lane) : State := s.setLane p (f (s.lane p))

def State.engine (s : State) (e : EngineId) : Engine := s.engines[e.val]

def State.setEngine (s : State) (e : EngineId) (g : Engine) : State := { s with engines := s.engines.set e.val g }

def State.modifyEngine (s : State) (e : EngineId) (f : Engine → Engine) : State := s.setEngine e (f (s.engine e))

def State.record (s : State) (p : Port) : CableRecord := s.records[p.val]

def State.setRecord (s : State) (p : Port) (r : CableRecord) : State := { s with records := s.records.set p.val r }

def State.holdoff (s : State) (p : Port) : Option Ms := s.holdoffs[p.val]

def State.setHoldoff (s : State) (p : Port) (h : Option Ms) : State := { s with holdoffs := s.holdoffs.set p.val h }

/-- The Sweep Queue entry of a port; the queue never holds two (R109). -/
def State.entryOf (s : State) (p : Port) : Option Entry := s.queue.find? fun x => decide (x.port = p)

/-- Changes the entry of a port in its place (R109). -/
def State.modifyEntry (s : State) (p : Port) (f : Entry → Entry) : State :=
  { s with queue := s.queue.map fun x => if x.port = p then f x else x }

/-- Any present lane in STARTING: start-up is not over (R19, R36, R164). -/
def State.anyStarting (s : State) : Bool := s.presentPorts.any fun p => decide ((s.lane p).state = .starting)

/-- The millisecond count n ms from now, modulo 2^48 (R1). -/
def State.after (s : State) (n : Nat) : Ms := s.ms + BitVec.ofNat 48 n

/-- The time spent from one count to a later one, modulo 2^48 (R1). -/
def timeBetween (start later : Ms) : Nat := (later - start).toNat

/-- An increment that stays at its limit (R10, R79, R153, R162). -/
def countUp (limit n : Nat) : Nat := min limit (n + 1)

/-- A value below lo becomes lo and a value above hi becomes hi (Arithmetic). -/
def clampNat (lo hi n : Nat) : Nat := max lo (min hi n)

/-- Division rounded up. -/
def divUp (n d : Nat) : Nat := (n + d - 1) / d

/-- Adds one to check failures (R10). -/
def State.countCheckFailure (s : State) : State := { s with checkFailures := countUp 255 s.checkFailures }

/-- Adds one to collision errors (R10). -/
def State.countCollisionError (s : State) : State := { s with collisionErrors := countUp 255 s.collisionErrors }

/-- Adds one to requests discarded (R10). -/
def State.countDiscard (s : State) : State := { s with requestsDiscarded := countUp 255 s.requestsDiscarded }

end Sys2Proof.Machine
end

