-- ==== Sys2Proof/Machine/Operands.lean ====
section
/-! DEFINITION. The operand fields: grades, pairs, ports and their sets, and the bytes that carry them (R17). -/

namespace Sys2Proof.Machine

/-! ## Grades -/

/-- Bit of a grade in a grade set (R17). -/
def gradeBit : Grade → Nat
  | .g1 => 0 | .g2 => 1 | .g3 => 2 | .g4 => 3

/-- A grade as a reply carries it, 1-4 (R17). -/
def gradeNumber (g : Grade) : Nat := gradeBit g + 1

def hasGrade (gs : GradeSet) (g : Grade) : Bool := gs.getLsbD (gradeBit g)

/-- The grades at or below g. -/
def gradesUpTo : Grade → GradeSet
  | .g1 => 0b0001 | .g2 => 0b0011 | .g3 => 0b0111 | .g4 => 0b1111

/-- The grades below g. -/
def gradesBelow : Grade → GradeSet
  | .g1 => 0b0000 | .g2 => 0b0001 | .g3 => 0b0011 | .g4 => 0b0111

/-- The highest grade of a set, none if it is empty. -/
def highestGrade (gs : GradeSet) : Option Grade :=
  if hasGrade gs .g4 then some .g4
  else if hasGrade gs .g3 then some .g3
  else if hasGrade gs .g2 then some .g2
  else if hasGrade gs .g1 then some .g1
  else none

/-! ## Pairs -/

def allPairs : List Pair := [.a, .b, .c, .d]

/-- A pair as a frame carries it, 0-3 for A-D (R17). -/
def pairNumber : Pair → Nat
  | .a => 0 | .b => 1 | .c => 2 | .d => 3

def hasPair (ps : PairSet) (q : Pair) : Bool := ps.getLsbD (pairNumber q)

/-- The set of one pair. -/
def onePair : Pair → PairSet
  | .a => 0b0001 | .b => 0b0010 | .c => 0b0100 | .d => 0b1000

def addPair (ps : PairSet) (q : Pair) : PairSet := ps ||| onePair q

/-- The pairs of a set in the order A, B, C, D. -/
def pairsOf (ps : PairSet) : List Pair := allPairs.filter (hasPair ps)

/-- The pairs of a set that come after q in the order A, B, C, D. -/
def pairsAfter (ps : PairSet) (q : Pair) : List Pair :=
  (pairsOf ps).filter fun r => decide (pairNumber q < pairNumber r)

def allPairSet : PairSet := 0b1111

/-- The thing of a pair. -/
def atPair {α : Type} (f : Four α) : Pair → α
  | .a => f.a | .b => f.b | .c => f.c | .d => f.d

/-- The four with the thing of one pair replaced. -/
def putPair {α : Type} (f : Four α) (q : Pair) (x : α) : Four α :=
  match q with
  | .a => { f with a := x }
  | .b => { f with b := x }
  | .c => { f with c := x }
  | .d => { f with d := x }

/-- A pair is used at a grade: A and B at every grade, C and D at G3 and G4 only (Grades; R57). -/
def pairUsed (g : Grade) : Pair → Bool
  | .a => true
  | .b => true
  | .c => decide (2 ≤ gradeBit g)
  | .d => decide (2 ≤ gradeBit g)

/-! ## Ports -/

/-- A port as a frame carries it, 1-12 (R17). -/
def portNumber (p : Port) : Nat := p.val + 1

/-- A 1-byte port field of a request: 1 to the strapped port count, else no present port (R21). -/
def State.portField (s : State) (b : Byte) : Option Port :=
  if h : 1 ≤ b.toNat ∧ b.toNat ≤ 12 then
    let p : Port := ⟨b.toNat - 1, by omega⟩
    if s.present p then some p else none
  else none

/-- The port field of a peer's frame: 1 to 12 (R164). -/
def peerPort (b : Byte) : Option Port :=
  if h : 1 ≤ b.toNat ∧ b.toNat ≤ 12 then some ⟨b.toNat - 1, by omega⟩ else none

/-- A port mask names no absent port (R21). -/
def State.maskPasses (s : State) (m : BitVec 16) : Bool := decide (m.toNat < 2 ^ s.portCount)

def inPortSet (ps : PortSet) (p : Port) : Bool := ps.getLsbD p.val

def addPort (ps : PortSet) (p : Port) : PortSet := ps ||| (1#12 <<< p.val)

/-- The ports of a set in port order. -/
def portsOf (ps : PortSet) : List Port := allPorts.filter (inPortSet ps)

/-! ## Bytes -/

def byteOf (n : Nat) : Byte := BitVec.ofNat 8 n

/-- A 2-byte field, most significant byte first (Conventions, Numbers). -/
def twoBytes (w : BitVec 16) : List Byte := [w.extractLsb' 8 8, w.extractLsb' 0 8]

def twoBytesOf (n : Nat) : List Byte := twoBytes (BitVec.ofNat 16 n)

/-- The 2-byte field whose bytes are hi and lo. -/
def word16 (hi lo : Byte) : BitVec 16 := hi ++ lo

def bitOf (b : Bool) (n : Nat) : Nat := if b then 2 ^ n else 0

end Sys2Proof.Machine
end

