-- ==== Sys2Proof/Machine/Echo.lean ====
section
/-! DEFINITION. Echo Arithmetic (R132 to R147): every quantity is an integer and every division names its rounding. -/

namespace Sys2Proof.Machine

/-! ## Rounding (Conventions, Arithmetic) -/

/-- n / d rounded half away from zero. -/
def roundHalfAway (n d : Int) : Int :=
  let q : Nat := (2 * n.natAbs + d.natAbs) / (2 * d.natAbs)
  if decide (n < 0) = decide (d < 0) then (q : Int) else -(q : Int)

/-- n / d rounded half up, of non-negative quantities. -/
def roundHalfUp (n d : Nat) : Nat := (2 * n + d) / (2 * d)

/-- A value below lo becomes lo and a value above hi becomes hi. -/
def clampInt (lo hi x : Int) : Int := if x < lo then lo else if hi < x then hi else x

/-! ## Pulse codes and correlation -/

/-- The pulse code of a station (R132). -/
def pulseCode (st : Station) : List Int :=
  match st.toNat with
  | 1 => [1, 1, -1, 1, 1, 1, -1, -1]
  | 2 => [1, -1, 1, 1, -1, -1, -1, 1]
  | 3 => [1, 1, -1, -1, 1, -1, 1, 1]
  | 4 => [1, -1, -1, 1, 1, 1, 1, -1]
  | 5 => [1, 1, 1, -1, -1, 1, -1, 1]
  | 6 => [1, -1, 1, -1, 1, 1, -1, -1]
  | 7 => [1, 1, -1, 1, -1, -1, 1, -1]
  | 8 => [1, -1, -1, -1, 1, -1, 1, 1]
  | _ => []

/-- The samples of a capture as integers (R51). -/
def sampleInts {n : Nat} (v : Vector Sample n) : List Int := v.toList.map BitVec.toInt

/-- The sum of chip × sample over the first samples of a list. -/
def chipSum : List Int → List Int → Int
  | c :: cs, x :: xs => c * x + chipSum cs xs
  | _, _ => 0

/-- y[i] for i = 0 up to the last index at which all eight chips fall inside the window: 0-504 of 512 (R136). -/
def correlateFrom (code : List Int) : Nat → List Int → List Int
  | 0, _ => []
  | _ + 1, [] => []
  | n + 1, x :: xs => chipSum code (x :: xs) :: correlateFrom code n xs

def correlate (code : List Int) (a : List Int) : List Int := correlateFrom code (a.length - 7) a

/-- The sums after a shot's samples are added (R133). -/
def addSamples (sums samples : List Int) : List Int := List.zipWith (· + ·) sums samples

/-- The average over n shots (R134). -/
def average (sums : List Int) (n : Nat) : List Int := sums.map fun x => roundHalfAway x n

/-- The largest magnitude of a list, 0 if it is empty. -/
def largestMagnitude (ys : List Int) : Nat := ys.foldl (fun m y => max m y.natAbs) 0

/-! ## Floors and clipping (R133, R135) -/

/-- A shot's floor: the largest |x| of the pre-window (R133). -/
def shotFloor (pre : Vector Sample 32) : Nat := largestMagnitude (sampleInts pre)

/-- A window sample with index 16 or more is at full scale (R133). -/
def windowClips (window : Vector Sample 512) : Bool :=
  ((sampleInts window).drop 16).any fun x => decide (x = -2048) || decide (x = 2047)

/-- The noise figure: the mean floor, rounded half up; 0 without a completed shot (R135, R145). -/
def noiseFigure (floors : List Nat) : Nat := if floors.isEmpty then 0 else roundHalfUp floors.sum floors.length

/-- More than half of the completed shots have a floor above 96 (R135). -/
def isNoisy (floors : List Nat) (n : Nat) : Bool := decide (n < 2 * (floors.filter fun f => decide (96 < f)).length)

/-! ## Peaks (R137 to R139) -/

/-- A value of the correlation with its neighbours. -/
structure Peak where
  index : Nat
  left : Int
  mid : Int
  right : Option Int
  deriving DecidableEq, Repr

/-- The values of ys, whose first has index i and left neighbour l. -/
def peaksFrom (i : Nat) (l : Int) : List Int → List Peak
  | [] => []
  | y :: ys => ⟨i, l, y, ys.head?⟩ :: peaksFrom (i + 1) y ys

/-- The values at the indices 16-504 of a correlation (R137). -/
def searchZone (y : List Int) : List Peak := peaksFrom 16 (y.getD 15 0) (y.drop 16)

/-- A candidate peak (R137). -/
def Peak.candidate (k : Peak) : Bool :=
  decide (k.left.natAbs ≤ k.mid.natAbs) &&
    (match k.right with
     | some r => decide (r.natAbs < k.mid.natAbs)
     | none => true)

/-- The detection threshold (R137). -/
def detectionThreshold (nf launch : Nat) : Nat := max (4 * nf) (divUp (60 * launch) 1000)

/-- Kept candidates closer than 8 samples merge; `last` is the last peak retained so far (R138). -/
def mergePeaks (last : Peak) : List Peak → List Peak
  | [] => [last]
  | k :: rest =>
    if last.index + 8 ≤ k.index then last :: mergePeaks k rest
    else if last.mid.natAbs < k.mid.natAbs then mergePeaks k rest
    else mergePeaks last rest

/-- The retained peaks of a correlation (R137, R138). -/
def retainedPeaks (y : List Int) (threshold : Nat) : List Peak :=
  match (searchZone y).filter fun k => k.candidate && decide (threshold ≤ k.mid.natAbs) with
  | [] => []
  | k :: rest => mergePeaks k rest

/-- The offset in eighths by the formula, denominator test and clamp of R139. -/
def interpolate (l m n : Int) : Int :=
  let den := l - 2 * m + n
  if 0 ≤ den then 0 else clampInt (-4) 4 (roundHalfAway (4 * (l - n)) den)

/-- The delay of a peak in ticks; the offset is 0 at the index `edge` and where there is no right neighbour (R139, R147). -/
def Peak.delay (k : Peak) (edge : Nat) : Int :=
  let sign : Int := if k.mid < 0 then -1 else 1
  let offset :=
    match k.right with
    | none => 0
    | some r => if k.index = edge then 0 else interpolate (sign * k.left) (sign * k.mid) (sign * r)
  8 * (k.index : Int) + offset

/-- The distance of an echo in dm (R140). -/
def echoDistance (delay : Int) (offsetT nvp : Nat) : Nat :=
  let net := (delay - (offsetT : Int)).toNat
  (net * nvp * 29979 + 20000000) / 40000000

/-! ## Levels and events (R141 to R144) -/

/-- The measured level, in permille of the launch (R141). -/
def measuredLevel (y : Int) (launch : Nat) : Int := clampInt (-1000) 1000 (roundHalfAway (1000 * y) launch)

/-- The loss gain (R141). -/
def lossGain (slope distance : Nat) : Nat := 1024 + slope * distance / 16

/-- The compensated level (R141). -/
def compensatedLevel (measured : Int) (gain : Nat) : Int := clampInt (-1000) 1000 (roundHalfAway (measured * gain) 1024)

/-- The class of a kept reflection by its compensated level; none is dropped (R142). -/
def reflectionClass (level : Int) : Option Verdict :=
  if 600 ≤ level then some .opened
  else if 150 ≤ level then some .highImp
  else if level ≤ -600 then some .shorted
  else if level ≤ -150 then some .lowImp
  else none

/-- The reflection of a retained peak (R139 to R141). -/
def peakReflection (snap : Snapshot) (launch : Nat) (k : Peak) : Reflection :=
  let distance := echoDistance (k.delay 16) snap.offsetT snap.nvp
  ⟨distance, compensatedLevel (measuredLevel k.mid launch) (lossGain snap.slope distance)⟩

/-- The kept reflections: the three nearest that are not dropped (R142). -/
def keptReflections (snap : Snapshot) (launch nf : Nat) (y : List Int) : List Reflection :=
  (((retainedPeaks y (detectionThreshold nf launch)).map (peakReflection snap launch)).filter
    fun r => (reflectionClass r.level).isSome).take Config.reflectionCapacity

/-- The peak of largest magnitude, the earliest on a tie, of a list that begins with k. -/
def strongest (k : Peak) : List Peak → Peak
  | [] => k
  | x :: rest => strongest (if k.mid.natAbs < x.mid.natAbs then x else k) rest

/-- What one neighbour shows: its pair, its cross level, and the distance of its strongest correlation (R143). -/
structure CrossView where
  pair : Pair
  level : Nat
  distance : Nat
  deriving DecidableEq, Repr

/-- The cross coupling into neighbour q, whose correlation is y (R143). -/
def crossView (snap : Snapshot) (launch : Nat) (q : Pair) (y : List Int) : CrossView :=
  match searchZone y with
  | [] => ⟨q, 0, 0⟩
  | k :: rest =>
    let top := strongest k rest
    ⟨q, min 1000 (roundHalfUp (1000 * top.mid.natAbs) launch), echoDistance (top.delay 16) snap.offsetT snap.nvp⟩

/-- The greatest cross level, the earliest neighbour on a tie, of a list that begins with v. -/
def largestCross (v : CrossView) : List CrossView → CrossView
  | [] => v
  | x :: rest => largestCross (if v.level < x.level then x else v) rest

/-- The nearest of the CROSSED events, the earliest neighbour on a tie, of a list that begins with v. -/
def nearestCross (v : CrossView) : List CrossView → CrossView
  | [] => v
  | x :: rest => nearestCross (if x.distance < v.distance then x else v) rest

/-- The nearest reflection of class OPEN or SHORT that lies beyond a CROSSED event by at most 3 dm (R144). -/
def openBeyond (d : Nat) (refs : List Reflection) : Option Reflection :=
  refs.find? fun r =>
    decide (d < r.distance ∧ r.distance ≤ d + 3) &&
      (decide (reflectionClass r.level = some .opened) || decide (reflectionClass r.level = some .shorted))

/-- The verdict and the fault distance, from the kept reflections (nearest first) and the CROSSED events (R144). -/
def chooseVerdict (refs : List Reflection) (crossed : List CrossView) : Verdict × Option Nat :=
  let ofReflection (r : Reflection) : Verdict × Option Nat := ((reflectionClass r.level).getD .good, some r.distance)
  let ofCross (v : CrossView) : Verdict × Option Nat :=
    match openBeyond v.distance refs with
    | some r => ofReflection r
    | none => (.crossed v.pair, some v.distance)
  match refs, crossed with
  | [], [] => (.good, none)
  | r :: _, [] => ofReflection r
  | [], v :: vs => ofCross (nearestCross v vs)
  | r :: _, v :: vs =>
    let x := nearestCross v vs
    if r.distance ≤ x.distance then ofReflection r else ofCross x

/-! ## The pair result (R145) -/

/-- What the analysis of a pair reads from the engine (Echo Arithmetic, inputs). -/
structure PairCapture where
  pair : Pair
  sums : Four (List Int)
  floors : List Nat
  clipped : Bool
  completed : Nat
  deriving DecidableEq, Repr

/-- A pair written UNTESTABLE without analysis (R121, R145). -/
def untestedResult (c : PairCapture) : PairResult :=
  { verdict := .untestable, low := c.clipped, noisy := false, clipped := c.clipped, distance := none,
    noise := noiseFigure c.floors, cross := 0, crossPair := c.pair, reflections := [] }

/-- The result of the analysis (R134 to R145). LOW is given here to a CLIPPED pair only. -/
def analysePair (code : List Int) (snap : Snapshot) (c : PairCapture) : PairResult :=
  let ofPair (q : Pair) : List Int := correlate code (average (atPair c.sums q) c.completed)
  let nf := noiseFigure c.floors
  let noisy := isNoisy c.floors c.completed
  let y := ofPair c.pair
  let launch := largestMagnitude (y.take 16)
  if launch < 512 then
    { verdict := .untestable, low := c.clipped, noisy := noisy, clipped := c.clipped, distance := none, noise := nf,
      cross := 0, crossPair := c.pair, reflections := [] }
  else
    let refs := keptReflections snap launch nf y
    let views := (allPairs.filter fun q => decide (q ≠ c.pair)).map fun q => crossView snap launch q (ofPair q)
    let top : CrossView := match views with
      | [] => ⟨c.pair, 0, 0⟩
      | v :: vs => largestCross v vs
    let verdict := chooseVerdict refs (views.filter fun v => decide (400 ≤ v.level))
    { verdict := verdict.1, low := c.clipped, noisy := noisy, clipped := c.clipped, distance := verdict.2, noise := nf,
      cross := top.level, crossPair := top.pair, reflections := refs }

/-! ## Alien level (R146) -/

/-- The level of one listen block: the largest |y| over all four pairs and all indices. -/
def blockLevel (code : List Int) (blocks : Four (Vector Sample 512)) : Nat :=
  (allPairs.map fun q => largestMagnitude (correlate code (sampleInts (atPair blocks q)))).foldl max 0

/-- The alien level of a reading. -/
def alienLevel (reading : Nat) : Nat := min 1000 (roundHalfUp (1000 * reading) 16376)

/-! ## Calibration (R38, R147) -/

/-- The delay of the reference echo: the earliest index of the largest |y| over 0-504. -/
def referenceDelay (code : List Int) (sums : List Int) (completed : Nat) : Int :=
  match peaksFrom 0 0 (correlate code (average sums completed)) with
  | [] => 0
  | k :: rest => (strongest k rest).delay 0

/-- offset_t and the calibration-defaulted flag (R38). -/
def calibrationOffset (code : List Int) (sums : List Int) (completed : Nat) : Nat × Bool :=
  if completed = 0 then (Config.defaultOffset, true)
  else
    let delay := referenceDelay code sums completed
    if 8 ≤ delay ∧ delay ≤ 64 then (delay.toNat, false) else (Config.defaultOffset, true)

end Sys2Proof.Machine
end

