-- ==== Sys2Proof/Machine/Flags.lean ====
section
/-! DEFINITION. The change flags of the notices (R32) and the codes that status replies and notices carry (R17). -/

namespace Sys2Proof.Machine

/-- The change flags of R32. -/
inductive ChangeFlag where
  | linkUp | linkDown | parked | faultFound | faultCleared | faultMoved | sweepDone | sweepEndedEarly
  deriving DecidableEq, Repr

/-- The bit of a change flag in the byte (R17). -/
def changeBit : ChangeFlag → Byte
  | .linkUp => 0x01 | .linkDown => 0x02 | .parked => 0x04 | .faultFound => 0x08
  | .faultCleared => 0x10 | .faultMoved => 0x20 | .sweepDone => 0x40 | .sweepEndedEarly => 0x80

def State.flagsOf (s : State) (p : Port) : Byte := s.noticeFlags[p.val]

/-- A block that posts a flag for a port ORs it into that port's byte (R13). -/
def State.post (s : State) (p : Port) (f : ChangeFlag) : State :=
  { s with noticeFlags := s.noticeFlags.set p.val (s.flagsOf p ||| changeBit f) }

/-- A posted station-notice reason replaces a pending one (R13, R34). -/
def State.postStation (s : State) (r : StationNotice) : State := { s with stationNotice := some r }

/-! ## Codes of R17 -/

def laneStateCode : LaneState → Nat
  | .starting => 0 | .disabled => 1 | .advertise => 2 | .held => 3 | .negotiate => 4
  | .train => 5 | .up => 6 | .backoff => 7 | .sweepWait => 8 | .parked => 9

def holdCode (h : HoldSet) : Nat := bitOf h.sweep 0 + bitOf h.listen 1 + bitOf h.quiet 2 + bitOf h.power 3

def lastFailureCode : LastFailure → Nat
  | .none => 0 | .noCommon => 1 | .partnerFault => 2 | .negTimeout => 3 | .pairFault => 4 | .skew => 5
  | .polarity => 6 | .trainTimeout => 7 | .partnerLost => 8 | .lostEarly => 9 | .cable => 10

def queueStateCode : Option Entry → Nat
  | none => 0
  | some x => match x.state with
    | .waiting => 1 | .running => 2 | .suspended => 3

def engineStateCode : EngineState → Nat
  | .idle => 0 | .preparing => 1 | .shooting => 2 | .analysing => 3 | .listening => 4 | .calibrating => 5

def recordStatusCode : RecordStatus → Nat
  | .neverTested => 0 | .partly => 1 | .complete => 2

/-- The origin of a record; FF hex if no pair has been written (R17, R148). -/
def originCode : Option Origin → Nat
  | some .supervisor => 0 | some .laneFailure => 1 | some .linkDown => 2 | some .survey => 3 | none => 0xFF

def overallCode : Overall → Nat
  | .good => 0 | .fault => 1 | .unknown => 2

def verdictCode : Verdict → Nat
  | .good => 0 | .opened => 1 | .shorted => 2 | .highImp => 3 | .lowImp => 4 | .untestable => 5
  | .crossed q => 8 + pairNumber q

def stationNoticeCode : StationNotice → Nat
  | .started => 1 | .surveyDone => 2

/-- The grade of a status reply or notice: 1-4 if the lane is in UP, else 0 (R25, R33). -/
def gradeField (l : Lane) : Nat :=
  if l.state = .up then (match l.grade with | some g => gradeNumber g | none => 0) else 0

end Sys2Proof.Machine
end

