-- ==== Sys2Proof/Machine/Frames.lean ====
section
/-! DEFINITION. The frames the part sends (R17), the three parts of the Outbound Queue (R11 to R13) and the transmitter
(R14, R6, R7). -/

namespace Sys2Proof.Machine

/-! ## Kinds (R17) -/

/-- The supervisor kinds 01-0C. -/
inductive RequestKind where
  | stationReset | laneControl | sweep | cancelSweep | setProfile | setGuard | setSurvey | queryStation | queryPort
  | readRecord | readCoupling | clearCoupling
  deriving DecidableEq, Repr

def requestCode : RequestKind → Byte
  | .stationReset => 0x01 | .laneControl => 0x02 | .sweep => 0x03 | .cancelSweep => 0x04 | .setProfile => 0x05
  | .setGuard => 0x06 | .setSurvey => 0x07 | .queryStation => 0x08 | .queryPort => 0x09 | .readRecord => 0x0A
  | .readCoupling => 0x0B | .clearCoupling => 0x0C

def quietAskCode : Byte := 0x10
def sweepStartCode : Byte := 0x11
def sweepEndCode : Byte := 0x12
def quietEndCode : Byte := 0x13
def couplingSeenCode : Byte := 0x14

/-- The target that addresses all stations. -/
def allStations : Station := 15

/-- The supervisor bridge. -/
def supervisorStation : Station := 0

/-- The bytes of a frame on the line (R4): kind, originator and target, length, payload, and the check byte that makes
the sum of all bytes 0 modulo 256. -/
def Frame.bytes (f : Frame) (originator : Station) : List Byte :=
  let body := f.kind :: (originator ++ f.target) :: byteOf f.payload.length :: f.payload
  body ++ [0 - body.sum]

/-! ## Coordination frames (R17, R175) -/

def quietAskFrame (p : Port) (units : Nat) : Frame := ⟨quietAskCode, allStations, [byteOf (portNumber p), byteOf units]⟩

def sweepStartFrame (p : Port) (mask : PairSet) (units : Nat) : Frame :=
  ⟨sweepStartCode, allStations, [byteOf (portNumber p), byteOf mask.toNat, byteOf units]⟩

def sweepEndFrame (p : Port) : Frame := ⟨sweepEndCode, allStations, [byteOf (portNumber p)]⟩

def quietEndFrame (p : Port) : Frame := ⟨quietEndCode, allStations, [byteOf (portNumber p)]⟩

def couplingSeenFrame (sweeper : Station) (swept localPort : Port) (level : Nat) : Frame :=
  ⟨couplingSeenCode, sweeper, [byteOf (portNumber swept), byteOf (portNumber localPort)] ++ twoBytesOf level⟩

/-! ## Replies (R17, R23 to R28) -/

/-- The details of ACCEPTED (R17). -/
inductive Detail where
  | new | merged | clamped | deferred | done
  deriving DecidableEq, Repr

/-- The reasons of REFUSED (R17). -/
inductive RefuseReason where
  | badPort | badValue | guarded | linkUp | queueFull | portBusy | wrongState
  deriving DecidableEq, Repr

/-- What an owner returns to the Request Handler (R23). -/
inductive Decision where
  | accepted (d : Detail)
  | refused (r : RefuseReason)
  deriving DecidableEq, Repr

def detailCode : Detail → Byte
  | .new => 0 | .merged => 1 | .clamped => 2 | .deferred => 3 | .done => 4

def reasonCode : RefuseReason → Byte
  | .badPort => 1 | .badValue => 2 | .guarded => 3 | .linkUp => 4 | .queueFull => 5 | .portBusy => 6 | .wrongState => 7

def outcomeFrame (k : RequestKind) : Decision → Frame
  | .accepted d => ⟨0x20, supervisorStation, [requestCode k, detailCode d]⟩
  | .refused r => ⟨0x21, supervisorStation, [requestCode k, reasonCode r]⟩

def State.lanesUp (s : State) : Nat := (s.presentPorts.filter fun p => decide ((s.lane p).state = .up)).length

/-- STATION_STATUS from present values (R24, R17). -/
def State.stationStatusFrame (s : State) : Frame :=
  ⟨0x22, supervisorStation,
    twoBytes Config.vendorCode ++ twoBytes Config.partCode ++
    [Config.revision, byteOf s.station.toNat, byteOf s.portCount, byteOf (bitOf s.autostart 0), byteOf s.lanesUp,
     byteOf s.queue.length,
     byteOf (16 * engineStateCode (s.engine 0).state + engineStateCode (s.engine 1).state),
     byteOf s.surveyInterval, byteOf (bitOf s.surveyEnabled 0 + bitOf s.surveyContinuous 1),
     byteOf s.checkFailures, byteOf s.collisionErrors, byteOf s.requestsDiscarded]⟩

/-- PORT_STATUS from present values (R25, R17). -/
def State.portStatusFrame (s : State) (p : Port) : Frame :=
  let l := s.lane p
  ⟨0x23, supervisorStation,
    [byteOf (portNumber p), byteOf (laneStateCode l.state), byteOf (holdCode l.hold), byteOf (gradeField l),
     byteOf (gradeNumber l.ceiling), byteOf l.attempts, byteOf (lastFailureCode l.lastFailure), byteOf l.failureCount,
     byteOf (bitOf (inPortSet s.guards p) 0 + bitOf l.shadowPending 1 + bitOf l.calDefaulted 2),
     byteOf (queueStateCode (s.entryOf p)), byteOf (overallCode (s.record p).overall)]⟩

/-- The pair record is TESTED (R149). -/
def PairRecord.tested (r : PairRecord) : Bool := r.verdict.isSome

/-- The pairs whose pair record is TESTED (R27). -/
def CableRecord.testedMask (r : CableRecord) : PairSet :=
  allPairs.foldl (fun m q => if (atPair r.pairs q).tested then addPair m q else m) 0

/-- The content of the pieces of a record, in order (R27, R17): the header, then for each tested pair its pair piece and,
where it has reflections, its reflection piece. -/
def CableRecord.pieceContents (r : CableRecord) : List (List Byte) :=
  let header :=
    [byteOf (recordStatusCode r.status)] ++ twoBytes r.sequence ++ [byteOf (originCode r.origin)] ++ twoBytesOf r.age ++
      [byteOf (overallCode r.overall), byteOf r.testedMask.toNat]
  let ofPair (q : Pair) : List (List Byte) :=
    let x := atPair r.pairs q
    match x.verdict with
    | none => []
    | some v =>
      let pairPiece :=
        [byteOf (pairNumber q), byteOf (verdictCode v),
         byteOf (bitOf x.low 0 + bitOf x.noisy 1 + bitOf x.clipped 2)] ++
        twoBytesOf (x.distance.getD 0xFFFF) ++ twoBytesOf x.noise ++ twoBytesOf x.cross ++
        [byteOf (pairNumber x.crossPair), byteOf x.reflections.length]
      let reflectionPiece :=
        byteOf (pairNumber q) ::
          x.reflections.flatMap fun y => twoBytesOf y.distance ++ twoBytes (BitVec.ofInt 16 y.level)
      if x.reflections.isEmpty then [pairPiece] else [pairPiece, reflectionPiece]
  header :: allPairs.flatMap ofPair

/-- The pieces of a RECORD_PIECE train (R27): port, piece index, piece count, content. -/
def recordPieces (p : Port) (r : CableRecord) : List Frame :=
  let contents := r.pieceContents
  contents.zipIdx.map fun (c, i) =>
    ⟨0x24, supervisorStation, [byteOf (portNumber p), byteOf i, byteOf contents.length] ++ c⟩

/-- One entry of a COUPLING_PIECE (R17). -/
def couplingBytes (c : CouplingEntry) : List Byte :=
  [byteOf (portNumber c.localPort), byteOf (16 * c.station.toNat + portNumber c.remotePort)] ++ twoBytesOf c.level ++
    [byteOf (bitOf c.heard 0 + bitOf c.told 1), byteOf c.age]

/-- The carried entries by twos, each pair with the index of its first (R28). -/
def byTwos (i : Nat) : List CouplingEntry → List (Nat × List CouplingEntry)
  | [] => []
  | [x] => [(i, [x])]
  | x :: y :: rest => (i, [x, y]) :: byTwos (i + 2) rest

/-- The pieces of a COUPLING_PIECE train (R28): one piece for every two entries, and one piece when there is none. -/
def couplingPieces (start : Byte) (total : Nat) (entries : List CouplingEntry) : List Frame :=
  let groups := if entries.isEmpty then [(0, [])] else byTwos 0 entries
  groups.map fun (i, es) =>
    ⟨0x25, supervisorStation, [start + byteOf i, byteOf total] ++ es.flatMap couplingBytes⟩

/-- The frames of a reply-list entry, built from its snapshot (R12, R26). -/
def ReplyEntry.frames : ReplyEntry → List Frame
  | .single f => [f]
  | .recordTrain p r _ => recordPieces p r
  | .couplingTrain start total es _ => couplingPieces start total es

/-- The index of the piece an entry sends next. -/
def ReplyEntry.next : ReplyEntry → Nat
  | .single _ => 0
  | .recordTrain _ _ n => n
  | .couplingTrain _ _ _ n => n

def ReplyEntry.nextFrame (r : ReplyEntry) : Option Frame := r.frames[r.next]?

/-- After a piece has been sent or dropped: the entry with its next piece, or none when that was its last (R12). -/
def ReplyEntry.advance (r : ReplyEntry) : Option ReplyEntry :=
  if r.next + 1 < r.frames.length then
    match r with
    | .single f => some (.single f)
    | .recordTrain p x n => some (.recordTrain p x (n + 1))
    | .couplingTrain start total es n => some (.couplingTrain start total es (n + 1))
  else none

/-- Places the reply of a request at the tail of the reply list (R18, R12). -/
def State.place (s : State) (r : ReplyEntry) : State := { s with replyList := s.replyList ++ [r] }

/-- Places ACCEPTED or REFUSED for a request (R23). -/
def State.answer (s : State) (k : RequestKind) (v : Decision) : State := s.place (.single (outcomeFrame k v))

/-! ## The coordination list (R11) -/

/-- The transmitter has the head of the coordination list open. -/
def State.coordHeadOpen (s : State) : Bool :=
  match s.tx with
  | some ⟨_, .coordination⟩ => true
  | _ => false

/-- The list without its first COUPLING_SEEN; none if it has no such frame. -/
def dropOldestSeen : List CoordFrame → Option (List CoordFrame)
  | [] => none
  | x :: rest => if x.frame.kind = couplingSeenCode then some rest else (dropOldestSeen rest).map (x :: ·)

/-- The list after the eviction of R11: the oldest COUPLING_SEEN that the transmitter has not open leaves. -/
def State.evictSeen (s : State) : Option (List CoordFrame) :=
  match s.coordHeadOpen, s.coordList with
  | true, x :: rest => (dropOldestSeen rest).map (x :: ·)
  | _, l => dropOldestSeen l

/-- The head of the coordination list is evicted: the place last opened is no longer there (R7). -/
def State.headEvicted (s : State) : Bool :=
  !s.coordHeadOpen && (match s.coordList with | x :: _ => decide (x.frame.kind = couplingSeenCode) | [] => false)

/-- Posts a frame into the coordination list (R11). With 8 frames in the list, a COUPLING_SEEN is not queued and any other
kind takes the place of the oldest COUPLING_SEEN not open; by R120 there is always one. -/
def State.postCoord (s : State) (f : Frame) (e : Option EngineId) : State :=
  if s.coordList.length < Config.coordCapacity then
    { s with coordList := s.coordList ++ [⟨f, e⟩] }
  else if f.kind = couplingSeenCode then s
  else
    match s.evictSeen with
    | none => s
    | some l =>
      { s with
        coordList := l ++ [⟨f, e⟩]
        lastOpened := if s.headEvicted && decide (s.lastOpened = some .coordination) then none else s.lastOpened }

/-- A frame posted for this engine is still in the coordination list (R120). -/
def State.framesOutstanding (s : State) (e : EngineId) : Bool := s.coordList.any fun x => decide (x.engine = some e)

/-! ## Notices (R13, R33, R34) -/

def stationNoticeFrame (r : StationNotice) : Frame := ⟨0x31, supervisorStation, [byteOf (stationNoticeCode r)]⟩

/-- PORT_NOTICE with the port's current flags and the present lane state, grade and overall verdict (R33). -/
def State.portNoticeFrame (s : State) (p : Port) : Frame :=
  let l := s.lane p
  ⟨0x30, supervisorStation,
    [byteOf (portNumber p), s.flagsOf p, byteOf (laneStateCode l.state), byteOf (gradeField l),
     byteOf (overallCode (s.record p).overall)]⟩

/-- The lowest-numbered present port whose flag byte is not zero (R14). -/
def State.noticePort (s : State) : Option Port := s.presentPorts.find? fun p => decide (s.flagsOf p ≠ 0)

/-! ## The transmitter -/

/-- The first frame in the order of R14, with the place it comes from. -/
def State.firstFrame (s : State) : Option TxFrame :=
  match s.coordList with
  | x :: _ => some ⟨x.frame, .coordination⟩
  | [] =>
    match s.replyList with
    | r :: _ => r.nextFrame.map fun f => ⟨f, .reply⟩
    | [] =>
      match s.stationNotice with
      | some r => some ⟨stationNoticeFrame r, .stationNotice r⟩
      | none => s.noticePort.map fun p => ⟨s.portNoticeFrame p, .portNotice p (s.flagsOf p)⟩

/-- Two frames come from the same place, whatever content they were built with (R7). -/
def TxPlace.same : TxPlace → TxPlace → Bool
  | .coordination, .coordination => true
  | .reply, .reply => true
  | .stationNotice _, .stationNotice _ => true
  | .portNotice p _, .portNotice q _ => decide (p = q)
  | _, _ => false

/-- The transmitter opens a frame: it is busy, the line is no longer idle, and the count of consecutive collision errors
starts at 0 unless this is the frame last opened (R7, R14). -/
def State.openFrame (s : State) (t : TxFrame) : State :=
  { s with
    tx := some t
    rx := .inFrame
    collisionRun :=
      match s.lastOpened with
      | some l => if l.same t.place then s.collisionRun else 0
      | none => 0
    lastOpened := some t.place }

/-- The transmit choice of R14, made whenever the transmitter is free and the line idle (log 10). -/
def State.transmitChoice (s : State) : State :=
  if s.rx = .idle ∧ s.tx = none then
    match s.firstFrame with
    | some t => s.openFrame t
    | none => s
  else s

/-- The frame of this place has been sent or dropped: it leaves the Outbound Queue (R11 to R13). A station notice's reason
is cleared if it is the one carried (log 8); a port notice takes with it the flags it carried, one that was posted again
meanwhile among them (DESIGN CHOICE, log 27). -/
def State.leaveQueue (s : State) : TxPlace → State
  | .coordination => { s with coordList := s.coordList.tail }
  | .reply =>
    match s.replyList with
    | [] => s
    | r :: rest =>
      match r.advance with
      | some r' => { s with replyList := r' :: rest }
      | none => { s with replyList := rest }
  | .stationNotice r => if s.stationNotice = some r then { s with stationNotice := none } else s
  | .portNotice p carried => { s with noticeFlags := s.noticeFlags.set p.val (s.flagsOf p &&& ~~~carried) }

/-- The part is taking a frame that another station sends. -/
def State.receiving (s : State) : Bool := decide (s.rx = .inFrame ∧ s.tx = none)

end Sys2Proof.Machine
end

