-- ==== Sys2Proof/Machine/Grades.lean ====
section
/-! DEFINITION. Grade Resolution: the offered set, the resolved grade, the ceiling and the ladder (R93 to R105), and the
profile transfer that restores the ceiling (R42). -/

namespace Sys2Proof.Machine

/-- The offered set: advertised, allowed, and at or below the ceiling (R93). -/
def Lane.offeredSet (l : Lane) (allowed : GradeSet) : GradeSet := l.active.advertised &&& allowed &&& gradesUpTo l.ceiling

/-- The highest grade of the offered set and the partner's offer (R94). -/
def resolveGrade (offered partner : GradeSet) : Option Grade := highestGrade (offered &&& partner)

/-- The effective ceiling: the highest grade the lane could offer now (R98). -/
def Lane.effectiveCeiling (l : Lane) (allowed : GradeSet) : Option Grade := highestGrade (l.offeredSet allowed)

/-- The downshift target: the next lower grade of advertised and allowed below the effective ceiling (R100). -/
def Lane.downshiftTarget (l : Lane) (allowed : GradeSet) : Option Grade :=
  match l.effectiveCeiling allowed with
  | some c => highestGrade (l.active.advertised &&& allowed &&& gradesBelow c)
  | none => none

/-- A ceiling restore (R103). The advertised set is never empty (R41), so the ceiling's own value is never kept. -/
def Lane.restoreCeiling (l : Lane) (allowed : GradeSet) : Lane :=
  let best :=
    match highestGrade (l.active.advertised &&& allowed) with
    | some g => g
    | none => (highestGrade l.active.advertised).getD l.ceiling
  { l with ceiling := best, attempts := 0 }

/-- What the ladder rules on a failure (R99). -/
inductive LadderOutcome where
  | retry | downshift | park
  deriving DecidableEq, Repr

/-- The ladder (R99). -/
def Lane.ladder (l : Lane) (allowed : GradeSet) : Lane × LadderOutcome :=
  let n := l.attempts + 1
  if n < l.active.attempts then ({ l with attempts := n }, .retry)
  else
    match l.active.downshift, l.downshiftTarget allowed with
    | true, some g => ({ l with ceiling := g, attempts := 0 }, .downshift)
    | _, _ => ({ l with attempts := n }, .park)

/-- A transfer point: a pending shadow becomes active and the ceiling is restored; the transfer-owed flag is cleared
(R42, R63). -/
def Lane.transfer (l : Lane) (allowed : GradeSet) : Lane :=
  let l := { l with transferOwed := false }
  if l.shadowPending then { l with active := l.shadow, shadowPending := false }.restoreCeiling allowed else l

end Sys2Proof.Machine
end

