-- ==== Sys2Proof/Machine/Tap.lean ====
section
/-! DEFINITION. The commands on a port's tap: who may issue them, the capture tags, and how a port changes hands (R46 to
R51). -/

namespace Sys2Proof.Machine

/-- A command goes down the tap; it closes the open capture (R46, R49). -/
def Lane.issue (l : Lane) (c : TapCommand) : Lane :=
  { l with tapCommand := some c, outstanding := none, captureDue := none }

/-- A capture command goes down the tap: it takes the counter's value as its tag, the counter goes on, and the capture is
open, with a timeout for SHOOT and CAL_SHOOT (R49 to R51). -/
def Lane.issueCapture (l : Lane) (command : Byte → TapCommand) (due : Option Ms) : Lane :=
  { l with
    tapCommand := some (command l.tagCounter)
    outstanding := some l.tagCounter
    tagCounter := l.tagCounter + 1
    captureDue := due }

/-- The open capture closes (R49). -/
def Lane.closeCapture (l : Lane) : Lane := { l with outstanding := none, captureDue := none }

/-- The tap command of a lane's present state (R61). In NEGOTIATE the lane's word stays as it was last sent. -/
def Lane.stateCommand (l : Lane) : Option TapCommand :=
  match l.state with
  | .starting => none
  | .disabled => some .sendQuiet
  | .advertise => some (.sendWord l.offered false)
  | .held => some .sendQuiet
  | .negotiate => some (.sendWord l.offered l.neg.ownAck)
  | .train => l.training.map .train
  | .up => none
  | .backoff => some .sendQuiet
  | .sweepWait => some .sendQuiet
  | .parked => some .sendQuiet

/-- The listen job a port is in: the engine that runs it and the port's membership (R168). -/
def State.memberOf (s : State) (p : Port) : Option (EngineId × Member) :=
  allEngines.findSome? fun e =>
    (s.engine e).job.bind fun j => (j.members.find? fun m => decide (m.port = p)).map fun m => (e, m)

/-- A member leaves the job of engine e with its reading. When it was the last, the job ends at once and the engine goes
IDLE (R171). -/
def State.detachMember (s : State) (e : EngineId) (p : Port) : State :=
  match (s.engine e).job with
  | none => s
  | some j =>
    let rest := j.members.filter fun m => decide (m.port ≠ p)
    if rest.isEmpty then s.setEngine e .idle
    else s.modifyEngine e fun g => { g with job := some { j with members := rest } }

/-- The lane takes its port back from a listening engine, LISTEN leaving its hold set, and issues a command (R47, R171). -/
def Lane.takeBack (l : Lane) (c : TapCommand) : Lane :=
  { l with holder := .lane, hold := { l.hold with listen := false } }.issue c

/-- The lane issues a command. While an engine holds the port the command is withheld; but while the engine only listens, a
lane that sends words or trains takes its port back and is dropped from the job, LISTEN with it (R47, R171). -/
def State.laneIssue (s : State) (p : Port) (c : TapCommand) : State :=
  match (s.lane p).holder with
  | .lane => s.modifyLane p (·.issue c)
  | .engine e =>
    if (s.engine e).state = .listening ∧ c ≠ .sendQuiet then
      (s.detachMember e p).modifyLane p (·.takeBack c)
    else s

/-- A lane that comes to rest issues the command of its state (R61). -/
def State.laneCommand (s : State) (p : Port) : State :=
  match (s.lane p).stateCommand with
  | some c => s.laneIssue p c
  | none => s

/-- An engine releases a port: the open capture closes, the lane holds the tap again and issues the command of its present
state (R47, R49). -/
def Lane.release (l : Lane) : Lane :=
  let l := { l.closeCapture with holder := .lane }
  match l.stateCommand with
  | some c => l.issue c
  | none => l

/-- Engine e releases a port if it holds it (R47). -/
def State.releasePort (s : State) (e : EngineId) (p : Port) : State :=
  if (s.lane p).holder = .engine e then s.modifyLane p Lane.release else s

/-- The engine holds the tap and issues a SHOOT or CAL_SHOOT that times out at `due` (R47, R51). -/
def Lane.shoot (l : Lane) (e : EngineId) (command : Byte → TapCommand) (due : Ms) : Lane :=
  { l with holder := .engine e }.issueCapture command (some due)

/-- The engine holds the tap and issues LISTEN on all four pairs (R169, R50). -/
def Lane.listen (l : Lane) (e : EngineId) : Lane := { l with holder := .engine e }.issueCapture (.listen allPairSet) none

/-- Engine e issues a SHOOT or CAL_SHOOT on a port, taking the port if the lane still holds it (R47, R49, R51). -/
def State.shootPort (s : State) (e : EngineId) (p : Port) (command : Byte → TapCommand) : State :=
  s.modifyLane p (·.shoot e command (s.after Config.captureTimeoutMs))

/-- Engine e takes a member's port and issues LISTEN on all four pairs; a LISTEN has no timeout (R169, R50). -/
def State.listenPort (s : State) (e : EngineId) (p : Port) : State :=
  s.modifyLane p (·.listen e)

end Sys2Proof.Machine
end

