-- ==== Sys2Proof/Machine/Lanes.lean ====
section
/-! DEFINITION. The lane state machine: entering states, the hold set, the quiet-hold list, leaving UP (R61 to R71). -/

namespace Sys2Proof.Machine

/-! ## Entering a state -/

/-- A lane enters a state other than NEGOTIATE, TRAIN and UP. Leaving its old state cancels that state's timer (R91); the
plain-pulse measurement (R56), the negotiation record (R83) and the grade (R85) do not outlive it. -/
def Lane.rest (l : Lane) (st : LaneState) : Lane :=
  { l with
    state := st, timer := none, pulseCount := 0, lastPulse := none, neg := .cleared, grade := none, training := none }

/-- A lane comes to rest in a state and issues that state's command (R61). -/
def State.restIn (s : State) (p : Port) (st : LaneState) : State := (s.modifyLane p (·.rest st)).laneCommand p

def State.enterHeld (s : State) (p : Port) : State := s.restIn p .held

def State.enterDisabled (s : State) (p : Port) : State := s.restIn p .disabled

/-- Every entry into PARKED posts PARKED (R90). -/
def State.enterParked (s : State) (p : Port) : State := (s.restIn p .parked).post p .parked

/-- A state's timer starts (R91). -/
def Lane.startTimer (l : Lane) (k : LaneTimer) (due : Ms) : Lane := { l with timer := some (k, due) }

/-- Entry into BACKOFF: its 1,000 ms timer, or HELD at once if the hold set is not empty (R71). -/
def State.enterBackoff (s : State) (p : Port) : State :=
  if (s.lane p).hold = .empty then
    (s.restIn p .backoff).modifyLane p (·.startTimer .backoff (s.after Config.backoffMs))
  else s.enterHeld p

/-- Step 1 of an entry into ADVERTISE: the transfer, where the entry is a transfer point or one is owed (R62, R63). -/
def Lane.transferAt (l : Lane) (allowed : GradeSet) (transferPoint : Bool) : Lane :=
  if transferPoint || l.transferOwed then l.transfer allowed else l

/-- Steps 2 and 3: measurements and negotiation record cleared, the offered set formed (R62). -/
def Lane.formOffer (l : Lane) (allowed : GradeSet) : Lane := { l.rest .advertise with offered := l.offeredSet allowed }

/-- A park for an empty offered set records CABLE (R62, R102). -/
def Lane.recordCable (l : Lane) : Lane := { l with lastFailure := .cable }

/-- Steps 3 to 5 with the lane's offered set formed: PARKED with CABLE if it is empty (R102), HELD if the hold set is not,
else ADVERTISE (R62). -/
def State.settleAdvertise (s : State) (p : Port) (l : Lane) : State :=
  if l.offered = 0 then (s.setLane p l.recordCable).enterParked p
  else if l.hold = .empty then (s.setLane p l).laneCommand p
  else (s.setLane p l).enterHeld p

/-- Every entry into ADVERTISE (R62). -/
def State.enterAdvertise (s : State) (p : Port) (transferPoint : Bool) : State :=
  let allowed := (s.record p).allowed
  s.settleAdvertise p (((s.lane p).transferAt allowed transferPoint).formOffer allowed)

/-- A transfer point with the ceiling restored whether or not a shadow is pending, as ENABLE, RETRAIN, UNPARK, STATION_RESET
and the end of start-up ask (R104). -/
def State.transferAndRestore (s : State) (p : Port) : State :=
  s.modifyLane p fun l => (l.transfer (s.record p).allowed).restoreCeiling (s.record p).allowed

/-- NEGOTIATE with the negotiate window started (R72). -/
def State.enterNegotiate (s : State) (p : Port) : State :=
  let l := s.lane p
  s.setLane p ((l.rest .negotiate).startTimer .negotiate (s.after (l.active.negWindow * 100)))

/-- TRAIN at a grade, with the train window started (R76). -/
def State.enterTrain (s : State) (p : Port) (g : Grade) : State :=
  let l := (s.lane p).rest .train
  (s.setLane p
    ({ l with training := some g }.startTimer .train (s.after (l.active.trainWindow * 100)))).laneCommand p

/-! ## The hold set -/

inductive HoldReason where
  | sweep | listen | quiet | power
  deriving DecidableEq, Repr

def HoldSet.has (h : HoldSet) : HoldReason → Bool
  | .sweep => h.sweep | .listen => h.listen | .quiet => h.quiet | .power => h.power

def HoldSet.put (h : HoldSet) (r : HoldReason) (b : Bool) : HoldSet :=
  match r with
  | .sweep => { h with sweep := b }
  | .listen => { h with listen := b }
  | .quiet => { h with quiet := b }
  | .power => { h with power := b }

/-- A reason is put into or taken from the hold set; nothing else changes. -/
def State.putReason (s : State) (p : Port) (r : HoldReason) (b : Bool) : State :=
  s.modifyLane p fun l => { l with hold := l.hold.put r b }

/-- A lane drops or loses its UP link: LINK_DOWN is posted, and POWER is carried into the hold set if the power-detect flag
is set (R66, R83, R85). The state it goes to is the caller's. -/
def State.leaveUp (s : State) (p : Port) : State :=
  (s.post p .linkDown).modifyLane p fun l => { l with hold := { l.hold with power := l.hold.power || l.power } }

/-- A reason reaches the lane (R64 to R66). A reason already present changes nothing. -/
def State.addReason (s : State) (p : Port) (r : HoldReason) : State :=
  let l := s.lane p
  if l.hold.has r then s
  else
    match l.state with
    | .advertise | .backoff => (s.putReason p r true).enterHeld p
    | .negotiate | .train =>
      match r with
      | .quiet => s.putReason p r true
      | .listen => s
      | .sweep | .power => (s.putReason p r true).enterHeld p
    | .up =>
      match r with
      | .quiet => s.putReason p r true
      | .sweep =>
        (((s.leaveUp p).modifyLane p fun x => { x with transferOwed := true }).putReason p r true).enterHeld p
      | .listen | .power => s
    | .starting | .disabled | .held | .sweepWait | .parked => s.putReason p r true

/-- A HELD lane whose hold set is empty enters ADVERTISE (R64). -/
def State.leaveHeldIfFree (s : State) (p : Port) : State :=
  if (s.lane p).state = .held ∧ (s.lane p).hold = .empty then s.enterAdvertise p false else s

/-- A reason leaves the lane (R64). A reason that is absent changes nothing. -/
def State.dropReason (s : State) (p : Port) (r : HoldReason) : State :=
  if (s.lane p).hold.has r then (s.putReason p r false).leaveHeldIfFree p else s

/-! ## The quiet-hold list -/

def QuietRecord.hasKey (q : QuietRecord) (st : Station) (port : Port) : Bool :=
  decide (q.asker = st) && decide (q.askerPort = port)

/-- The time left to an expiry, by which expiries are compared across the wrap of the count (R67; log 12). -/
def QuietRecord.left (q : QuietRecord) (now : Ms) : Nat := timeBetween now q.expiry

/-- The order in which a full list gives up a record: earliest expiry, then lowest asker station, then lowest port (R67). -/
def QuietRecord.before (now : Ms) (a b : QuietRecord) : Bool :=
  if a.left now ≠ b.left now then decide (a.left now < b.left now)
  else if a.asker ≠ b.asker then decide (a.asker.toNat < b.asker.toNat)
  else decide (a.askerPort.val < b.askerPort.val)

/-- The record that leaves first, of a list that begins with q. -/
def earliestQuiet (now : Ms) (q : QuietRecord) : List QuietRecord → QuietRecord
  | [] => q
  | x :: rest => earliestQuiet now (if x.before now q then x else q) rest

/-- The quiet-hold list after an ask (R67). -/
def placeQuiet (now : Ms) (list : List QuietRecord) (ask : QuietRecord) : List QuietRecord :=
  if list.any (·.hasKey ask.asker ask.askerPort) then
    list.map fun q => if q.hasKey ask.asker ask.askerPort then ask else q
  else if list.length < Config.quietCapacity then list ++ [ask]
  else
    match list with
    | [] => list
    | q :: rest =>
      let first := earliestQuiet now q rest
      if first.left now < ask.left now then (list.filter fun x => decide (x ≠ first)) ++ [ask] else list

/-- A quiet ask delivered to a lane; QUIET joins the hold set when the list gains its first record (R67). -/
def State.quietAskLane (s : State) (p : Port) (ask : QuietRecord) : State :=
  let first := (s.lane p).quiet.isEmpty
  let s := s.modifyLane p fun l => { l with quiet := placeQuiet s.ms l.quiet ask }
  if first then s.addReason p .quiet else s

/-- The record of a key leaves a lane's list, at its expiry or its asker's end frame; QUIET leaves with the last (R68). -/
def State.quietEndLane (s : State) (p : Port) (st : Station) (port : Port) : State :=
  let l := s.lane p
  if l.quiet.any (·.hasKey st port) then
    let s := s.modifyLane p fun x => { x with quiet := x.quiet.filter fun q => !q.hasKey st port }
    if (s.lane p).quiet = [] then s.dropReason p .quiet else s
  else s

end Sys2Proof.Machine
end

