-- ==== Sys2Proof/Machine/Queue.lean ====
section
/-! DEFINITION. The Sweep Queue: requests, merging and removal (R109 to R116); and a lane's failures, which may request a
sweep (R78 to R81). -/

namespace Sys2Proof.Machine

/-- Rank of an origin, 1 highest (The Sweep Queue and Engines). -/
def originRank : Origin → Nat
  | .supervisor => 1 | .laneFailure => 2 | .linkDown => 3 | .survey => 4

/-- A request to the Sweep Scheduler. -/
structure SweepRequest where
  port : Port
  mask : PairSet
  depth : Nat
  origin : Origin
  force : Bool
  deriving DecidableEq, Repr

/-- What becomes of a request: a new entry (R110), a merge (R111), or nothing, because the port's entry is RUNNING or the
queue holds 6 (R112). -/
inductive RequestOutcome where
  | new | merged | running | full
  deriving DecidableEq, Repr

def RequestOutcome.queued : RequestOutcome → Bool
  | .new => true
  | .merged => true
  | .running => false
  | .full => false

/-- The entry a request makes (R110). -/
def SweepRequest.newEntry (r : SweepRequest) : Entry :=
  { port := r.port, mask := r.mask, depth := r.depth, origin := r.origin, force := r.force, state := .waiting,
    completed := 0, retries := 0, snapshot := none, engine := none, cancelPending := false }

/-- The entry after a merge (R111). -/
def Entry.merge (x : Entry) (r : SweepRequest) : Entry :=
  { x with
    mask := x.mask ||| r.mask
    depth := max x.depth r.depth
    origin := if originRank r.origin < originRank x.origin then r.origin else x.origin
    force := x.force || r.force }

/-- The pairs of the mask not yet completed. -/
def Entry.remaining (x : Entry) : PairSet := x.mask &&& ~~~x.completed

/-- What the Scheduler decides on a request, without carrying it out (R110 to R112). -/
def State.requestOutcome (s : State) (p : Port) : RequestOutcome :=
  match s.entryOf p with
  | some x => if x.state = .running then .running else .merged
  | none => if s.queue.length < Config.queueCapacity then .new else .full

/-- The Scheduler takes, merges or drops a request (R110 to R112). -/
def State.requestSweep (s : State) (r : SweepRequest) : State :=
  match s.requestOutcome r.port with
  | .new => { s with queue := s.queue ++ [r.newEntry] }
  | .merged => s.modifyEntry r.port (·.merge r)
  | .running => s
  | .full => s

/-- An automatic request: all four pairs at the active profile's default depth, force clear. -/
def State.automaticRequest (s : State) (p : Port) (o : Origin) : SweepRequest :=
  ⟨p, allPairSet, (s.lane p).active.depth, o, false⟩

/-! ## What the lane is told of its entry (R81, R82) -/

/-- The port's entry is WAITING or SUSPENDED. -/
def State.entryStands (s : State) (p : Port) : Bool :=
  match s.entryOf p with
  | some x => decide (x.state ≠ .running)
  | none => false

/-- A SWEEP_WAIT lane whose entry is WAITING or SUSPENDED, with partner energy present, enters ADVERTISE (R81). -/
def State.sweepWaitTest (s : State) (p : Port) : State :=
  if (s.lane p).state = .sweepWait ∧ (s.lane p).energy = true ∧ s.entryStands p = true then s.enterAdvertise p false
  else s

/-- The entry has been removed: SWEEP leaves, and the lane acts on the removal by its state (R82). -/
def State.laneEntryRemoved (s : State) (p : Port) : State :=
  let s := s.putReason p .sweep false
  if (s.lane p).state = .sweepWait then s.enterBackoff p else s.leaveHeldIfFree p

/-- The entry has been suspended: SWEEP leaves, and the lane acts by R64 and R81 (R82). -/
def State.laneEntrySuspended (s : State) (p : Port) : State := (s.dropReason p .sweep).sweepWaitTest p

/-- The outcomes of a removal (R116). -/
inductive RemovalOutcome where
  | done | cancelled | preempted | guarded
  deriving DecidableEq, Repr

def removalFlag : RemovalOutcome → ChangeFlag
  | .done => .sweepDone
  | .cancelled | .preempted | .guarded => .sweepEndedEarly

/-- The entry of a port is removed with an outcome: flag, queue, lane (R116 steps 1 to 3). The start choice of step 4 is
made at the end of the command (log 10). -/
def State.removeEntry (s : State) (p : Port) (o : RemovalOutcome) : State :=
  let s := s.post p (removalFlag o)
  let s := { s with queue := s.queue.filter fun x => decide (x.port ≠ p) }
  s.laneEntryRemoved p

/-! ## Failures -/

/-- Entry into SWEEP_WAIT with the entry just queued or merged, left at once for ADVERTISE while the partner is still
sending (R81). -/
def State.enterSweepWait (s : State) (p : Port) : State :=
  if (s.lane p).energy then s.enterAdvertise p false else s.restIn p .sweepWait

/-- Step 1 of a failure: the state's timer, the reason, the count (R79). -/
def Lane.countFailure (l : Lane) (reason : LastFailure) : Lane :=
  { l with timer := none, lastFailure := reason, failureCount := countUp 255 l.failureCount }

/-- Step 2: the failure asks for a sweep (R79). -/
def Lane.asksSweep (l : Lane) (cableRelated : Bool) : Bool :=
  l.active.autoSweep && cableRelated && decide (l.attempts = 0)

/-- The next state after a failure, from the ladder's outcome and whether a sweep was queued or merged (R80). -/
def State.afterFailure (s : State) (p : Port) (queued : Bool) : LadderOutcome → State
  | .park => s.enterParked p
  | .retry | .downshift => if queued then s.enterSweepWait p else s.enterBackoff p

/-- A counted failure, in the order of R79, and the next state of R80. -/
def State.failLane (s : State) (p : Port) (reason : LastFailure) (cableRelated : Bool) : State :=
  let asks := (s.lane p).asksSweep cableRelated
  let queued := asks && (s.requestOutcome p).queued
  let s := s.modifyLane p (·.countFailure reason)
  let s := if asks then s.requestSweep (s.automaticRequest p .laneFailure) else s
  let ruled := (s.lane p).ladder (s.record p).allowed
  (s.setLane p ruled.1).afterFailure p queued ruled.2

/-- The lane in UP at LOCKED: the grade trained and UP start (R84). -/
def Lane.goUp (l : Lane) (now : Ms) : Lane :=
  { l with
    state := .up, timer := none, pulseCount := 0, lastPulse := none, neg := .cleared, grade := l.training,
    training := none, upStart := now }

/-- A non-forced WAITING or SUSPENDED entry whose lane has reached UP is removed as PREEMPTED (R84, R116). -/
def State.preempt (s : State) (p : Port) : State :=
  match s.entryOf p with
  | some x => if x.state ≠ .running ∧ x.force = false then s.removeEntry p .preempted else s
  | none => s

/-- The lane enters UP on LOCKED and posts LINK_UP (R84). No command is issued. -/
def State.enterUp (s : State) (p : Port) : State := ((s.modifyLane p (·.goUp s.ms)).post p .linkUp).preempt p

end Sys2Proof.Machine
end

