-- ==== Sys2Proof/Machine/Records.lean ====
section
/-! DEFINITION. The cable records: change detection, pair writes, the allowed set and its hand-over to the lane (R148 to
R158, R96, R97, R106). -/

namespace Sys2Proof.Machine

/-- OPEN, SHORT, HIGH_IMP, LOW_IMP and CROSSED are fault verdicts (R96, R155). -/
def Verdict.isFault : Verdict → Bool
  | .good => false
  | .untestable => false
  | .opened | .shorted | .highImp | .lowImp | .crossed _ => true

/-- The verdict of a TESTED pair record passes a test. -/
def PairRecord.judged (x : PairRecord) (test : Verdict → Bool) : Bool :=
  match x.verdict with
  | some v => test v
  | none => false

/-- The pair is restricting with OPEN, SHORT or CROSSED (R96). -/
def cutsPair (x : PairRecord) : Bool :=
  !x.low && x.judged fun v => match v with
    | .opened | .shorted | .crossed _ => true
    | .good | .untestable | .highImp | .lowImp => false

/-- The pair is restricting with HIGH_IMP or LOW_IMP (R96). -/
def weakensPair (x : PairRecord) : Bool :=
  !x.low && x.judged fun v => match v with
    | .highImp | .lowImp => true
    | .good | .untestable | .opened | .shorted | .crossed _ => false

/-- The allowed set, by the first row of R96 that applies. -/
def allowedSet (pairs : Four PairRecord) : GradeSet :=
  if cutsPair pairs.a || cutsPair pairs.b then 0b0000
  else if cutsPair pairs.c || cutsPair pairs.d then 0b0011
  else if weakensPair pairs.a || weakensPair pairs.b || weakensPair pairs.c || weakensPair pairs.d then 0b0111
  else 0b1111

/-- The number of TESTED pair records. -/
def testedCount (pairs : Four PairRecord) : Nat := (allPairs.filter fun q => (atPair pairs q).tested).length

/-- The status (R151). -/
def statusOf (pairs : Four PairRecord) : RecordStatus :=
  match testedCount pairs with
  | 0 => .neverTested
  | 4 => .complete
  | _ => .partly

/-- The overall verdict, by the first row of R154 that applies. -/
def overallOf (pairs : Four PairRecord) : Overall :=
  let has (f : PairRecord → Bool) : Bool := allPairs.any fun q => f (atPair pairs q)
  if has fun x => x.judged Verdict.isFault then .fault
  else if has fun x => !x.tested || x.judged fun v => decide (v = .untestable) then .unknown
  else .good

/-- The distances differ by more than 10 dm (R155). A fault verdict always has a distance (R149). -/
def distanceMoved (old new : Option Nat) : Bool :=
  let a := old.getD 0
  let b := new.getD 0
  decide (10 < a - b) || decide (10 < b - a)

/-- At most one change flag for a write (R155). -/
def changeFlag (old : PairRecord) (new : PairResult) : Option ChangeFlag :=
  if old.judged Verdict.isFault then
    if !new.verdict.isFault then some .faultCleared
    else if old.verdict ≠ some new.verdict then some .faultMoved
    else if distanceMoved old.distance new.distance then some .faultMoved
    else none
  else if new.verdict.isFault then some .faultFound
  else none

/-- The TESTED pair record of a result, field for field (R149, R150 step 2). -/
def PairResult.record (x : PairResult) : PairRecord :=
  { verdict := some x.verdict, low := x.low, noisy := x.noisy, clipped := x.clipped, distance := x.distance, noise := x.noise,
    cross := x.cross, crossPair := x.crossPair, reflections := x.reflections }

/-- The record after a write: the pair record replaced whole, the header and the allowed set brought up to date
(R150 steps 2 to 4, R151 to R154, R156). -/
def CableRecord.write (r : CableRecord) (q : Pair) (x : PairResult) (origin : Origin) (completing : Bool) : CableRecord :=
  let pairs := putPair r.pairs q x.record
  { status := statusOf pairs
    sequence := if completing then r.sequence + 1 else r.sequence
    origin := some origin
    age := 0
    overall := overallOf pairs
    pairs := pairs
    allowed := allowedSet pairs }

/-- The allowed set grew: it has more members than the old, the possible sets being nested (R96). -/
def setGrew (old new : GradeSet) : Bool := decide (new ≠ old) && decide (new &&& old = old)

/-- A PARKED lane whose allowed set grew is released (R106). -/
def State.unparkByRecord (s : State) (p : Port) : State :=
  let allowed := (s.record p).allowed
  (s.modifyLane p fun l => { l.restoreCeiling allowed with lastFailure := .none }).enterAdvertise p true

/-- The hand-over of the allowed set to the lane (R97). -/
def State.handOver (s : State) (p : Port) (old new : GradeSet) : State :=
  if (s.lane p).state = .parked ∧ setGrew old new then s.unparkByRecord p else s

def State.postOption (s : State) (p : Port) : Option ChangeFlag → State
  | some f => s.post p f
  | none => s

/-- A pair write, taken whole in the order of R150. -/
def State.pairWrite (s : State) (p : Port) (q : Pair) (x : PairResult) (origin : Origin) (completing : Bool) : State :=
  let old := s.record p
  let flag := changeFlag (atPair old.pairs q) x
  let new := old.write q x origin completing
  ((s.setRecord p new).handOver p old.allowed new.allowed).postOption p flag

/-- The age of a record counts a whole minute (R153). -/
def CableRecord.ageMinute (r : CableRecord) : CableRecord := { r with age := countUp 65535 r.age }

end Sys2Proof.Machine
end

