-- ==== Sys2Proof/Machine/Sweeps.lean ====
section
/-! DEFINITION. A sweep on an engine: the start choice, passes, shots, analysis, completion, stop and suspension (R115 to
R127), and the listen-job drop that a start causes (R171). -/

namespace Sys2Proof.Machine

/-! ## Leaving a listen job -/

/-- The lane of a port drops out of its listen job, if it is in one: its reading is discarded, the engine releases the port,
and LISTEN leaves if the job gave it (R171). -/
def State.listenDrop (s : State) (p : Port) : State :=
  match s.memberOf p with
  | none => s
  | some (e, m) =>
    let s := (s.detachMember e p).releasePort e p
    if m.given then s.dropReason p .listen else s

/-! ## The start choice (R117 to R119) -/

/-- The lane states in which an entry may start without force (R117). -/
def LaneState.sweepable : LaneState → Bool
  | .disabled | .advertise | .backoff | .held | .sweepWait | .parked => true
  | .starting | .negotiate | .train | .up => false

/-- R117. -/
def State.startable (s : State) (x : Entry) : Bool :=
  let l := s.lane x.port
  decide (x.state ≠ .running) &&
  (l.state.sweepable || (decide (l.state = .up) && x.force)) &&
  !l.power &&
  (x.force || !l.energy)

/-- A forced WAITING or SUSPENDED entry whose lane is in UP on a guarded port (R118). -/
def State.guardBlocked (s : State) (x : Entry) : Bool :=
  decide (x.state ≠ .running) && x.force && decide ((s.lane x.port).state = .up) && inPortSet s.guards x.port

/-- The entries the guard set blocks are removed with outcome GUARDED (R118). -/
def State.removeGuarded (s : State) : State :=
  (s.queue.filter s.guardBlocked).foldl (fun s x => s.removeEntry x.port .guarded) s

/-- The entry an engine takes: the first startable one of the supervisor's, else the first startable one (R118). -/
def State.chosenEntry (s : State) : Option Entry :=
  match s.queue.find? fun x => s.startable x && decide (x.origin = .supervisor) with
  | some x => some x
  | none => s.queue.find? s.startable

/-- What a sweep measures with, from the lane as it stands (R119 step 2). -/
def Lane.snapshot (l : Lane) : Snapshot := ⟨l.active.nvp, l.active.slope, l.offsetT⟩

/-- Engine e starts the entry of a port, in the order of R119. -/
def State.startEntry (s : State) (e : EngineId) (p : Port) : State :=
  let snap := (s.lane p).snapshot
  let s := s.modifyEntry p fun x =>
    { x with state := .running, engine := some e, snapshot := some (x.snapshot.getD snap) }
  let s := s.setEngine e { Engine.idle with state := .preparing, bound := some p }
  (s.listenDrop p).addReason p .sweep

/-- An engine that is IDLE makes the start choice (R118). -/
def State.engineChooses (s : State) (e : EngineId) : State :=
  if (s.engine e).state = .idle then
    let s := s.removeGuarded
    match s.chosenEntry with
    | some x => s.startEntry e x.port
    | none => s
  else s

/-- The start choice: engine 0 first, then engine 1; and engine 0 again if engine 1's start freed it by ending its listen
job (R118, R171). -/
def State.startChoice (s : State) : State := ((s.engineChooses 0).engineChooses 1).engineChooses 0

/-! ## Coordination frames of a sweep (R120, R124) -/

/-- QUIET_ASK's hold units: (n × (2^k + 2) + 20) ms in units of 10 ms, rounded up and clamped to 1-255 (R120). -/
def holdUnits (n k : Nat) : Nat := clampNat 1 255 (divUp (n * (2 ^ k + 2) + 20) 10)

/-- SWEEP_START's listen units: (n × 2^k + 10) ms in units of 10 ms, rounded up (R120). -/
def listenUnits (n k : Nat) : Nat := divUp (n * 2 ^ k + 10) 10

/-- The end frame that the announcement calls for at a stop or suspension; the announcement becomes NONE (R124). -/
def State.postEndFrame (s : State) (e : EngineId) (p : Port) : State :=
  let s' := match (s.engine e).announcement with
    | .none => s
    | .asked => s.postCoord (quietEndFrame p) (some e)
    | .started => s.postCoord (sweepEndFrame p) (some e)
  s'.modifyEngine e fun g => { g with announcement := .none }

/-- The engine releases the port, unbinds the entry and goes IDLE. -/
def State.freeEngine (s : State) (e : EngineId) (p : Port) : State := (s.releasePort e p).setEngine e .idle

/-! ## The ends of a sweep -/

/-- A sweep completes (R125). -/
def State.completeSweep (s : State) (e : EngineId) (p : Port) : State :=
  let s := (s.postCoord (sweepEndFrame p) (some e)).modifyEngine e fun g => { g with announcement := .none }
  (s.freeEngine e p).removeEntry p .done

/-- The engine of a cancelled entry stops (R115). -/
def State.cancelStop (s : State) (e : EngineId) (p : Port) : State :=
  ((s.postEndFrame e p).freeEngine e p).removeEntry p .cancelled

/-- A RUNNING entry is suspended (R126). -/
def State.suspendSweep (s : State) (e : EngineId) (p : Port) : State :=
  let s := (s.postEndFrame e p).freeEngine e p
  let s := s.modifyEntry p fun x => { x with state := .suspended, engine := none, cancelPending := false }
  s.laneEntrySuspended p

/-- An ENERGY on or POWER_DETECT begin suspends the sweep of a port whose engine is in PREPARING or SHOOTING; with
`sparesForced` a forced entry carries on (R126, R53, R59). -/
def State.suspendOn (s : State) (p : Port) (sparesForced : Bool) : State :=
  match s.entryOf p with
  | some x =>
    match x.engine with
    | some e =>
      let st := (s.engine e).state
      if x.state = .running ∧ (st = .preparing ∨ st = .shooting) ∧ (sparesForced && x.force) = false then
        s.suspendSweep e p
      else s
    | none => s
  | none => s

/-- The flags that suspend a sweep after an analysis and at a pass end (R122, R123). -/
def State.mustSuspend (s : State) (x : Entry) : Bool :=
  let l := s.lane x.port
  (!x.force && l.energy) || l.power

/-! ## Shooting (R121, R133) -/

/-- The engine's working state cleared for a current pair (R133). -/
def Engine.beginPair (g : Engine) (q : Pair) : Engine :=
  { g with
    state := .shooting, current := some q, issued := 0, completed := 0, failedRun := 0,
    sums := ⟨clearedSums, clearedSums, clearedSums, clearedSums⟩, floors := [], clipped := false, timer := none }

/-- The engine issues the next SHOOT on its current pair (R121). -/
def State.fireShot (s : State) (e : EngineId) (p : Port) (q : Pair) : State :=
  (s.modifyEngine e fun g => { g with issued := g.issued + 1 }).shootPort e p (.shoot q)

/-- The engine takes a pair as its current pair and enters SHOOTING (R120 step 5, R122 step 3). -/
def State.beginPair (s : State) (e : EngineId) (p : Port) (q : Pair) : State :=
  (s.modifyEngine e (·.beginPair q)).fireShot e p q

/-- A completed shot is accumulated: sums, floor, clipping; shots completed rises and the run of failures ends (R121,
R133). -/
def Engine.accumulate (g : Engine) (q : Pair) (blocks : Four ShotBlock) : Engine :=
  let sum (r : Pair) : List Int := addSamples (atPair g.sums r) (sampleInts (atPair blocks r).window)
  { g with
    sums := ⟨sum .a, sum .b, sum .c, sum .d⟩
    floors := g.floors ++ [shotFloor (atPair blocks q).pre]
    clipped := g.clipped || windowClips (atPair blocks q).window
    completed := g.completed + 1
    failedRun := 0 }

/-- What the analysis reads of an engine (R122). -/
def Engine.capture (g : Engine) (q : Pair) : PairCapture := ⟨q, g.sums, g.floors, g.clipped, g.completed⟩

/-! ## After a pair: next pair, suspension, pass end (R122, R123) -/

/-- The end of a pass: completion, suspension, or SWEEP_END and a noise retry (R123). -/
def State.passEnd (s : State) (e : EngineId) (x : Entry) : State :=
  if (s.engine e).heldBack = 0 then s.completeSweep e x.port
  else if s.mustSuspend x then s.suspendSweep e x.port
  else
    let due := s.after Config.retryWaitMs
    let s := s.postCoord (sweepEndFrame x.port) (some e)
    let s := s.modifyEntry x.port fun y => { y with retries := y.retries + 1 }
    s.modifyEngine e fun g =>
      { g with state := .preparing, current := none, announcement := .none, timer := some (.retryWait, due) }

/-- What the engine does after it has written or held back its current pair q (R122 steps 1 to 4). -/
def State.afterPair (s : State) (e : EngineId) (p : Port) (q : Pair) : State :=
  match s.entryOf p with
  | none => s
  | some x =>
    if x.cancelPending then
      if x.remaining = 0 ∧ (s.engine e).heldBack = 0 then s.completeSweep e p else s.cancelStop e p
    else
      match pairsAfter (s.engine e).passPairs q with
      | r :: _ => if s.mustSuspend x then s.suspendSweep e p else s.beginPair e p r
      | [] => s.passEnd e x

/-- The accumulation is cleared (R122, R133). -/
def Engine.clearPair (g : Engine) : Engine :=
  { g with
    issued := 0, completed := 0, failedRun := 0, sums := ⟨clearedSums, clearedSums, clearedSums, clearedSums⟩,
    floors := [], clipped := false, timer := none }

/-- A pair is written and joins pairs completed, then the engine goes on. The write completes the sweep when no pair of the
mask remains after it; a pair held back remains (R122, R150). -/
def State.writePair (s : State) (e : EngineId) (p : Port) (q : Pair) (r : PairResult) : State :=
  match s.entryOf p with
  | none => s
  | some x =>
    let done := addPair x.completed q
    let completing := decide (x.mask &&& ~~~done = 0)
    let s := s.modifyEntry p fun y => { y with completed := done }
    let s := s.modifyEngine e (·.clearPair)
    (s.pairWrite p q r x.origin completing).afterPair e p q

/-- The current pair's shot has completed or failed: the next shot, the analysis, or UNTESTABLE at once (R121). -/
def State.afterShot (s : State) (e : EngineId) (p : Port) (q : Pair) (depth : Nat) : State :=
  let g := s.engine e
  if 3 ≤ g.failedRun then s.writePair e p q (untestedResult (g.capture q))
  else if g.issued < 2 ^ depth then s.fireShot e p q
  else if g.completed = 0 then s.writePair e p q (untestedResult (g.capture q))
  else
    let due := s.after Config.analysisMs
    s.modifyEngine e fun h => { h with state := .analysing, timer := some (.analysis, due) }

/-- The end of the 2 ms analysis of pair q: the result is written, or held back for a noise retry (R122). -/
def State.endAnalysis (s : State) (e : EngineId) (p : Port) (q : Pair) : State :=
  match s.entryOf p with
  | none => s
  | some x =>
    let snap := x.snapshot.getD (s.lane p).snapshot
    let r := analysePair (pulseCode s.station) snap ((s.engine e).capture q)
    if r.noisy ∧ x.retries < Config.noiseRetries then
      let s := s.modifyEngine e fun g => { g.clearPair with heldBack := addPair g.heldBack q }
      s.afterPair e p q
    else s.writePair e p q { r with low := r.low || r.noisy }

end Sys2Proof.Machine
end

