-- ==== Sys2Proof/Machine/Bundle.lean ====
section
/-! DEFINITION. The Bundle Coordinator: the Coupling Table, the frames of peers and the listen jobs (R160 to R174). -/

namespace Sys2Proof.Machine

/-! ## The Coupling Table -/

/-- A source of learning (R161). -/
inductive CouplingSource where
  | heard | told
  deriving DecidableEq, Repr

/-- The key of an entry (The Coupling Table). -/
structure CouplingKey where
  localPort : Port
  station : Station
  remotePort : Port
  deriving DecidableEq, Repr

def CouplingEntry.key (c : CouplingEntry) : CouplingKey := ⟨c.localPort, c.station, c.remotePort⟩

/-- Table order: local port, then remote station, then remote port (R160). -/
def CouplingKey.before (a b : CouplingKey) : Bool :=
  if a.localPort ≠ b.localPort then decide (a.localPort.val < b.localPort.val)
  else if a.station ≠ b.station then decide (a.station.toNat < b.station.toNat)
  else decide (a.remotePort.val < b.remotePort.val)

/-- The entry a recording makes where none has its key (R161). -/
def newCoupling (k : CouplingKey) (level : Nat) (src : CouplingSource) : CouplingEntry :=
  { localPort := k.localPort, station := k.station, remotePort := k.remotePort, level := level,
    heard := decide (src = .heard), told := decide (src = .told), age := 0 }

/-- The entry of a key after a recording (R161). -/
def CouplingEntry.refresh (c : CouplingEntry) (level : Nat) (src : CouplingSource) : CouplingEntry :=
  { c with
    level := level
    heard := c.heard || decide (src = .heard)
    told := c.told || decide (src = .told)
    age := 0 }

/-- Inserts an entry at the position its key gives (R161). -/
def insertCoupling (c : CouplingEntry) : List CouplingEntry → List CouplingEntry
  | [] => [c]
  | x :: rest => if c.key.before x.key then c :: x :: rest else x :: insertCoupling c rest

/-- b is evicted rather than a, where b stands later in the table: its age is higher, or as high with a level no higher
(R161). -/
def evictLater (a b : CouplingEntry) : Bool :=
  if a.age ≠ b.age then decide (a.age < b.age) else decide (b.level ≤ a.level)

/-- The entry evicted from a table that begins with c: highest age, then lowest level, then last in table order (R161). -/
def evictee (c : CouplingEntry) : List CouplingEntry → CouplingEntry
  | [] => c
  | x :: rest => evictee (if evictLater c x then x else c) rest

/-- A recording applied to a table (R161). -/
def recordCoupling (table : List CouplingEntry) (k : CouplingKey) (level : Nat) (src : CouplingSource) :
    List CouplingEntry :=
  if table.any fun c => decide (c.key = k) then table.map fun c => if c.key = k then c.refresh level src else c
  else if table.length < Config.couplingCapacity then insertCoupling (newCoupling k level src) table
  else
    match table with
    | [] => [newCoupling k level src]
    | c :: rest =>
      let out := evictee c rest
      insertCoupling (newCoupling k level src) (table.filter fun x => decide (x.key ≠ out.key))

def State.learn (s : State) (k : CouplingKey) (level : Nat) (src : CouplingSource) : State :=
  { s with coupling := recordCoupling s.coupling k level src }

/-- The age of an entry counts a whole minute (R162). -/
def CouplingEntry.ageMinute (c : CouplingEntry) : CouplingEntry := { c with age := countUp 255 c.age }

/-! ## Quiet asks and ends (R165 to R167) -/

/-- The lane of port p is selected by a QUIET_ASK from (S, P) (R165). -/
def State.selects (s : State) (p : Port) (st : Station) (port : Port) : Bool :=
  (s.coupling.any fun c => decide (c.key = ⟨p, st, port⟩) && decide (Config.selectLevel ≤ c.level)) &&
  (s.lane p).active.honourQuiet &&
  decide ((s.lane p).state ≠ .disabled)

/-- A QUIET_ASK from (S, P) with its hold units is taken (R165). -/
def State.takeQuietAsk (s : State) (st : Station) (port : Port) (units : Byte) : State :=
  let ask : QuietRecord := ⟨st, port, s.after (max 1 units.toNat * 10)⟩
  (s.presentPorts.filter fun p => s.selects p st port).foldl (fun t p => t.quietAskLane p ask) s

/-- An end frame from (S, P) reaches every present lane (R166). -/
def State.endQuiet (s : State) (st : Station) (port : Port) : State :=
  s.presentPorts.foldl (fun t p => t.quietEndLane p st port) s

/-! ## Listen jobs (R168 to R173) -/

/-- A lane is eligible for a listen job (R168). -/
def State.listenEligible (s : State) (p : Port) : Bool :=
  let l := s.lane p
  l.active.listenPeers &&
  (match l.state with
   | .advertise | .backoff | .held | .parked | .disabled | .sweepWait => true
   | .starting | .negotiate | .train | .up => false) &&
  !l.hold.sweep && !l.energy && (s.memberOf p).isNone

/-- A member in one of these states is given LISTEN (R169 step 2). -/
def LaneState.takesListen : LaneState → Bool
  | .advertise | .backoff | .held => true
  | .starting | .disabled | .negotiate | .train | .up | .sweepWait | .parked => false

/-- The lowest-numbered IDLE engine (R168). -/
def State.lowestIdle (s : State) : Option EngineId := allEngines.find? fun e => decide ((s.engine e).state = .idle)

/-- A SWEEP_START from (S, P) is taken: a listen job starts if an engine is IDLE and a lane is eligible, in the order of
R169. -/
def State.takeSweepStart (s : State) (st : Station) (port : Port) (units : Byte) : State :=
  let eligible := s.presentPorts.filter s.listenEligible
  match s.lowestIdle with
  | none => s
  | some e =>
    if eligible = [] then s
    else
      let members := eligible.map fun p => (⟨p, 0, (s.lane p).state.takesListen⟩ : Member)
      let job : ListenJob := ⟨st, port, s.after (units.toNat * 10 + 10), members⟩
      let s := s.setEngine e { Engine.idle with state := .listening, job := some job }
      let s := (members.filter (·.given)).foldl (fun t m => t.addReason m.port .listen) s
      eligible.foldl (fun t p => t.listenPort e p) s

/-- A listen block of a member's port is folded into its reading (R170). -/
def State.foldBlock (s : State) (e : EngineId) (p : Port) (blocks : Four (Vector Sample 512)) : State :=
  s.modifyEngine e fun g =>
    { g with
      job := g.job.map fun j =>
        let level := blockLevel (pulseCode j.station) blocks
        { j with members := j.members.map fun m => if m.port = p then { m with reading := max m.reading level } else m } }

/-- A member's level is recorded HEARD and answered by COUPLING_SEEN if it is 20 or more (R173 steps 1 and 2). -/
def State.recordMember (s : State) (j : ListenJob) (m : Member) : State :=
  let level := alienLevel m.reading
  if Config.learnLevel ≤ level then
    (s.learn ⟨m.port, j.station, j.port⟩ level .heard).postCoord (couplingSeenFrame j.station j.port m.port level) none
  else s

/-- A listen job ends and records, in the order of R173; `e` is the engine that runs it. The start choice of step 4 is
made here, before anything else happens. -/
def State.endListenJob (s : State) (e : EngineId) : State :=
  match (s.engine e).job with
  | none => s
  | some j =>
    let s := j.members.foldl (fun t m => t.recordMember j m) s
    let s := s.setEngine e .idle
    let s := j.members.foldl (fun t m => t.releasePort e m.port) s
    let s := (j.members.filter (·.given)).foldl (fun t m => t.dropReason m.port .listen) s
    s.startChoice

/-- Engine e runs a listen job with this key. -/
def State.listensFor (s : State) (e : EngineId) (st : Station) (port : Port) : Bool :=
  match (s.engine e).job with
  | some j => decide (j.station = st) && decide (j.port = port)
  | none => false

/-- Ends the listen job of engine e if its key is (S, P) (R167). -/
def State.endJobOf (s : State) (e : EngineId) (st : Station) (port : Port) : State :=
  if s.listensFor e st port then s.endListenJob e else s

/-- A SWEEP_END from (S, P) is taken: the holds and each listen job with that key, engine 0's first (R167). The holds come
before the jobs: DESIGN CHOICE, log 29. -/
def State.takeSweepEnd (s : State) (st : Station) (port : Port) : State :=
  ((s.endQuiet st port).endJobOf 0 st port).endJobOf 1 st port

/-- A COUPLING_SEEN from S is taken (R174): below 20 it is ignored, above 1000 it counts as 1000. -/
def State.takeCouplingSeen (s : State) (st : Station) (swept sendersPort : Port) (level : Nat) : State :=
  if level < Config.learnLevel then s else s.learn ⟨swept, st, sendersPort⟩ (min 1000 level) .told

end Sys2Proof.Machine
end

