-- ==== Sys2Proof/Machine/Startup.lean ====
section
/-! DEFINITION. Power-on reset, the calibration list and the end of start-up (R35 to R39); the survey and the holdoffs
(R177 to R182); and what every command ends with: the start choice and the transmit choice. -/

namespace Sys2Proof.Machine

/-! ## Calibration (R37, R38) -/

/-- The engine issues the next CAL_SHOOT on the lane it calibrates (R38). -/
def State.fireCal (s : State) (e : EngineId) (p : Port) : State :=
  (s.modifyEngine e fun g => { g with cal := g.cal.map fun w => { w with issued := w.issued + 1 } }).shootPort e p .calShoot

/-- The engine takes the lowest-numbered lane still in the calibration list, or goes IDLE (R37). -/
def State.takeCalibration (s : State) (e : EngineId) : State :=
  match s.calList with
  | [] => s.setEngine e .idle
  | p :: rest =>
    ({ s with calList := rest }.setEngine e
      { Engine.idle with state := .calibrating, cal := some ⟨p, 0, 0, clearedSums⟩ }).fireCal e p

/-- A CAL_SHOOT has completed or failed: the next one, or after the 16th the 2 ms computation (R38). -/
def State.afterCalShot (s : State) (e : EngineId) : State :=
  match (s.engine e).cal with
  | none => s
  | some w =>
    if w.issued < Config.calShots then s.fireCal e w.port
    else
      let due := s.after Config.calibrationMs
      s.modifyEngine e fun g => { g with timer := some (.calibration, due) }

/-- A completed CAL_SHOOT: its window samples are added (R38). -/
def Engine.accumulateCal (g : Engine) (block : ShotBlock) : Engine :=
  { g with
    cal := g.cal.map fun w =>
      { w with completed := w.completed + 1, sums := addSamples w.sums (sampleInts block.window) } }

/-- The engine's computation ends: the lane's offset_t and flag are set, the port released, and the engine takes the next
lane (R38, R37). -/
def State.finishCalibration (s : State) (e : EngineId) : State :=
  match (s.engine e).cal with
  | none => s
  | some w =>
    let result := calibrationOffset (pulseCode s.station) w.sums w.completed
    let s := s.modifyLane w.port fun l => { l with offsetT := result.1, calDefaulted := result.2 }
    (s.releasePort e w.port).takeCalibration e

/-- A lane leaves STARTING: a transfer point with its ceiling restored, into ADVERTISE or DISABLED by the autostart strap
(R39, R104). -/
def State.leaveStarting (s : State) (p : Port) : State :=
  let s := s.transferAndRestore p
  if s.autostart then s.enterAdvertise p true else s.enterDisabled p

/-- Start-up ends when the calibration list is empty and both engines are IDLE (R39). -/
def State.startupEnd (s : State) : State :=
  if s.anyStarting ∧ s.calList = [] ∧ (s.engine 0).state = .idle ∧ (s.engine 1).state = .idle then
    (s.presentPorts.foldl State.leaveStarting s).postStation .started
  else s

/-! ## Power-on values -/

/-- Every block at its power-on values, with the straps taken and no engine at work yet (R1, R15, R36, R45, R60, R92, R131,
R148, R160, R182). The model's own fields are kept. -/
def State.powerOnValues (s : State) (station : Station) (twelve autostart : Bool) : State :=
  { ms := 0, minutes := 0, minuteMark := 0, inReset := false, station := station, twelvePorts := twelve,
    autostart := autostart, rx := .waitIdle, tx := none, lastOpened := none, collisionRun := 0, coordList := [],
    replyList := [], noticeFlags := Vector.replicate 12 0, stationNotice := none, checkFailures := 0,
    collisionErrors := 0, requestsDiscarded := 0, guards := 0, lanes := Vector.replicate 12 Lane.powerOn, queue := [],
    engines := Vector.replicate 2 Engine.idle, calList := [], records := Vector.replicate 12 CableRecord.neverTested,
    coupling := [], surveyInterval := 0, surveyContinuous := false, surveyEnabled := false, surveyTimer := none,
    passSet := 0, holdoffs := Vector.replicate 12 none, freeCount := s.freeCount, pending := s.pending }

/-- The present lanes enter the calibration list and both engines take their first lanes (R36, R37). -/
def State.beginCalibration (s : State) : State :=
  ({ s with calList := s.presentPorts }.takeCalibration 0).takeCalibration 1

/-! ## Survey and holdoffs -/

/-- The survey timer started afresh from now (R177, R178). -/
def State.restartSurvey (s : State) : State := { s with surveyTimer := some (s.after (s.surveyInterval * 10000)) }

/-- A present port is a candidate of the survey (R178). -/
def State.surveyCandidate (s : State) (p : Port) : Bool :=
  let l := s.lane p
  l.active.surveyMember && (s.entryOf p).isNone && !l.power &&
  (match l.state with
   | .advertise => !l.energy
   | .held => !l.hold.sweep
   | .parked | .disabled => true
   | .starting | .negotiate | .train | .up | .backoff | .sweepWait => false) &&
  (s.surveyContinuous || !inPortSet s.passSet p)

/-- Port q is preferred to port p, where q is the higher port: NEVER_TESTED before tested, then the larger age (R178). -/
def State.surveyPrefers (s : State) (p q : Port) : Bool :=
  let never (x : Port) : Bool := decide ((s.record x).status = .neverTested)
  if never p ≠ never q then never q else decide ((s.record p).age < (s.record q).age)

/-- The best of candidates in port order, beginning with p (R178). -/
def State.bestCandidate (s : State) (p : Port) : List Port → Port
  | [] => p
  | q :: rest => s.bestCandidate (if s.surveyPrefers p q then q else p) rest

/-- The port a survey expiry picks (R178). -/
def State.surveyPick (s : State) : Option Port :=
  match s.presentPorts.filter s.surveyCandidate with
  | [] => none
  | p :: rest => some (s.bestCandidate p rest)

/-- The survey timer expires (R178). -/
def State.expireSurvey (s : State) : State :=
  match s.surveyPick with
  | some p =>
    let outcome := s.requestOutcome p
    let s := s.requestSweep (s.automaticRequest p .survey)
    let s := if !s.surveyContinuous && decide (outcome = .new) then { s with passSet := addPort s.passSet p } else s
    s.restartSurvey
  | none =>
    if s.surveyContinuous then s.restartSurvey
    else { s with surveyEnabled := false, surveyTimer := none }.postStation .surveyDone

/-- A link-down holdoff expires (R181). -/
def State.expireHoldoff (s : State) (p : Port) : State :=
  let s := s.setHoldoff p none
  let l := s.lane p
  if (l.state = .advertise ∨ l.state = .held) ∧ l.energy = false then
    s.requestSweep (s.automaticRequest p .linkDown)
  else s

/-! ## The end of every command -/

/-- When a command's own effects are complete, each IDLE engine makes its start choice (R118) and a free transmitter on an
idle line its transmit choice (R14). Log 10. -/
def State.settle (s : State) : State := s.startChoice.transmitChoice

/-- A command's effect on a part that is not held in reset; while RSTN is low nothing else is taken (R35, log 6). -/
def State.perform (s : State) (effect : State → State) : Host.Outcome State Fault Refusal :=
  if s.inReset then .next s else .next (effect s).settle

/-- A tap event of a port; events on the taps of absent ports are ignored (R35). -/
def State.tapEvent (s : State) (p : Port) (effect : State → State) : Host.Outcome State Fault Refusal :=
  s.perform fun t => if t.present p then effect t else t

end Sys2Proof.Machine
end

