-- ==== Sys2Proof/Machine/Requests.lean ====
section
/-! DEFINITION. The Request Handler and the owners' decisions: hand-off, validation, replies (R9, R18 to R31, R41 to R44,
R86 to R89, R113, R114, R163, R177). -/

namespace Sys2Proof.Machine

/-! ## LANE_CONTROL (R86 to R89) -/

/-- ENABLE (R86). -/
def State.enableLane (s : State) (p : Port) : State :=
  if (s.lane p).state = .disabled then (s.transferAndRestore p).enterAdvertise p true else s

/-- The quiet-hold list is emptied and QUIET leaves the hold set (R87 step 3). -/
def Lane.clearQuiet (l : Lane) : Lane := { l with quiet := [], hold := { l.hold with quiet := false } }

/-- DISABLE, in the order of R87. -/
def State.disableLane (s : State) (p : Port) : State :=
  let s' :=
    if (s.lane p).state = .up then (s.leaveUp p).modifyLane p fun l => { l with transferOwed := true } else s
  let s' := s'.modifyLane p Lane.clearQuiet
  if (s.lane p).state = .disabled then s' else s'.enterDisabled p

/-- The port's Sweep Queue entry is RUNNING. -/
def State.sweepRunning (s : State) (p : Port) : Bool :=
  match s.entryOf p with
  | some x => decide (x.state = .running)
  | none => false

/-- A RETRAIN or UNPARK that is carried out (R88). -/
def State.carryOutRetrain (s : State) (p : Port) : State :=
  let s := if (s.lane p).state = .up then s.leaveUp p else s
  (s.transferAndRestore p).enterAdvertise p true

/-- RETRAIN (R88). -/
def State.retrainLane (s : State) (p : Port) : State × Decision :=
  if s.sweepRunning p then (s, .refused .portBusy)
  else if (s.lane p).state = .up ∧ inPortSet s.guards p then (s, .refused .guarded)
  else (s.carryOutRetrain p, .accepted .done)

/-- UNPARK (R89). -/
def State.unparkLane (s : State) (p : Port) : State × Decision :=
  if (s.lane p).state = .parked then s.retrainLane p else (s, .refused .wrongState)

/-! ## SWEEP and CANCEL_SWEEP (R113, R114) -/

/-- Supervisor SWEEP, by the first row of R113 that applies. -/
def State.sweepDecision (s : State) (p : Port) (mask : PairSet) (depth : Nat) (force : Bool) : State × Decision :=
  let outcome := s.requestOutcome p
  let up := decide ((s.lane p).state = .up)
  if mask = 0 then (s, .refused .badValue)
  else if outcome = .running then (s, .refused .portBusy)
  else if up ∧ force = false then (s, .refused .linkUp)
  else if up ∧ inPortSet s.guards p then (s, .refused .guarded)
  else if outcome = .full then (s, .refused .queueFull)
  else
    let s := s.requestSweep ⟨p, mask, min 6 depth, .supervisor, force⟩
    (s, .accepted (if 6 < depth then .clamped else if outcome = .merged then .merged else .new))

/-- CANCEL_SWEEP (R114, R115). -/
def State.cancelDecision (s : State) (p : Port) : State :=
  match s.entryOf p with
  | none => s
  | some x =>
    match x.state, x.engine with
    | .running, some e =>
      if x.cancelPending then s
      else
        let s := s.modifyEntry p fun y => { y with cancelPending := true }
        let st := (s.engine e).state
        if st = .preparing ∨ st = .shooting then s.cancelStop e p else s
    | .running, none => s
    | _, _ => s.removeEntry p .cancelled

/-! ## SET_PROFILE (R41 to R43) -/

/-- The numeric fields clamped to their ranges (R41 step 3). -/
structure ClampedFields where
  nvp : Nat
  slope : Nat
  attempts : Nat
  negWindow : Nat
  trainWindow : Nat
  depth : Nat
  deriving DecidableEq, Repr

def ProfileFields.received (b : ProfileBytes) : ClampedFields :=
  ⟨b.nvp.toNat, b.slope.toNat, b.attempts.toNat, b.negWindow.toNat, b.trainWindow.toNat, b.depth.toNat⟩

def ProfileFields.clamped (b : ProfileBytes) : ClampedFields :=
  ⟨clampNat 600 800 b.nvp.toNat, clampNat 0 63 b.slope.toNat, clampNat 1 4 b.attempts.toNat,
   clampNat 5 40 b.negWindow.toNat, clampNat 2 20 b.trainWindow.toNat, clampNat 0 6 b.depth.toNat⟩

/-- An option after a request: its value bit where its select bit is 1, else as it was (R41 step 4). Bits: 0 downshift
allowed, 1 auto sweep, 2 survey member, 3 listen to peers, 4 honour quiet (R17). -/
def optionAfter (b : ProfileBytes) (bit : Nat) (now : Bool) : Bool :=
  if b.optionSelect.getLsbD bit then b.optionValue.getLsbD bit else now

/-- The shadow after a request (R41 step 4). -/
def Profile.written (q : Profile) (b : ProfileBytes) : Profile :=
  let f := ProfileFields.clamped b
  { advertised := b.advertised.setWidth 4
    nvp := f.nvp, slope := f.slope, attempts := f.attempts, negWindow := f.negWindow, trainWindow := f.trainWindow,
    depth := f.depth
    downshift := optionAfter b 0 q.downshift
    autoSweep := optionAfter b 1 q.autoSweep
    surveyMember := optionAfter b 2 q.surveyMember
    listenPeers := optionAfter b 3 q.listenPeers
    honourQuiet := optionAfter b 4 q.honourQuiet }

/-- The lane writes the shadow and sets shadow pending (R41 step 4). -/
def Lane.writeShadow (l : Lane) (b : ProfileBytes) : Lane := { l with shadow := l.shadow.written b, shadowPending := true }

/-- A lane that transfers and keeps its state (R43). -/
def State.transferInPlace (s : State) (p : Port) : State :=
  s.modifyLane p (·.transfer (s.record p).allowed)

/-- What a lane does with the written shadow, by its state and the apply mode (R43). -/
def State.applyProfile (s : State) (p : Port) (now : Bool) : State :=
  match (s.lane p).state, now with
  | .disabled, _ => s.transferInPlace p
  | .parked, _ => s.enterAdvertise p true
  | .advertise, true => s.enterAdvertise p true
  | .held, true => s.transferInPlace p
  | .backoff, true => s.enterAdvertise p true
  | .sweepWait, true => if s.sweepRunning p then s.transferInPlace p else s.enterAdvertise p true
  | .negotiate, true => s.enterAdvertise p true
  | .train, true => s.enterAdvertise p true
  | .up, true => if inPortSet s.guards p then s else (s.leaveUp p).enterAdvertise p true
  | .starting, true => s
  | .starting, false | .advertise, false | .held, false | .backoff, false | .sweepWait, false | .negotiate, false
  | .train, false | .up, false => s

/-- A lane defers a NOW: it is in UP and its port is guarded (R43). -/
def State.defersNow (s : State) (p : Port) : Bool := decide ((s.lane p).state = .up) && inPortSet s.guards p

/-- SET_PROFILE, in the order of R41. Apply 1 is NOW. -/
def State.profileDecision (s : State) (b : ProfileBytes) : State × Decision :=
  let ports := portsOf (b.mask.setWidth 12)
  let now := decide (b.apply = 1)
  if b.mask = 0 then (s, .refused .badValue)
  else if b.advertised.setWidth 4 = (0 : GradeSet) then (s, .refused .badValue)
  else
    let deferred := now && ports.any s.defersNow
    let s := ports.foldl (fun t p => t.modifyLane p fun l => l.writeShadow b) s
    let s := ports.foldl (fun t p => t.applyProfile p now) s
    let clamped := decide (ProfileFields.received b ≠ ProfileFields.clamped b)
    (s, .accepted (if clamped then .clamped else if deferred then .deferred else .done))

/-! ## SET_SURVEY (R177) -/

def State.surveyDecision (s : State) (interval : Nat) (continuous : Bool) : State × Decision :=
  let held := if interval = 0 then 0 else max 6 interval
  let s := { s with
    surveyInterval := held, surveyContinuous := continuous, surveyEnabled := decide (held ≠ 0), passSet := 0,
    surveyTimer := none }
  let s := if held = 0 then s else s.restartSurvey
  (s, .accepted (if held = interval then .done else .clamped))

/-! ## READ_COUPLING (R28) -/

/-- The snapshot of the Coupling Table from a start index: the total and at most 8 entries. -/
def State.couplingSnapshot (s : State) (start : Byte) : ReplyEntry :=
  .couplingTrain start s.coupling.length ((s.coupling.drop start.toNat).take 8) 0

/-! ## STATION_RESET (R30) -/

/-- Step 1: the engines stop and go IDLE, every port they hold is released, the Sweep Queue is emptied (R131). -/
def State.resetSweeps (s : State) : State :=
  { s with
    engines := Vector.replicate 2 Engine.idle
    queue := []
    lanes := s.lanes.map fun l => { l.closeCapture with holder := .lane } }

/-- Step 2: the pass set is cleared, the survey timer restarted, every holdoff cleared (R182). -/
def State.resetSurvey (s : State) : State :=
  let s := { s with passSet := 0, holdoffs := Vector.replicate 12 none }
  if s.surveyEnabled then s.restartSurvey else { s with surveyTimer := none }

/-- The lane's counts, sets and measurements that the reset clears (R30 step 3, R92). R92 gives no value for UP start, which is
kept: DESIGN CHOICE, log 30. -/
def Lane.clearForReset (l : Lane) : Lane :=
  { l with
    hold := .empty, quiet := [], lastFailure := .none, failureCount := 0, pulseCount := 0, lastPulse := none,
    neg := .cleared, transferOwed := false, timer := none }

/-- Step 3 for one lane: a pending shadow becomes active, the ceiling is restored, and a lane not in DISABLED enters
ADVERTISE. A DISABLED lane issues its command again (R60). -/
def State.resetLane (s : State) (p : Port) : State :=
  let s := (s.modifyLane p Lane.clearForReset).transferAndRestore p
  if (s.lane p).state = .disabled then s.laneCommand p else s.enterAdvertise p true

/-- Step 4, as R16 states, without the reply. The transmitter is free whenever a request is taken; log 11. -/
def State.resetLine (s : State) : State :=
  { s with
    coordList := [], replyList := [], noticeFlags := Vector.replicate 12 0, stationNotice := none, checkFailures := 0,
    collisionErrors := 0, requestsDiscarded := 0, collisionRun := 0, tx := none, lastOpened := none }

/-- The reset sequence of R30 with its reply. -/
def State.stationReset (s : State) : State :=
  let s := s.resetSweeps.resetSurvey
  let s := s.presentPorts.foldl State.resetLane s
  s.resetLine.answer .stationReset (.accepted .done)

/-! ## Taking a request -/

/-- A request places one reply: the owner's outcome (R23). -/
def State.conclude (k : RequestKind) (r : State × Decision) : State := r.1.answer k r.2

/-- A request that names a port: BAD_PORT unless the port is present (R20 step 2, R21). -/
def State.withPort (s : State) (k : RequestKind) (b : Byte) (decided : Port → State) : State :=
  match s.portField b with
  | some p => decided p
  | none => s.answer k (.refused .badPort)

/-- A request is handed on, or discarded and counted: four places taken (R9), or start-up not over (R19). -/
def State.takeRequest (s : State) (decided : State → State) : State :=
  if Config.replyCapacity ≤ s.replyList.length then s.countDiscard
  else if s.anyStarting then s.countDiscard
  else decided s

/-- LANE_CONTROL with its action byte (R20, R22, R86 to R89). -/
def State.laneControl (s : State) (port action : Byte) : State :=
  s.withPort .laneControl port fun p =>
    match action.toNat with
    | 1 => (s.enableLane p).answer .laneControl (.accepted .done)
    | 2 => (s.disableLane p).answer .laneControl (.accepted .done)
    | 3 => State.conclude .laneControl (s.retrainLane p)
    | 4 => State.conclude .laneControl (s.unparkLane p)
    | _ => s.answer .laneControl (.refused .badValue)

/-- SWEEP (R20 to R22, R113). -/
def State.sweepRequest (s : State) (port mask depth flags : Byte) : State :=
  s.withPort .sweep port fun p =>
    if 16 ≤ mask.toNat ∨ 2 ≤ flags.toNat then s.answer .sweep (.refused .badValue)
    else State.conclude .sweep (s.sweepDecision p (mask.setWidth 4) depth.toNat (flags.getLsbD 0))

/-- CANCEL_SWEEP (R114). -/
def State.cancelRequest (s : State) (port : Byte) : State :=
  s.withPort .cancelSweep port fun p => (s.cancelDecision p).answer .cancelSweep (.accepted .done)

/-- SET_PROFILE (R20 to R22, R41). -/
def State.profileRequest (s : State) (b : ProfileBytes) : State :=
  if s.maskPasses b.mask = false then s.answer .setProfile (.refused .badPort)
  else if 2 ≤ b.apply.toNat ∨ 16 ≤ b.advertised.toNat ∨ 32 ≤ b.optionSelect.toNat ∨ 32 ≤ b.optionValue.toNat then
    s.answer .setProfile (.refused .badValue)
  else State.conclude .setProfile (s.profileDecision b)

/-- SET_GUARD (R29). -/
def State.guardRequest (s : State) (mask : BitVec 16) : State :=
  if s.maskPasses mask = false then s.answer .setGuard (.refused .badPort)
  else { s with guards := mask.setWidth 12 }.answer .setGuard (.accepted .done)

/-- SET_SURVEY (R22, R177). -/
def State.surveyRequest (s : State) (interval mode : Byte) : State :=
  if 2 ≤ mode.toNat then s.answer .setSurvey (.refused .badValue)
  else State.conclude .setSurvey (s.surveyDecision interval.toNat (mode.getLsbD 0))

/-- QUERY_PORT (R25). -/
def State.portQuery (s : State) (port : Byte) : State :=
  s.withPort .queryPort port fun p => s.place (.single (s.portStatusFrame p))

/-- READ_RECORD (R27). -/
def State.recordRead (s : State) (port : Byte) : State :=
  s.withPort .readRecord port fun p => s.place (.recordTrain p (s.record p) 0)

/-- CLEAR_COUPLING (R163). -/
def State.couplingClear (s : State) : State := { s with coupling := [] }.answer .clearCoupling (.accepted .done)

end Sys2Proof.Machine
end

