-- ==== Sys2Proof/Machine/Acceptance.lean ====
section
/-! DEFINITION. What a complete frame comes to: the check byte, the steps of R8, and the hand-over to the Request Handler or
the Bundle Coordinator (R5, R8, R9, R164). -/

namespace Sys2Proof.Machine

/-- The kinds of the kind table, by what R8 does with them (R17). -/
inductive KindClass where
  | request (k : RequestKind)
  | coordination
  | replyOrNotice
  | unlisted
  deriving DecidableEq, Repr

def classifyKind (kind : Byte) : KindClass :=
  match kind.toNat with
  | 0x01 => .request .stationReset
  | 0x02 => .request .laneControl
  | 0x03 => .request .sweep
  | 0x04 => .request .cancelSweep
  | 0x05 => .request .setProfile
  | 0x06 => .request .setGuard
  | 0x07 => .request .setSurvey
  | 0x08 => .request .queryStation
  | 0x09 => .request .queryPort
  | 0x0A => .request .readRecord
  | 0x0B => .request .readCoupling
  | 0x0C => .request .clearCoupling
  | 0x10 => .coordination
  | 0x11 => .coordination
  | 0x12 => .coordination
  | 0x13 => .coordination
  | 0x14 => .coordination
  | 0x20 => .replyOrNotice
  | 0x21 => .replyOrNotice
  | 0x22 => .replyOrNotice
  | 0x23 => .replyOrNotice
  | 0x24 => .replyOrNotice
  | 0x25 => .replyOrNotice
  | 0x30 => .replyOrNotice
  | 0x31 => .replyOrNotice
  | _ => .unlisted

/-- A request whose payload has the length of its kind is decided by its owner; none where the length differs (R8 step 7,
R17). -/
def decideRequest (k : RequestKind) (payload : List Byte) : Option (State → State) :=
  match k, payload with
  | .stationReset, [] => some State.stationReset
  | .laneControl, [port, action] => some fun s => s.laneControl port action
  | .sweep, [port, mask, depth, flags] => some fun s => s.sweepRequest port mask depth flags
  | .cancelSweep, [port] => some fun s => s.cancelRequest port
  | .setProfile, [m1, m0, apply, adv, n1, n0, slope, attempts, neg, train, sel, val, depth] =>
    some fun s => s.profileRequest ⟨word16 m1 m0, apply, adv, word16 n1 n0, slope, attempts, neg, train, sel, val, depth⟩
  | .setGuard, [m1, m0] => some fun s => s.guardRequest (word16 m1 m0)
  | .setSurvey, [interval, mode] => some fun s => s.surveyRequest interval mode
  | .queryStation, [] => some fun s => s.place (.single s.stationStatusFrame)
  | .queryPort, [port] => some fun s => s.portQuery port
  | .readRecord, [port] => some fun s => s.recordRead port
  | .readCoupling, [start] => some fun s => s.place (s.couplingSnapshot start)
  | .clearCoupling, [] => some State.couplingClear
  | _, _ => none

/-- The Bundle Coordinator takes a frame from peer S: nothing while any present lane is in STARTING; a frame whose number is
no peer's never reaches it (R164, R8 steps 1 and 5). -/
def State.fromPeer (s : State) (st : Station) (effect : State → State) : State :=
  if s.anyStarting then s
  else if 1 ≤ st.toNat ∧ st.toNat ≤ 8 ∧ st ≠ s.station then effect s
  else s

/-- A frame whose port of the sweep is checked: 1-12, else ignored (R164). -/
def State.withPeerPort (s : State) (b : Byte) (effect : Port → State) : State :=
  match peerPort b with
  | some p => effect p
  | none => s

def State.quietAskFrom (s : State) (st : Station) (port units : Byte) : State :=
  s.fromPeer st fun t => t.withPeerPort port fun p => t.takeQuietAsk st p units

def State.sweepStartFrom (s : State) (st : Station) (port units : Byte) : State :=
  s.fromPeer st fun t => t.withPeerPort port fun p => t.takeSweepStart st p units

def State.sweepEndFrom (s : State) (st : Station) (port : Byte) : State :=
  s.fromPeer st fun t => t.withPeerPort port fun p => t.takeSweepEnd st p

def State.quietEndFrom (s : State) (st : Station) (port : Byte) : State :=
  s.fromPeer st fun t => t.withPeerPort port fun p => t.endQuiet st p

/-- The swept port must be a present local port, the sender's local port 1-12 (R164). -/
def State.couplingSeenFrom (s : State) (st : Station) (swept sendersPort : Byte) (level : BitVec 16) : State :=
  s.fromPeer st fun t =>
    match t.portField swept, peerPort sendersPort with
    | some p, some q => t.takeCouplingSeen st p q level.toNat
    | _, _ => t

/-- A coordination frame by its kind; one whose length is not its kind's is ignored (R8 steps 7 and 9). -/
def State.takeCoordination (s : State) (kind : Byte) (st : Station) (payload : List Byte) : State :=
  match kind.toNat, payload with
  | 0x10, [port, units] => s.quietAskFrom st port units
  | 0x11, [port, _mask, units] => s.sweepStartFrom st port units
  | 0x12, [port] => s.sweepEndFrom st port
  | 0x13, [port] => s.quietEndFrom st port
  | 0x14, [swept, sendersPort, l1, l0] => s.couplingSeenFrom st swept sendersPort (word16 l1 l0)
  | _, _ => s

/-- The steps of R8 on a frame that passed its check; the first that applies decides. -/
def State.accept (s : State) (kind : Byte) (originator target : Station) (payload : List Byte) : State :=
  if originator = s.station then s.countCollisionError
  else if target ≠ s.station ∧ target ≠ allStations then s
  else
    match classifyKind kind with
    | .unlisted => s.countDiscard
    | .request k =>
      if originator ≠ supervisorStation then s.countDiscard
      else
        match decideRequest k payload with
        | some decided => s.takeRequest decided
        | none => s.countDiscard
    | .coordination =>
      if 1 ≤ originator.toNat ∧ originator.toNat ≤ 8 then s.takeCoordination kind originator payload else s
    | .replyOrNotice => s

/-- The sum of all bytes of a frame is 0 modulo 256 (R4, R5). -/
def checkPasses (kind header : Byte) (payload : List Byte) (check : Byte) : Bool :=
  decide (kind + header + byteOf payload.length + payload.sum + check = 0)

/-- A length over 16 breaks the frame at its third byte (R5). -/
def State.lengthOverflow (s : State) : State := { s.countCheckFailure with rx := .waitIdle }

/-- A frame of another station completes (R5, R8): after it the receiver waits for idle. A payload over 16 bytes never
completes: its third byte broke the frame. -/
def State.takeFrame (s : State) (kind header : Byte) (payload : List Byte) (check : Byte) : State :=
  if 16 < payload.length then s.lengthOverflow
  else
    let s := { s with rx := .afterFrame }
    if checkPasses kind header payload check then
      s.accept kind (header.extractLsb' 4 4) (header.extractLsb' 0 4) payload
    else s.countCheckFailure

end Sys2Proof.Machine
end

