-- ==== Sys2Proof/Machine/LineCommands.lean ====
section
/-! DEFINITION. The events of the Coordination Line: frames, breaks, idle, arbitration, collisions (R3 to R10, R14). -/

namespace Sys2Proof.Machine

/-- FRAME_RECEIVED (R5, R8): the frame the receiver is taking, which another station sends, completes. A part that is not
taking a frame, or sends this frame itself, is delivered nothing (R3, R5). -/
def execFrameReceived (kind header : Byte) (payload : List Byte) (check : Byte) (s : State) :
    Host.Outcome State Fault Refusal :=
  s.perform fun t => if t.receiving then t.takeFrame kind header payload check else t

/-- FRAME_BREAK (R3). -/
def execFrameBreak (s : State) : Host.Outcome State Fault Refusal :=
  s.perform fun t => if t.receiving then { t.countCheckFailure with rx := .waitIdle } else t

/-- FRAME_LENGTH_OVERFLOW (R5): a third byte above 16. -/
def execFrameLengthOverflow (len : Byte) (s : State) : Host.Outcome State Fault Refusal :=
  s.perform fun t => if t.receiving ∧ 16 < len.toNat then t.lengthOverflow else t

/-- TRAILING_CELL (R3): a falling edge after a complete frame and before idle, counted once (log 7). -/
def execTrailingCell (s : State) : Host.Outcome State Fault Refusal :=
  s.perform fun t => if t.rx = .afterFrame then { t.countCheckFailure with rx := .waitIdle } else t

/-- LINE_IDLE (R3): a receiver that waits for idle regards the line as idle. -/
def execLineIdle (s : State) : Host.Outcome State Fault Refusal :=
  s.perform fun t => if t.rx = .waitIdle ∨ t.rx = .afterFrame then { t with rx := .idle } else t

/-- NEW_FRAME (R3): a falling edge while the line is idle opens the first cell of a frame. -/
def execNewFrame (s : State) : Host.Outcome State Fault Refusal :=
  s.perform fun t => if t.rx = .idle then { t with rx := .inFrame } else t

/-- ARBITRATION_LOST (R6): the sender becomes a listener of the winning frame; the lost frame keeps its place. -/
def execArbitrationLost (s : State) : Host.Outcome State Fault Refusal :=
  s.perform fun t => if t.tx.isSome then { t with tx := none } else t

/-- A collision error stops the sender; the eighth in a row drops the frame as if it had been sent (R7). -/
def State.collide (s : State) (t : TxFrame) : State :=
  let s := { s.countCollisionError with tx := none, rx := .waitIdle, collisionRun := s.collisionRun + 1 }
  if Config.collisionLimit ≤ s.collisionRun then { s.leaveQueue t.place with collisionRun := 0, lastOpened := none } else s

/-- COLLISION_ERROR (R7). -/
def execCollisionError (s : State) : Host.Outcome State Fault Refusal :=
  s.perform fun t =>
    match t.tx with
    | some f => t.collide f
    | none => t

/-- The check byte has gone out with no mismatch: the frame leaves its place, the count of collision errors is cleared, and
the receiver waits for idle (R7, R11 to R14, R3). -/
def State.sent (s : State) (t : TxFrame) : State :=
  { s.leaveQueue t.place with tx := none, rx := .afterFrame, collisionRun := 0, lastOpened := none }

/-- FRAME_SENT (R14). -/
def execFrameSent (s : State) : Host.Outcome State Fault Refusal :=
  s.perform fun t =>
    match t.tx with
    | some f => t.sent f
    | none => t

end Sys2Proof.Machine
end

