-- ==== Sys2Proof/Machine/PeerCommands.lean ====
section
/-! DEFINITION. The frames of peers, each as the Line Interface hands it to the Bundle Coordinator (R8 step 9): the checks of
R164, then the rule of its kind. -/

namespace Sys2Proof.Machine

/-- QUIET_ASK (R165). -/
def execQuietAsk (sender : Station) (port units : Byte) (s : State) : Host.Outcome State Fault Refusal :=
  s.perform fun t => t.quietAskFrom sender port units

/-- QUIET_END (R166). -/
def execQuietEnd (sender : Station) (port : Byte) (s : State) : Host.Outcome State Fault Refusal :=
  s.perform fun t => t.quietEndFrom sender port

/-- SWEEP_START (R168). The pair mask is not used (R164). -/
def execSweepStart (sender : Station) (port _mask units : Byte) (s : State) : Host.Outcome State Fault Refusal :=
  s.perform fun t => t.sweepStartFrom sender port units

/-- SWEEP_END (R167). -/
def execSweepEnd (sender : Station) (port : Byte) (s : State) : Host.Outcome State Fault Refusal :=
  s.perform fun t => t.sweepEndFrom sender port

/-- COUPLING_SEEN (R174). -/
def execCouplingSeen (sender : Station) (swept sendersPort : Byte) (level : BitVec 16) (s : State) :
    Host.Outcome State Fault Refusal :=
  s.perform fun t => t.couplingSeenFrom sender swept sendersPort level

end Sys2Proof.Machine
end

