-- ==== Sys2Proof/Machine/RequestCommands.lean ====
section
/-! DEFINITION. The supervisor requests, each as the Line Interface hands it on after acceptance (R8 step 8): R9, R19, the
checks of R20, the owner's decision and the reply. -/

namespace Sys2Proof.Machine

/-- STATION_RESET (R30). -/
def execStationReset (s : State) : Host.Outcome State Fault Refusal := s.perform fun t => t.takeRequest State.stationReset

/-- ENABLE (R86): LANE_CONTROL, action 1. -/
def execEnable (port : Byte) (s : State) : Host.Outcome State Fault Refusal :=
  s.perform fun t => t.takeRequest fun u => u.laneControl port 1

/-- DISABLE (R87): LANE_CONTROL, action 2. -/
def execDisable (port : Byte) (s : State) : Host.Outcome State Fault Refusal :=
  s.perform fun t => t.takeRequest fun u => u.laneControl port 2

/-- RETRAIN (R88): LANE_CONTROL, action 3. -/
def execRetrain (port : Byte) (s : State) : Host.Outcome State Fault Refusal :=
  s.perform fun t => t.takeRequest fun u => u.laneControl port 3

/-- UNPARK (R89): LANE_CONTROL, action 4. -/
def execUnpark (port : Byte) (s : State) : Host.Outcome State Fault Refusal :=
  s.perform fun t => t.takeRequest fun u => u.laneControl port 4

/-- SWEEP (R113). -/
def execSweep (port mask depth flags : Byte) (s : State) : Host.Outcome State Fault Refusal :=
  s.perform fun t => t.takeRequest fun u => u.sweepRequest port mask depth flags

/-- CANCEL_SWEEP (R114). -/
def execCancelSweep (port : Byte) (s : State) : Host.Outcome State Fault Refusal :=
  s.perform fun t => t.takeRequest fun u => u.cancelRequest port

/-- SET_PROFILE (R41). -/
def execSetProfile (bytes : ProfileBytes) (s : State) : Host.Outcome State Fault Refusal :=
  s.perform fun t => t.takeRequest fun u => u.profileRequest bytes

/-- SET_GUARD (R29). -/
def execSetGuard (mask : BitVec 16) (s : State) : Host.Outcome State Fault Refusal :=
  s.perform fun t => t.takeRequest fun u => u.guardRequest mask

/-- SET_SURVEY (R177). -/
def execSetSurvey (interval mode : Byte) (s : State) : Host.Outcome State Fault Refusal :=
  s.perform fun t => t.takeRequest fun u => u.surveyRequest interval mode

/-- QUERY_STATION (R24). -/
def execQueryStation (s : State) : Host.Outcome State Fault Refusal :=
  s.perform fun t => t.takeRequest fun u => u.place (.single u.stationStatusFrame)

/-- QUERY_PORT (R25). -/
def execQueryPort (port : Byte) (s : State) : Host.Outcome State Fault Refusal :=
  s.perform fun t => t.takeRequest fun u => u.portQuery port

/-- READ_RECORD (R27). -/
def execReadRecord (port : Byte) (s : State) : Host.Outcome State Fault Refusal :=
  s.perform fun t => t.takeRequest fun u => u.recordRead port

/-- READ_COUPLING (R28). -/
def execReadCoupling (start : Byte) (s : State) : Host.Outcome State Fault Refusal :=
  s.perform fun t => t.takeRequest fun u => u.place (u.couplingSnapshot start)

/-- CLEAR_COUPLING (R163). -/
def execClearCoupling (s : State) : Host.Outcome State Fault Refusal := s.perform fun t => t.takeRequest State.couplingClear

end Sys2Proof.Machine
end

