-- ==== Sys2Proof/Machine/ResetCommands.lean ====
section
/-! DEFINITION. The reset pin and the Time Base: RESET_ASSERT, RESET_RELEASE, MINUTE_ADVANCE. -/

namespace Sys2Proof.Machine

/-- RESET_ASSERT (R35): RSTN is low. The line is released, every activity is abandoned without any frame or notice, and the
blocks wait at their power-on values for RSTN to rise; the straps taken and the Time Base stand until then. -/
def execResetAssert (s : State) : Host.Outcome State Fault Refusal :=
  .next { s.powerOnValues s.station s.twelvePorts s.autostart with
    ms := s.ms, minutes := s.minutes, minuteMark := s.minuteMark, inReset := true }

/-- The station number a strap value gives: v gives v + 1 (R35). -/
def strapStation (sta : BitVec 3) : Station := sta.setWidth 4 + 1

/-- RESET_RELEASE (R35 to R37): the straps are sampled, every block takes its power-on values, the present lanes enter
STARTING and both engines begin calibrating. -/
def execResetRelease (sta : BitVec 3) (pcs aut : Bool) (s : State) : Host.Outcome State Fault Refusal :=
  .next (s.powerOnValues (strapStation sta) pcs aut).beginCalibration

/-- The millisecond count has advanced by 60,000 since the minute count's last advance (R1). -/
def State.minuteDue (s : State) : Bool := decide (timeBetween s.minuteMark s.ms = Config.minuteMs)

/-- The ages of the records of the present ports count a minute (R153). -/
def State.ageRecords (s : State) : State :=
  s.presentPorts.foldl (fun t p => t.setRecord p (t.record p).ageMinute) s

/-- The minute count advances: record ages (R153) and coupling ages (R162) with it. -/
def State.advanceMinute (s : State) : State :=
  { s.ageRecords with
    minutes := s.minutes + 1, minuteMark := s.ms, coupling := s.coupling.map CouplingEntry.ageMinute }

/-- MINUTE_ADVANCE (R1, R153, R162), when it is due. -/
def execMinuteAdvance (s : State) : Host.Outcome State Fault Refusal :=
  s.perform fun t => if t.minuteDue then t.advanceMinute else t

end Sys2Proof.Machine
end

