-- ==== Sys2Proof/Machine/TapCommands.lean ====
section
/-! DEFINITION. The events of the media taps (R51 to R59, R66, R69 to R77, R85). -/

namespace Sys2Proof.Machine

/-! ## Energy (R52, R53) -/

/-- ENERGY on, the flag having been off: the flag, then the sweep, the listen job, the holdoff, and a SWEEP_WAIT lane. -/
def State.energyRises (s : State) (p : Port) : State :=
  let s := s.modifyLane p fun l => { l with energy := true }
  (((s.suspendOn p true).listenDrop p).setHoldoff p none).sweepWaitTest p

/-- ENERGY off, the flag having been on: the flag; NEGOTIATE returns to ADVERTISE; TRAIN fails with PARTNER_LOST. -/
def State.energyFalls (s : State) (p : Port) : State :=
  let s := s.modifyLane p fun l => { l with energy := false }
  if (s.lane p).state = .negotiate then s.enterAdvertise p false
  else if (s.lane p).state = .train then s.failLane p .partnerLost false
  else s

/-- ENERGY_ON (R53). An event that matches the flag changes nothing (R52). -/
def execEnergyOn (port : Port) (s : State) : Host.Outcome State Fault Refusal :=
  s.tapEvent port fun t => if (t.lane port).energy then t else t.energyRises port

/-- ENERGY_OFF (R52). -/
def execEnergyOff (port : Port) (s : State) : Host.Outcome State Fault Refusal :=
  s.tapEvent port fun t => if (t.lane port).energy then t.energyFalls port else t

/-! ## Capability words (R54, R72 to R74) -/

/-- The entering word, taken as the first partner word (R72). -/
def State.firstWord (s : State) (p : Port) (offer : GradeSet) (remoteFault : Bool) : State :=
  let s := s.enterNegotiate p
  if remoteFault then s.failLane p .partnerFault false
  else s.modifyLane p fun l => { l with neg := ⟨some offer, 1, false, 0⟩ }

/-- Negotiation is complete: the grade is resolved and the lane trains, or fails with NO_COMMON (R74, R94). -/
def State.completeNegotiation (s : State) (p : Port) : State :=
  let l := s.lane p
  match resolveGrade l.offered (l.neg.lastOffer.getD 0) with
  | some g => s.enterTrain p g
  | none => s.failLane p .noCommon false

/-- The negotiation record after a further partner word without remote fault (R73, R74). -/
def NegRecord.word (n : NegRecord) (offer : GradeSet) (ack : Bool) : NegRecord :=
  if n.lastOffer = some offer then
    let identical := min 3 (n.identical + 1)
    if n.ownAck then { n with identical := identical, ackRun := if ack then n.ackRun + 1 else 0 }
    else { n with identical := identical, ownAck := decide (identical = 3), ackRun := 0 }
  else ⟨some offer, 1, false, 0⟩

/-- A further partner word in NEGOTIATE (R73, R74): the lane's word is sent again when its own ack changes, and an ack run of
2 completes the negotiation. -/
def State.nextWord (s : State) (p : Port) (offer : GradeSet) (ack remoteFault : Bool) : State :=
  if remoteFault then s.failLane p .partnerFault false
  else
    let l := s.lane p
    let n := l.neg.word offer ack
    let s := s.setLane p { l with neg := n }
    if n.ownAck ≠ l.neg.ownAck then s.laneIssue p (.sendWord l.offered n.ownAck)
    else if n.ownAck ∧ 2 ≤ n.ackRun then s.completeNegotiation p
    else s

/-- BURST (R54). -/
def execBurst (port : Port) (offer : GradeSet) (ack remoteFault : Bool) (s : State) : Host.Outcome State Fault Refusal :=
  s.tapEvent port fun t =>
    match (t.lane port).state with
    | .advertise => t.firstWord port offer remoteFault
    | .negotiate => t.nextWord port offer ack remoteFault
    | .starting | .disabled | .held | .train | .up | .backoff | .sweepWait | .parked => t

/-! ## Link pulses (R55, R95) -/

/-- A legacy partner is detected: TRAIN at G1 if it is offered, else NO_COMMON (R95). -/
def State.legacyDetected (s : State) (p : Port) : State :=
  if hasGrade (s.lane p).offered .g1 then s.enterTrain p .g1 else s.failLane p .noCommon false

/-- The plain-pulse count after a pulse at `now` (R55 steps 1 and 2). -/
def pulseCountAfter (count : Nat) (last : Option Ms) (now : Ms) : Nat :=
  match last with
  | none => count
  | some t => if 8 ≤ timeBetween t now ∧ timeBetween t now ≤ 24 then count + 1 else 0

/-- PLAIN_PULSE (R55). -/
def execPlainPulse (port : Port) (s : State) : Host.Outcome State Fault Refusal :=
  s.tapEvent port fun t =>
    let l := t.lane port
    if l.state = .advertise then
      let n := pulseCountAfter l.pulseCount l.lastPulse t.ms
      if 3 ≤ n then (t.setLane port { l with pulseCount := 0, lastPulse := none }).legacyDetected port
      else t.setLane port { l with pulseCount := n, lastPulse := some t.ms }
    else t

/-! ## Training and link loss (R57, R58, R76, R77, R85) -/

/-- TRAIN_PROGRESS (R57): LOCKED in TRAIN cancels the window and enters UP. -/
def execTrainProgress (port : Port) (stage : TrainStage) (s : State) : Host.Outcome State Fault Refusal :=
  s.tapEvent port fun t => if (t.lane port).state = .train ∧ stage = .locked then t.enterUp port else t

/-- The failure reason of a training fault, and whether it is cable-related (R57, R78). -/
def faultReason : TrainFaultKind → LastFailure × Bool
  | .pairMissing => (.pairFault, true)
  | .skew => (.skew, true)
  | .polarity => (.polarity, false)

/-- TRAIN_FAULT (R77): on a pair used at the grade being trained. -/
def execTrainFault (port : Port) (kind : TrainFaultKind) (pair : Pair) (s : State) : Host.Outcome State Fault Refusal :=
  s.tapEvent port fun t =>
    match (t.lane port).state, (t.lane port).training with
    | .train, some g =>
      if pairUsed g pair then t.failLane port (faultReason kind).1 (faultReason kind).2 else t
    | _, _ => t

/-- LINK_LOST in UP (R85): what every loss does, then by the time spent in UP. -/
def State.loseLink (s : State) (p : Port) : State :=
  let l := s.lane p
  let spent := timeBetween l.upStart s.ms
  let s := (s.leaveUp p).modifyLane p fun x => { x with transferOwed := true, grade := none }
  let s := if l.active.autoSweep then s.setHoldoff p (some (s.after Config.holdoffMs)) else s
  if spent < Config.lostEarlyMs then s.failLane p .lostEarly true
  else if spent < Config.lostStableMs then s.enterAdvertise p false
  else
    let allowed := (s.record p).allowed
    (s.modifyLane p fun x => x.restoreCeiling allowed).enterAdvertise p false

/-- LINK_LOST (R85). -/
def execLinkLost (port : Port) (s : State) : Host.Outcome State Fault Refusal :=
  s.tapEvent port fun t => if (t.lane port).state = .up then t.loseLink port else t

/-! ## Power detection (R59, R66) -/

/-- POWER_DETECT_BEGIN (R66, R59): the flag, the hold set, then the sweep. An event that matches the flag changes nothing. -/
def execPowerDetectBegin (port : Port) (s : State) : Host.Outcome State Fault Refusal :=
  s.tapEvent port fun t =>
    if (t.lane port).power then t
    else ((t.modifyLane port fun l => { l with power := true }).addReason port .power).suspendOn port false

/-- POWER_DETECT_END (R66). -/
def execPowerDetectEnd (port : Port) (s : State) : Host.Outcome State Fault Refusal :=
  s.tapEvent port fun t =>
    if (t.lane port).power then (t.modifyLane port fun l => { l with power := false }).dropReason port .power else t

/-! ## Captures (R51, R121, R38, R170) -/

/-- The capture of a completed SHOOT: it closes, and the engine accumulates it and goes on (R51, R121). -/
def State.shotCompleted (s : State) (e : EngineId) (p : Port) (blocks : Four ShotBlock) : State :=
  match (s.engine e).current, s.entryOf p with
  | some q, some x =>
    ((s.modifyLane p Lane.closeCapture).modifyEngine e (·.accumulate q blocks)).afterShot e p q x.depth
  | _, _ => s.modifyLane p Lane.closeCapture

/-- The capture of a completed CAL_SHOOT (R51, R38). -/
def State.calShotCompleted (s : State) (e : EngineId) (p : Port) (block : ShotBlock) : State :=
  ((s.modifyLane p Lane.closeCapture).modifyEngine e (·.accumulateCal block)).afterCalShot e

/-- CAPTURE_DONE (R51): routed to the engine that holds the port if its tag is the outstanding one, else ignored. Blocks of
another kind than the capture commanded stop the model (log 9). -/
def execCaptureDone (port : Port) (tag : Byte) (data : Capture) (s : State) : Host.Outcome State Fault Refusal :=
  if s.inReset ∨ s.present port = false ∨ (s.lane port).outstanding ≠ some tag then s.perform id
  else
    match (s.lane port).holder with
    | .lane => s.perform id
    | .engine e =>
      match (s.engine e).state, data with
      | .shooting, .shoot blocks => s.perform fun t => t.shotCompleted e port blocks
      | .calibrating, .cal block => s.perform fun t => t.calShotCompleted e port block
      | .listening, .listen blocks => s.perform fun t => t.foldBlock e port blocks
      | .shooting, .cal _ | .shooting, .listen _ | .calibrating, .shoot _ | .calibrating, .listen _ | .listening, .shoot _
      | .listening, .cal _ => .fault .captureShape
      | .idle, _ | .preparing, _ | .analysing, _ => s.perform id

/-- A shot has failed: its capture closes; the engine counts it and goes on (R51, R121, R38). -/
def State.shotFailed (s : State) (p : Port) : State :=
  let holder := (s.lane p).holder
  let s := s.modifyLane p Lane.closeCapture
  match holder with
  | .lane => s
  | .engine e =>
    match (s.engine e).state with
    | .calibrating => s.afterCalShot e
    | .shooting =>
      match (s.engine e).current, s.entryOf p with
      | some q, some x =>
        (s.modifyEngine e fun g => { g with failedRun := g.failedRun + 1 }).afterShot e p q x.depth
      | _, _ => s
    | .idle | .preparing | .analysing | .listening => s

/-- CAPTURE_TIMEOUT (R51), when it is due. -/
def execCaptureTimeout (port : Port) (s : State) : Host.Outcome State Fault Refusal :=
  s.tapEvent port fun t => if (t.lane port).captureDue = some t.ms then t.shotFailed port else t

end Sys2Proof.Machine
end

