-- ==== Sys2Proof/Machine/TimerCommands.lean ====
section
/-! DEFINITION. The expiries of the lanes, the Survey Timer and the engines, and PREPARE_PASS. An expiry is reached when the
millisecond count equals it (R1): a command whose timer is not running, or not due, changes nothing (log 2). -/

namespace Sys2Proof.Machine

/-! ## Lane timers (R91, R68) -/

/-- The timer of kind k of a lane is due. -/
def State.laneTimerDue (s : State) (p : Port) (k : LaneTimer) : Bool := decide ((s.lane p).timer = some (k, s.ms))

/-- NEG_WINDOW_EXPIRY (R75): cable-related if the energy-present flag is set at the expiry (R78). -/
def execNegWindowExpiry (port : Port) (s : State) : Host.Outcome State Fault Refusal :=
  s.tapEvent port fun t =>
    if t.laneTimerDue port .negotiate then t.failLane port .negTimeout (t.lane port).energy else t

/-- TRAIN_WINDOW_EXPIRY (R77). -/
def execTrainWindowExpiry (port : Port) (s : State) : Host.Outcome State Fault Refusal :=
  s.tapEvent port fun t => if t.laneTimerDue port .train then t.failLane port .trainTimeout true else t

/-- BACKOFF_EXPIRY (R71). -/
def execBackoffExpiry (port : Port) (s : State) : Host.Outcome State Fault Refusal :=
  s.tapEvent port fun t => if t.laneTimerDue port .backoff then t.enterAdvertise port false else t

/-- The quiet-hold record of a key is due (R68). -/
def State.quietDue (s : State) (p : Port) (st : Station) (port : Port) : Bool :=
  (s.lane p).quiet.any fun q => q.hasKey st port && decide (q.expiry = s.ms)

/-- QUIET_RECORD_EXPIRY (R68). -/
def execQuietRecordExpiry (port : Port) (asker : Station) (askerPort : Port) (s : State) :
    Host.Outcome State Fault Refusal :=
  s.tapEvent port fun t => if t.quietDue port asker askerPort then t.quietEndLane port asker askerPort else t

/-! ## Survey Timer (R178, R181) -/

/-- HOLDOFF_EXPIRY (R181). -/
def execHoldoffExpiry (port : Port) (s : State) : Host.Outcome State Fault Refusal :=
  s.tapEvent port fun t => if t.holdoff port = some t.ms then t.expireHoldoff port else t

/-- SURVEY_EXPIRY (R178). -/
def execSurveyExpiry (s : State) : Host.Outcome State Fault Refusal :=
  s.perform fun t => if t.surveyTimer = some t.ms then t.expireSurvey else t

/-! ## Engine timers (R120 to R123, R38, R173) -/

/-- The timer of kind k of an engine is due. -/
def State.engineTimerDue (s : State) (e : EngineId) (k : EngineTimer) : Bool :=
  decide ((s.engine e).timer = some (k, s.ms))

/-- The engine's timer has expired and runs no more. -/
def Engine.stopTimer (g : Engine) : Engine := { g with timer := none }

/-- The engine is in PREPARING with both waits of R120 over: no timer runs and no frame posted for it remains in the
coordination list. -/
def State.passReady (s : State) (e : EngineId) : Bool :=
  decide ((s.engine e).state = .preparing) && decide ((s.engine e).timer = none) && !s.framesOutstanding e

/-- R120 steps 1 to 3: pass pairs, QUIET_ASK, settle timer. -/
def State.preparePass (s : State) (e : EngineId) (x : Entry) : State :=
  let n := (pairsOf x.remaining).length
  let due := s.after Config.settleMs
  (s.postCoord (quietAskFrame x.port (holdUnits n x.depth)) (some e)).modifyEngine e fun g =>
    { g with passPairs := x.remaining, heldBack := 0, announcement := .asked, timer := some (.settle, due) }

/-- The entry bound to an engine. -/
def State.boundEntry (s : State) (e : EngineId) : Option Entry := (s.engine e).bound.bind s.entryOf

/-- PREPARE_PASS (R120), once the engine's earlier coordination frames have drained. -/
def execPreparePass (engine : EngineId) (s : State) : Host.Outcome State Fault Refusal :=
  s.perform fun t =>
    if t.passReady engine then
      match t.boundEntry engine with
      | some x => t.preparePass engine x
      | none => t
    else t

/-- R120 steps 4 and 5: SWEEP_START, then the first pair of the pass. -/
def State.settled (s : State) (e : EngineId) (x : Entry) : State :=
  let pairs := (s.engine e).passPairs
  let s := (s.postCoord (sweepStartFrame x.port pairs (listenUnits (pairsOf pairs).length x.depth)) (some e)).modifyEngine e
    fun g => { g.stopTimer with announcement := .started }
  match pairsOf pairs with
  | q :: _ => s.beginPair e x.port q
  | [] => s

/-- SETTLE_EXPIRY (R120). -/
def execSettleExpiry (engine : EngineId) (s : State) : Host.Outcome State Fault Refusal :=
  s.perform fun t =>
    if t.engineTimerDue engine .settle then
      match t.boundEntry engine with
      | some x => t.settled engine x
      | none => t.modifyEngine engine Engine.stopTimer
    else t

/-- RETRY_WAIT_EXPIRY (R123): PREPARING goes on from step 1 of R120. -/
def execRetryWaitExpiry (engine : EngineId) (s : State) : Host.Outcome State Fault Refusal :=
  s.perform fun t => if t.engineTimerDue engine .retryWait then t.modifyEngine engine Engine.stopTimer else t

/-- ANALYSIS_END (R122). -/
def execAnalysisEnd (engine : EngineId) (s : State) : Host.Outcome State Fault Refusal :=
  s.perform fun t =>
    if t.engineTimerDue engine .analysis then
      let t := t.modifyEngine engine Engine.stopTimer
      match (t.engine engine).bound, (t.engine engine).current with
      | some p, some q => t.endAnalysis engine p q
      | _, _ => t
    else t

/-- CALIBRATION_RESULT (R38, R37). When both engines become free together, engine 0 takes its next lane first. -/
def execCalibrationResult (engine : EngineId) (s : State) : Host.Outcome State Fault Refusal :=
  s.perform fun t =>
    if t.engineTimerDue engine .calibration then
      if engine = 1 ∧ t.engineTimerDue 0 .calibration then
        ((t.finishCalibration 0).finishCalibration 1).startupEnd
      else (t.finishCalibration engine).startupEnd
    else t

/-- The timer of an engine's listen job is due (R173). -/
def State.jobDue (s : State) (e : EngineId) : Bool :=
  match (s.engine e).job with
  | some j => decide (j.endTime = s.ms)
  | none => false

/-- LISTEN_JOB_END (R173). -/
def execListenJobEnd (engine : EngineId) (s : State) : Host.Outcome State Fault Refusal :=
  s.perform fun t => if t.jobDue engine then t.endListenJob engine else t

end Sys2Proof.Machine
end

