-- ==== Sys2Proof/Machine/Dispatch.lean ====
section
/-! DEFINITION. One arm for each command: the call of its meaning. -/

namespace Sys2Proof.Machine

def exec (i : Instr) (s : State) : Host.Outcome State Fault Refusal :=
  match i with
  | .resetAssert => Sys2Proof.Machine.execResetAssert s
  | .resetRelease sta pcs aut => Sys2Proof.Machine.execResetRelease sta pcs aut s
  | .minuteAdvance => Sys2Proof.Machine.execMinuteAdvance s
  | .frameReceived kind header payload check => Sys2Proof.Machine.execFrameReceived kind header payload check s
  | .frameBreak => Sys2Proof.Machine.execFrameBreak s
  | .frameLengthOverflow len => Sys2Proof.Machine.execFrameLengthOverflow len s
  | .trailingCell => Sys2Proof.Machine.execTrailingCell s
  | .lineIdle => Sys2Proof.Machine.execLineIdle s
  | .arbitrationLost => Sys2Proof.Machine.execArbitrationLost s
  | .collisionError => Sys2Proof.Machine.execCollisionError s
  | .frameSent => Sys2Proof.Machine.execFrameSent s
  | .stationReset => Sys2Proof.Machine.execStationReset s
  | .enable port => Sys2Proof.Machine.execEnable port s
  | .disable port => Sys2Proof.Machine.execDisable port s
  | .retrain port => Sys2Proof.Machine.execRetrain port s
  | .unpark port => Sys2Proof.Machine.execUnpark port s
  | .sweep port mask depth flags => Sys2Proof.Machine.execSweep port mask depth flags s
  | .cancelSweep port => Sys2Proof.Machine.execCancelSweep port s
  | .setProfile bytes => Sys2Proof.Machine.execSetProfile bytes s
  | .setGuard mask => Sys2Proof.Machine.execSetGuard mask s
  | .setSurvey interval mode => Sys2Proof.Machine.execSetSurvey interval mode s
  | .queryStation => Sys2Proof.Machine.execQueryStation s
  | .queryPort port => Sys2Proof.Machine.execQueryPort port s
  | .readRecord port => Sys2Proof.Machine.execReadRecord port s
  | .readCoupling start => Sys2Proof.Machine.execReadCoupling start s
  | .clearCoupling => Sys2Proof.Machine.execClearCoupling s
  | .quietAsk sender port units => Sys2Proof.Machine.execQuietAsk sender port units s
  | .quietEnd sender port => Sys2Proof.Machine.execQuietEnd sender port s
  | .sweepStart sender port mask units => Sys2Proof.Machine.execSweepStart sender port mask units s
  | .sweepEnd sender port => Sys2Proof.Machine.execSweepEnd sender port s
  | .couplingSeen sender swept sendersPort level => Sys2Proof.Machine.execCouplingSeen sender swept sendersPort level s
  | .energyOn port => Sys2Proof.Machine.execEnergyOn port s
  | .energyOff port => Sys2Proof.Machine.execEnergyOff port s
  | .burst port offer ack remoteFault => Sys2Proof.Machine.execBurst port offer ack remoteFault s
  | .plainPulse port => Sys2Proof.Machine.execPlainPulse port s
  | .trainProgress port stage => Sys2Proof.Machine.execTrainProgress port stage s
  | .trainFault port kind pair => Sys2Proof.Machine.execTrainFault port kind pair s
  | .linkLost port => Sys2Proof.Machine.execLinkLost port s
  | .powerDetectBegin port => Sys2Proof.Machine.execPowerDetectBegin port s
  | .powerDetectEnd port => Sys2Proof.Machine.execPowerDetectEnd port s
  | .captureDone port tag data => Sys2Proof.Machine.execCaptureDone port tag data s
  | .captureTimeout port => Sys2Proof.Machine.execCaptureTimeout port s
  | .calibrationResult engine => Sys2Proof.Machine.execCalibrationResult engine s
  | .negWindowExpiry port => Sys2Proof.Machine.execNegWindowExpiry port s
  | .trainWindowExpiry port => Sys2Proof.Machine.execTrainWindowExpiry port s
  | .backoffExpiry port => Sys2Proof.Machine.execBackoffExpiry port s
  | .quietRecordExpiry port asker askerPort => Sys2Proof.Machine.execQuietRecordExpiry port asker askerPort s
  | .settleExpiry engine => Sys2Proof.Machine.execSettleExpiry engine s
  | .retryWaitExpiry engine => Sys2Proof.Machine.execRetryWaitExpiry engine s
  | .preparePass engine => Sys2Proof.Machine.execPreparePass engine s
  | .analysisEnd engine => Sys2Proof.Machine.execAnalysisEnd engine s
  | .listenJobEnd engine => Sys2Proof.Machine.execListenJobEnd engine s
  | .holdoffExpiry port => Sys2Proof.Machine.execHoldoffExpiry port s
  | .surveyExpiry => Sys2Proof.Machine.execSurveyExpiry s
  | .newFrame => Sys2Proof.Machine.execNewFrame s

end Sys2Proof.Machine
end

