-- ==== Sys2Proof/Machine/Events.lean ====
section
/-! DEFINITION. What the part does of its own accord: the events that fall due at the present millisecond, the free choice
between several, and the advance of the millisecond count (R1). -/

namespace Sys2Proof.Machine

/-- c if it is due, else nothing. -/
def ifDue (due : Bool) (c : Instr) : List Instr := if due then [c] else []

/-- The capture timeout of a port is due (R51). -/
def State.captureTimeoutDue (s : State) (p : Port) : Bool := decide ((s.lane p).captureDue = some s.ms)

/-- The link-down holdoff of a port is due (R181). -/
def State.holdoffDue (s : State) (p : Port) : Bool := decide (s.holdoff p = some s.ms)

/-- The survey timer is due (R178). -/
def State.surveyDue (s : State) : Bool := decide (s.surveyTimer = some s.ms)

/-- The events due on one port: its lane timer, its quiet-hold records, its capture, its holdoff. -/
def State.portEvents (s : State) (p : Port) : List Instr :=
  ifDue (s.laneTimerDue p .negotiate) (.negWindowExpiry p) ++
  ifDue (s.laneTimerDue p .train) (.trainWindowExpiry p) ++
  ifDue (s.laneTimerDue p .backoff) (.backoffExpiry p) ++
  (((s.lane p).quiet.filter fun q => decide (q.expiry = s.ms)).map fun q => .quietRecordExpiry p q.asker q.askerPort) ++
  ifDue (s.captureTimeoutDue p) (.captureTimeout p) ++
  ifDue (s.holdoffDue p) (.holdoffExpiry p)

/-- The events due on one engine: its timer, its listen job, and the beginning of a pass whose waits are over. -/
def State.engineEvents (s : State) (e : EngineId) : List Instr :=
  ifDue (s.engineTimerDue e .settle) (.settleExpiry e) ++
  ifDue (s.engineTimerDue e .retryWait) (.retryWaitExpiry e) ++
  ifDue (s.engineTimerDue e .analysis) (.analysisEnd e) ++
  ifDue (s.engineTimerDue e .calibration) (.calibrationResult e) ++
  ifDue (s.jobDue e) (.listenJobEnd e) ++
  ifDue (s.passReady e && (s.boundEntry e).isSome) (.preparePass e)

/-- Every event of the part's own that is due now. -/
def State.dueEvents (s : State) : List Instr :=
  ifDue s.minuteDue .minuteAdvance ++ ifDue s.surveyDue .surveyExpiry ++
  s.presentPorts.flatMap s.portEvents ++ allEngines.flatMap s.engineEvents

/-- What the part does with no command waiting: take a due event, or let a millisecond pass. -/
inductive OwnAct where
  /-- Nothing is due: the millisecond count advances (R1). -/
  | tick
  /-- The only event that is due. -/
  | only (c : Instr)
  /-- One of several due events, picked by the free value (log 3). -/
  | picked (c : Instr)
  deriving DecidableEq, Repr

/-- The act, from the due events and the value that picks among several. -/
def ownAct (choice : Nat) : List Instr → OwnAct
  | [] => .tick
  | [c] => .only c
  | c :: d :: rest => .picked ((c :: d :: rest).getD (choice % (rest.length + 2)) c)

/-- The act of a part with no command waiting. -/
def State.ownAct (s : State) : OwnAct := Sys2Proof.Machine.ownAct (Config.dueChoice s.freeCount) s.dueEvents

/-- One millisecond passes (R1). -/
def State.tick (s : State) : State := { s with ms := s.ms + 1 }

/-- A free choice has been made (log 3). -/
def State.countChoice (s : State) : State := { s with freeCount := s.freeCount + 1 }

end Sys2Proof.Machine
end

