-- ==== Sys2Proof/Machine/Step.lean ====
section
/-! DEFINITION. One step: the command at the front of the queue, or, on an empty queue, what the part does of its own accord. -/

namespace Sys2Proof.Machine

/-- The step on an empty queue (DESIGN CHOICE, logs 1 and 3): a part held in reset idles; else an event of the part's own
that is due now is taken by its command, or a millisecond passes. -/
def idleStep (s : State) : Host.Outcome State Fault Refusal :=
  if s.inReset then .next s
  else
    match s.ownAct with
    | .tick => .next s.tick
    | .only c => exec c s
    | .picked c => exec c s.countChoice

/-- One step of the part. -/
def step (s : State) : Host.Outcome State Fault Refusal :=
  match s.pending with
  | c :: rest => exec c { s with pending := rest }
  | [] => idleStep s

/-- s with the command a word spells put at the front of its queue. No word spells one (log 13). -/
def State.withFetchWord (s : State) (nbits w : Nat) : State :=
  match decodeTableWord nbits w with
  | some c => { s with pending := c :: s.pending }
  | none => s

end Sys2Proof.Machine
end

