-- ==== Sys2Proof/WellFormed.lean ====
section
/-! DEFINITION. Which commands the line, the taps and the part itself can deliver. -/

namespace Sys2Proof

/-- A peer's station number: 1 to 8 (R8 step 5). -/
def peerStation (st : Station) : Bool := 1 ≤ st.toNat && st.toNat ≤ 8

/-- The checks on a command: a complete frame carries at most 16 payload bytes (R4, R5), an overflow is of a length above
16 (R5), a coordination frame and a quiet-hold record come from a station 1-8 (R8 step 5, R67). Every other operand is
unrestricted: the part checks it. -/
def Instr.wellFormed : Instr → Bool
  | .frameReceived _ _ payload _ => payload.length ≤ 16
  | .frameLengthOverflow len => 16 < len.toNat
  | .quietAsk st _ _ => peerStation st
  | .quietEnd st _ => peerStation st
  | .sweepStart st _ _ _ => peerStation st
  | .sweepEnd st _ => peerStation st
  | .couplingSeen st _ _ _ => peerStation st
  | .quietRecordExpiry _ st _ => peerStation st
  | .resetAssert | .resetRelease _ _ _ | .minuteAdvance | .frameBreak | .trailingCell | .lineIdle | .arbitrationLost
  | .collisionError | .frameSent | .stationReset | .enable _ | .disable _ | .retrain _ | .unpark _ | .sweep _ _ _ _
  | .cancelSweep _ | .setProfile _ | .setGuard _ | .setSurvey _ _ | .queryStation | .queryPort _ | .readRecord _
  | .readCoupling _ | .clearCoupling | .energyOn _ | .energyOff _ | .burst _ _ _ _ | .plainPulse _ | .trainProgress _ _
  | .trainFault _ _ _ | .linkLost _ | .powerDetectBegin _ | .powerDetectEnd _ | .captureDone _ _ _ | .captureTimeout _
  | .calibrationResult _ | .negWindowExpiry _ | .trainWindowExpiry _ | .backoffExpiry _ | .settleExpiry _
  | .retryWaitExpiry _ | .preparePass _ | .analysisEnd _ | .listenJobEnd _ | .holdoffExpiry _ | .surveyExpiry
  | .newFrame => true

end Sys2Proof
end

