-- ==== Sys2Proof/Safety.lean ====
section
/-! DEFINITION. What the claims speak of: when a command is decided, what a received frame hands on, and the invariants that
every step keeps. -/

namespace Sys2Proof.Machine

/-! ## When events and commands are taken -/

/-- A command names an event of the part's own that is due at the present count: a timer of a present port, of an engine, of
the survey or of the minute whose expiry it is (R1, R38, R51, R68, R91, R120, R122, R123, R173, R178, R181), or a pass whose
waits are over (R120). -/
def State.isDue (s : State) (c : Instr) : Prop :=
  (c = .minuteAdvance ∧ timeBetween s.minuteMark s.ms = 60000) ∨
  (c = .surveyExpiry ∧ s.surveyTimer = some s.ms) ∨
  (∃ p, s.present p = true ∧
    ((c = .negWindowExpiry p ∧ (s.lane p).timer = some (.negotiate, s.ms)) ∨
      (c = .trainWindowExpiry p ∧ (s.lane p).timer = some (.train, s.ms)) ∨
      (c = .backoffExpiry p ∧ (s.lane p).timer = some (.backoff, s.ms)) ∨
      (∃ q ∈ (s.lane p).quiet, c = .quietRecordExpiry p q.asker q.askerPort ∧ q.expiry = s.ms) ∨
      (c = .captureTimeout p ∧ (s.lane p).captureDue = some s.ms) ∨
      (c = .holdoffExpiry p ∧ s.holdoff p = some s.ms))) ∨
  ∃ e,
    (c = .settleExpiry e ∧ (s.engine e).timer = some (.settle, s.ms)) ∨
    (c = .retryWaitExpiry e ∧ (s.engine e).timer = some (.retryWait, s.ms)) ∨
    (c = .analysisEnd e ∧ (s.engine e).timer = some (.analysis, s.ms)) ∨
    (c = .calibrationResult e ∧ (s.engine e).timer = some (.calibration, s.ms)) ∨
    (c = .listenJobEnd e ∧ ∃ j, (s.engine e).job = some j ∧ j.endTime = s.ms) ∨
    (c = .preparePass e ∧ (s.engine e).state = .preparing ∧ (s.engine e).timer = none ∧
      (∀ f ∈ s.coordList, f.engine ≠ some e) ∧ ∃ p, (s.engine e).bound = some p ∧ ∃ x ∈ s.queue, x.port = p)

/-- A tap event of a port is taken: RSTN is high and the port is present (R35). -/
def State.hears (s : State) (p : Port) : Bool := !s.inReset && s.present p

/-- A request that is handed on is decided: RSTN is high, the reply list has a place (R9) and start-up is over (R19). -/
def State.decides (s : State) : Bool :=
  !s.inReset && decide (s.replyList.length < Config.replyCapacity) && !s.anyStarting

/-- The Bundle Coordinator takes frames: RSTN is high and start-up is over (R164). -/
def State.coordinates (s : State) : Bool := !s.inReset && !s.anyStarting

/-- A peer's station number: 1-8, not the own (R8). -/
def State.isPeer (s : State) (st : Station) : Bool := peerStation st && decide (st ≠ s.station)

/-- The rows that stand for supervisor requests (R17, 01-0C hex). -/
def requestOf : Instr → Option RequestKind
  | .stationReset => some .stationReset
  | .enable _ | .disable _ | .retrain _ | .unpark _ => some .laneControl
  | .sweep _ _ _ _ => some .sweep
  | .cancelSweep _ => some .cancelSweep
  | .setProfile _ => some .setProfile
  | .setGuard _ => some .setGuard
  | .setSurvey _ _ => some .setSurvey
  | .queryStation => some .queryStation
  | .queryPort _ => some .queryPort
  | .readRecord _ => some .readRecord
  | .readCoupling _ => some .readCoupling
  | .clearCoupling => some .clearCoupling
  | .resetAssert | .resetRelease _ _ _ | .minuteAdvance | .frameReceived _ _ _ _ | .frameBreak | .frameLengthOverflow _
  | .trailingCell | .lineIdle | .arbitrationLost | .collisionError | .frameSent | .quietAsk _ _ _ | .quietEnd _ _
  | .sweepStart _ _ _ _ | .sweepEnd _ _ | .couplingSeen _ _ _ _ | .energyOn _ | .energyOff _ | .burst _ _ _ _
  | .plainPulse _ | .trainProgress _ _ | .trainFault _ _ _ | .linkLost _ | .powerDetectBegin _ | .powerDetectEnd _
  | .captureDone _ _ _ | .captureTimeout _ | .calibrationResult _ | .negWindowExpiry _ | .trainWindowExpiry _
  | .backoffExpiry _ | .quietRecordExpiry _ _ _ | .settleExpiry _ | .retryWaitExpiry _ | .preparePass _ | .analysisEnd _
  | .listenJobEnd _ | .holdoffExpiry _ | .surveyExpiry | .newFrame => none

/-- The port field of a request that names one port (R21). -/
def portFieldOf : Instr → Option Byte
  | .enable b | .disable b | .retrain b | .unpark b | .sweep b _ _ _ | .cancelSweep b | .queryPort b | .readRecord b =>
    some b
  | .resetAssert | .resetRelease _ _ _ | .minuteAdvance | .frameReceived _ _ _ _ | .frameBreak | .frameLengthOverflow _
  | .trailingCell | .lineIdle | .arbitrationLost | .collisionError | .frameSent | .stationReset | .setProfile _
  | .setGuard _ | .setSurvey _ _ | .queryStation | .readCoupling _ | .clearCoupling | .quietAsk _ _ _ | .quietEnd _ _
  | .sweepStart _ _ _ _ | .sweepEnd _ _ | .couplingSeen _ _ _ _ | .energyOn _ | .energyOff _ | .burst _ _ _ _
  | .plainPulse _ | .trainProgress _ _ | .trainFault _ _ _ | .linkLost _ | .powerDetectBegin _ | .powerDetectEnd _
  | .captureDone _ _ _ | .captureTimeout _ | .calibrationResult _ | .negWindowExpiry _ | .trainWindowExpiry _
  | .backoffExpiry _ | .quietRecordExpiry _ _ _ | .settleExpiry _ | .retryWaitExpiry _ | .preparePass _ | .analysisEnd _
  | .listenJobEnd _ | .holdoffExpiry _ | .surveyExpiry | .newFrame => none

/-- The port on whose tap or whose timers a row acts: the rows of the media tap, and the expiries of a port (R46, R91, R180). -/
def tapPortOf : Instr → Option Port
  | .energyOn p | .energyOff p | .burst p _ _ _ | .plainPulse p | .trainProgress p _ | .trainFault p _ _ | .linkLost p
  | .powerDetectBegin p | .powerDetectEnd p | .captureDone p _ _ | .captureTimeout p | .negWindowExpiry p
  | .trainWindowExpiry p | .backoffExpiry p | .quietRecordExpiry p _ _ | .holdoffExpiry p => some p
  | .resetAssert | .resetRelease _ _ _ | .minuteAdvance | .frameReceived _ _ _ _ | .frameBreak | .frameLengthOverflow _
  | .trailingCell | .lineIdle | .arbitrationLost | .collisionError | .frameSent | .stationReset | .enable _ | .disable _
  | .retrain _ | .unpark _ | .sweep _ _ _ _ | .cancelSweep _ | .setProfile _ | .setGuard _ | .setSurvey _ _ | .queryStation
  | .queryPort _ | .readRecord _ | .readCoupling _ | .clearCoupling | .quietAsk _ _ _ | .quietEnd _ _ | .sweepStart _ _ _ _
  | .sweepEnd _ _ | .couplingSeen _ _ _ _ | .calibrationResult _ | .settleExpiry _ | .retryWaitExpiry _ | .preparePass _
  | .analysisEnd _ | .listenJobEnd _ | .surveyExpiry | .newFrame => none

/-- The command a supervisor's frame of this kind and payload hands on, by the kind table and the layouts of R17; none where
the kind is no request's, the length is not the kind's, or a LANE_CONTROL carries an undefined action. -/
def requestCommand (kind : Nat) (payload : List Byte) : Option Instr :=
  match kind, payload with
  | 0x01, [] => some .stationReset
  | 0x02, [port, action] =>
    match action.toNat with
    | 1 => some (.enable port)
    | 2 => some (.disable port)
    | 3 => some (.retrain port)
    | 4 => some (.unpark port)
    | _ => none
  | 0x03, [port, mask, depth, flags] => some (.sweep port mask depth flags)
  | 0x04, [port] => some (.cancelSweep port)
  | 0x05, [m1, m0, apply, adv, n1, n0, slope, attempts, neg, train, sel, val, depth] =>
    some (.setProfile ⟨m1 ++ m0, apply, adv, n1 ++ n0, slope, attempts, neg, train, sel, val, depth⟩)
  | 0x06, [m1, m0] => some (.setGuard (m1 ++ m0))
  | 0x07, [interval, mode] => some (.setSurvey interval mode)
  | 0x08, [] => some .queryStation
  | 0x09, [port] => some (.queryPort port)
  | 0x0A, [port] => some (.readRecord port)
  | 0x0B, [start] => some (.readCoupling start)
  | 0x0C, [] => some .clearCoupling
  | _, _ => none

/-- The command a peer's frame of this kind and payload hands on (R17). -/
def peerCommand (st : Station) (kind : Nat) (payload : List Byte) : Option Instr :=
  match kind, payload with
  | 0x10, [port, units] => some (.quietAsk st port units)
  | 0x11, [port, mask, units] => some (.sweepStart st port mask units)
  | 0x12, [port] => some (.sweepEnd st port)
  | 0x13, [port] => some (.quietEnd st port)
  | 0x14, [swept, sendersPort, l1, l0] => some (.couplingSeen st swept sendersPort (l1 ++ l0))
  | _, _ => none

/-- The payload length of each supervisor and coordination kind (kind table of R17). -/
def kindLength (kind : Nat) : Option Nat :=
  match kind with
  | 0x01 => some 0 | 0x02 => some 2 | 0x03 => some 4 | 0x04 => some 1 | 0x05 => some 13 | 0x06 => some 2
  | 0x07 => some 2 | 0x08 => some 0 | 0x09 => some 1 | 0x0A => some 1 | 0x0B => some 1 | 0x0C => some 0
  | 0x10 => some 2 | 0x11 => some 3 | 0x12 => some 1 | 0x13 => some 1 | 0x14 => some 4
  | _ => none

/-- A reply or notice kind: 20-25 and 30-31 hex (R8 step 6). -/
def isReplyKind (kind : Nat) : Bool := (0x20 ≤ kind && kind ≤ 0x25) || kind == 0x30 || kind == 0x31

/-! ## The manual's results, written flat

The statements compare what a command does with these: each says in one place what the rule it cites says. -/

/-- ACCEPTED for a request kind with a detail code (R17). -/
def acceptedReply (kind detail : Byte) : ReplyEntry := .single ⟨0x20, 0, [kind, detail]⟩

/-- REFUSED for a request kind with a reason code (R17). -/
def refusedReply (kind reason : Byte) : ReplyEntry := .single ⟨0x21, 0, [kind, reason]⟩

/-- One reply joins the reply list at its tail. -/
def State.reply (s : State) (r : ReplyEntry) : State := { s with replyList := s.replyList ++ [r] }

/-- The ceiling of a restore: the highest advertised and allowed grade, else the highest advertised one (R103); a set that is
never empty (R41) has one. -/
def bestCeiling (advertised allowed : GradeSet) (now : Grade) : Grade :=
  match highestGrade (advertised &&& allowed), highestGrade advertised with
  | some g, _ => g
  | none, some g => g
  | none, none => now

/-- The lane with its ceiling restored (R103). -/
def Lane.restored (l : Lane) (allowed : GradeSet) : Lane :=
  { l with ceiling := bestCeiling l.active.advertised allowed l.ceiling, attempts := 0 }

/-- The lane whose pending shadow, if any, has become active, and whose transfer-owed flag is cleared (R42, R63). -/
def Lane.transferred (l : Lane) : Lane :=
  if l.shadowPending then { l with active := l.shadow, shadowPending := false, transferOwed := false }
  else { l with transferOwed := false }

/-- The lane after a transfer point: with a shadow pending the ceiling is restored as well (R42). -/
def Lane.atTransferPoint (l : Lane) (allowed : GradeSet) : Lane :=
  if l.shadowPending then l.transferred.restored allowed else l.transferred

/-- The lane l, at its place in s, enters ADVERTISE with its transfer made: steps 2 to 5 of R62. -/
def State.advertises (s : State) (p : Port) (l : Lane) : State :=
  let offered := l.active.advertised &&& (s.record p).allowed &&& gradesUpTo l.ceiling
  let fresh := { l with
    timer := none, pulseCount := 0, lastPulse := none, neg := .cleared, grade := none, training := none,
    offered := offered }
  if offered = 0 then ((s.setLane p { fresh with state := .parked, lastFailure := .cable }).laneCommand p).post p .parked
  else if l.hold ≠ .empty then (s.setLane p { fresh with state := .held }).laneCommand p
  else (s.setLane p { fresh with state := .advertise }).laneCommand p

/-- The lane l, at its place in s, comes to rest in a state that holds no grade and no timer (R61, R91). -/
def State.rests (s : State) (p : Port) (l : Lane) (st : LaneState) : State :=
  (s.setLane p { l with
    state := st, timer := none, pulseCount := 0, lastPulse := none, neg := .cleared, grade := none,
    training := none }).laneCommand p

/-- The lane of port p as it leaves UP: LINK_DOWN is posted and POWER carried (R32, R66). -/
def State.droppedLink (s : State) (p : Port) : State :=
  let l := s.lane p
  (s.post p .linkDown).setLane p { l with hold := { l.hold with power := l.hold.power || l.power } }

/-- A lane whose hold set has lost a reason: HELD with an empty set enters ADVERTISE, a transfer point only where one is owed
(R64, R62). -/
def State.leavesHeld (s : State) (p : Port) (l : Lane) : State :=
  if l.state = .held ∧ l.hold = .empty then
    s.advertises p (if l.transferOwed then l.atTransferPoint (s.record p).allowed else l)
  else s.setLane p l

/-- Member m leaves job j of engine e at port p (R171): its reading goes with it, the engine releases the port, and goes IDLE
where the member was the last; LISTEN leaves where the job gave it. -/
def State.dropsOut (s : State) (e : EngineId) (j : ListenJob) (m : Member) (p : Port) : State :=
  let others := j.members.filter fun n => decide (n.port ≠ p)
  let t := (s.setEngine e
    (if others = [] then Engine.idle else { s.engine e with job := some { j with members := others } })).releasePort e p
  let l := t.lane p
  if m.given = true ∧ l.hold.listen = true then t.leavesHeld p { l with hold := { l.hold with listen := false } } else t

/-- The lane of port p adds SWEEP (R119 step 4, R65): ADVERTISE, BACKOFF, NEGOTIATE and TRAIN enter HELD, UP drops its link,
every other state records it. -/
def State.takesSweep (s : State) (p : Port) : State :=
  let l := s.lane p
  let swept (y : Lane) : Lane := { y with hold := { y.hold with sweep := true } }
  match l.state with
  | .advertise | .backoff | .negotiate | .train => s.rests p (swept l) .held
  | .up => (s.droppedLink p).rests p (swept { (s.droppedLink p).lane p with transferOwed := true }) .held
  | .starting | .disabled | .held | .sweepWait | .parked => s.setLane p (swept l)

/-- The record of key (S, P) leaves the quiet-hold list of port p, and QUIET with the last (R68). -/
def State.losesQuiet (s : State) (p : Port) (st : Station) (port : Port) : State :=
  let l := s.lane p
  let kept := l.quiet.filter fun q => !(decide (q.asker = st) && decide (q.askerPort = port))
  if kept.length = l.quiet.length then s
  else if kept = [] ∧ l.hold.quiet = true then s.leavesHeld p { l with quiet := [], hold := { l.hold with quiet := false } }
  else s.setLane p { l with quiet := kept }

/-- What R43 makes of a written shadow, by the lane's state, for NOW (true) and AT_RETRAIN (false). -/
def State.appliesShadow (s : State) (p : Port) (now : Bool) : State :=
  let l := s.lane p
  let allowed := (s.record p).allowed
  let inPlace := s.setLane p (l.atTransferPoint allowed)
  let afresh := s.advertises p (l.atTransferPoint allowed)
  let running := s.queue.any fun x => decide (x.port = p) && decide (x.state = .running)
  match l.state with
  | .disabled => inPlace
  | .parked => afresh
  | .starting => s
  | .held => if now then inPlace else s
  | .sweepWait => if now then (if running then inPlace else afresh) else s
  | .advertise | .backoff | .negotiate | .train => if now then afresh else s
  | .up =>
    if now ∧ inPortSet s.guards p = false then
      let t := s.droppedLink p
      t.advertises p ((t.lane p).atTransferPoint allowed)
    else s

/-- A failure, in the order of R79, with the ladder of R99 and the next state of R80. -/
def State.fails (s : State) (p : Port) (reason : LastFailure) (cableRelated : Bool) : State :=
  let l := s.lane p
  let allowed := (s.record p).allowed
  let asks := l.active.autoSweep && cableRelated && decide (l.attempts = 0)
  let s1 := if asks then s.requestSweep ⟨p, 0b1111, l.active.depth, .laneFailure, false⟩ else s
  let queued := asks &&
    (match s.entryOf p with
     | some x => decide (x.state ≠ .running)
     | none => decide (s.queue.length < 6))
  let counted := { l with timer := none, lastFailure := reason, failureCount := min 255 (l.failureCount + 1) }
  let effective := highestGrade (l.active.advertised &&& allowed &&& gradesUpTo l.ceiling)
  let target := effective.bind fun g => highestGrade (l.active.advertised &&& allowed &&& gradesBelow g)
  let goOn (x : Lane) : State :=
    if queued then
      (if l.energy then
        s1.advertises p (if x.transferOwed then x.atTransferPoint allowed else x)
      else s1.rests p x .sweepWait)
    else if x.hold = .empty then
      (s1.rests p x .backoff).modifyLane p fun y => { y with timer := some (.backoff, s.ms + 1000) }
    else s1.rests p x .held
  if l.attempts + 1 < l.active.attempts then goOn { counted with attempts := l.attempts + 1 }
  else
    match target, l.active.downshift with
    | some g, true => goOn { counted with ceiling := g, attempts := 0 }
    | _, _ => (s1.rests p { counted with attempts := l.attempts + 1 } .parked).post p .parked

/-- The port's entry leaves the queue with a change flag, and its lane is told (R116 steps 1 to 3, R82). -/
def State.entryGone (s : State) (p : Port) (flag : ChangeFlag) : State :=
  let t : State := { s.post p flag with queue := s.queue.filter fun x => decide (x.port ≠ p) }
  let l : Lane := { s.lane p with hold := { (s.lane p).hold with sweep := false } }
  if l.state = .sweepWait then
    (if l.hold = .empty then
      (t.rests p l .backoff).modifyLane p fun y => { y with timer := some (.backoff, s.ms + 1000) }
    else t.rests p l .held)
  else t.leavesHeld p l

/-- The end frame an announcement calls for is posted by engine e (R124). -/
def State.endAnnounced (s : State) (e : EngineId) (p : Port) : State :=
  match (s.engine e).announcement with
  | .none => s
  | .asked => s.postCoord ⟨0x13, 15, [BitVec.ofNat 8 (p.val + 1)]⟩ (some e)
  | .started => s.postCoord ⟨0x12, 15, [BitVec.ofNat 8 (p.val + 1)]⟩ (some e)

/-- The RUNNING entry of port p is suspended by engine e (R126): end frame, release, IDLE, the entry SUSPENDED in its place;
the lane loses SWEEP, and in SWEEP_WAIT with energy present goes back to ADVERTISE (R82, R81). -/
def State.suspended (s : State) (e : EngineId) (p : Port) : State :=
  let freed := ((s.endAnnounced e p).releasePort e p).setEngine e .idle
  let t : State := { freed with
    queue := s.queue.map fun x =>
      if x.port = p then { x with state := .suspended, engine := none, cancelPending := false } else x }
  let l : Lane := { t.lane p with hold := { (t.lane p).hold with sweep := false } }
  if l.state = .sweepWait ∧ l.energy = true then
    t.advertises p (if l.transferOwed then l.atTransferPoint (s.record p).allowed else l)
  else if (t.lane p).hold.sweep then t.leavesHeld p l
  else t

/-- A SHOOT or CAL_SHOOT of engine e goes down the tap of port p with the next tag, and times out 5 ms from now (R46, R49,
R51). -/
def State.fires (s : State) (e : EngineId) (p : Port) (command : Byte → TapCommand) : State :=
  let l := s.lane p
  s.setLane p { l with
    holder := .engine e, tapCommand := some (command l.tagCounter), outstanding := some l.tagCounter
    tagCounter := l.tagCounter + 1, captureDue := some (s.ms + 5) }

/-- The engine with nothing of its current pair accumulated and no timer (R133). -/
def Engine.emptied (g : Engine) : Engine :=
  { g with
    issued := 0, completed := 0, failedRun := 0, sums := ⟨clearedSums, clearedSums, clearedSums, clearedSums⟩, floors := []
    clipped := false, timer := none }

/-- Engine e ends its sweep of port p: it releases the port and goes IDLE, and the entry is removed (R125, R115, R116). -/
def State.sweepOver (s : State) (e : EngineId) (p : Port) (flag : ChangeFlag) : State :=
  ((s.releasePort e p).setEngine e .idle).entryGone p flag

/-! ### Echoes by index

The analysis of a pair as R137 to R143 state it: by the indices of a correlation, with no record of a peak kept. -/

/-- |y[i]|; 0 outside the correlation. -/
def magnitude (y : List Int) (i : Nat) : Nat := (y.getD i 0).natAbs

/-- The kept candidates: an index of 16 or more whose magnitude is at least its left neighbour's, greater than its right
neighbour's where it has one, and at least the threshold (R137). -/
def candidates (y : List Int) (threshold : Nat) : List Nat :=
  (List.range y.length).filter fun i =>
    decide (16 ≤ i ∧ magnitude y (i - 1) ≤ magnitude y i ∧ (i + 1 = y.length ∨ magnitude y (i + 1) < magnitude y i) ∧
      threshold ≤ magnitude y i)

/-- The next candidate beside the indices retained so far: closer than 8 to the last it merges, and the larger stays, the
earlier of equals (R138). -/
def retain (y : List Int) (kept : List Nat) (i : Nat) : List Nat :=
  match kept.getLast? with
  | none => [i]
  | some j =>
    if j + 8 ≤ i then kept ++ [i] else if magnitude y j < magnitude y i then kept.dropLast ++ [i] else kept

/-- The delay at an index, in ticks: 8 for a sample, and the offset in eighths, which is 0 at the first index searched, at the
last of the correlation, and where the denominator is not negative (R139). -/
def delayAt (y : List Int) (first i : Nat) : Int :=
  let sign : Int := if y.getD i 0 < 0 then -1 else 1
  let l := sign * y.getD (i - 1) 0
  let m := sign * y.getD i 0
  let n := sign * y.getD (i + 1) 0
  let offset : Int :=
    if i = first ∨ i + 1 = y.length ∨ 0 ≤ l - 2 * m + n then 0
    else max (-4) (min 4 (roundHalfAway (4 * (l - n)) (l - 2 * m + n)))
  8 * (i : Int) + offset

/-- The distance at an index, in dm (R140). -/
def distanceAt (snap : Snapshot) (y : List Int) (i : Nat) : Nat :=
  ((delayAt y 16 i - snap.offsetT).toNat * snap.nvp * 29979 + 20000000) / 40000000

/-- The compensated level at an index, in permille (R141). -/
def levelAt (snap : Snapshot) (launch : Nat) (y : List Int) (i : Nat) : Int :=
  let measured : Int := max (-1000) (min 1000 (roundHalfAway (1000 * y.getD i 0) launch))
  let gain : Nat := 1024 + snap.slope * distanceAt snap y i / 16
  max (-1000) (min 1000 (roundHalfAway (measured * gain) 1024))

/-- The reflections of a pair: of the retained indices whose level is 150 or more either way, the three nearest (R142). -/
def reflectionsOf (snap : Snapshot) (launch threshold : Nat) (y : List Int) : List Reflection :=
  ((((candidates y threshold).foldl (retain y) []).map fun i => (⟨distanceAt snap y i, levelAt snap launch y i⟩ : Reflection)).filter
    fun r => decide (150 ≤ r.level.natAbs)).take 3

/-- The class of a kept level (R142). -/
def classOf (level : Int) : Verdict :=
  if 600 ≤ level then .opened else if 0 ≤ level then .highImp else if level ≤ -600 then .shorted else .lowImp

/-- The earliest index of the largest magnitude at or after the first index searched (R143, R147). -/
def strongestIndex (first : Nat) (y : List Int) : Nat :=
  ((List.range y.length).find? fun i =>
    decide (first ≤ i) && (List.range y.length).all fun j => decide (j < first ∨ magnitude y j ≤ magnitude y i)).getD 0

/-- The cross level of a neighbour's correlation: 1000 times its largest magnitude from index 16 on, by the launch level,
rounded half up, at most 1000 (R143). -/
def crossLevel (launch : Nat) (y : List Int) : Nat :=
  min 1000 ((2000 * ((y.drop 16).map Int.natAbs).foldl max 0 + launch) / (2 * launch))

/-- From s to t nothing but lanes, engines and notice flags differs, and at ports other than p neither lanes nor flags do. -/
def onlyPort (p : Port) (s t : State) : Prop :=
  t = { s with lanes := t.lanes, engines := t.engines, noticeFlags := t.noticeFlags } ∧
  ∀ q, q ≠ p → t.lane q = s.lane q ∧ t.flagsOf q = s.flagsOf q

/-! ## Invariants of a lane -/

/-- The state that runs a timer (R91). -/
def timerState : LaneTimer → LaneState
  | .negotiate => .negotiate
  | .train => .train
  | .backoff => .backoff

/-- What a lane holds belongs to its state: its timer (R91), its grade (R85), the grade being trained, its negotiation record
(R83), its plain-pulse measurement (R56), a non-empty offered set in ADVERTISE and NEGOTIATE (R62), and a capture timeout
only while a capture is open (R49, R51). -/
def Lane.stateSound (l : Lane) : Bool :=
  (match l.timer with
   | some (k, _) => decide (l.state = timerState k)
   | none => true) &&
  (l.grade.isNone || decide (l.state = .up)) &&
  (l.training.isNone || decide (l.state = .train)) &&
  (decide (l.neg = .cleared) || decide (l.state = .negotiate)) &&
  ((decide (l.pulseCount = 0) && l.lastPulse.isNone) || decide (l.state = .advertise)) &&
  decide (l.pulseCount ≤ 2) &&
  (decide (l.offered ≠ 0) || !(decide (l.state = .advertise) || decide (l.state = .negotiate))) &&
  (l.captureDue.isNone || l.outstanding.isSome) &&
  decide (l.failureCount ≤ 255)

/-- The hold set and the quiet-hold list agree with the state: a lane in ADVERTISE or BACKOFF holds no reason, one in HELD
holds some (R64), QUIET is held exactly while the list has a record (R67, R68), and the list has at most 4 records, one for
each asker and port (R67). -/
def Lane.holdSound (l : Lane) : Bool :=
  (!(decide (l.state = .advertise) || decide (l.state = .backoff)) || decide (l.hold = .empty)) &&
  (!decide (l.state = .held) || decide (l.hold ≠ .empty)) &&
  decide (l.hold.quiet = !l.quiet.isEmpty) &&
  decide (l.quiet.length ≤ Config.quietCapacity) &&
  decide ((l.quiet.map fun q => (q.asker, q.askerPort)).Nodup)

/-- The ranges of R40. -/
def Profile.inRange (q : Profile) : Bool :=
  decide (q.advertised ≠ 0) && decide (600 ≤ q.nvp ∧ q.nvp ≤ 800) && decide (q.slope ≤ 63) &&
  decide (1 ≤ q.attempts ∧ q.attempts ≤ 4) && decide (5 ≤ q.negWindow ∧ q.negWindow ≤ 40) &&
  decide (2 ≤ q.trainWindow ∧ q.trainWindow ≤ 20) && decide (q.depth ≤ 6)

/-- The profiles are in range and agree while no transfer is pending (R40); the attempt count stays within the attempts per
grade, below it outside PARKED and DISABLED; and the ceiling is at or below an advertised grade (R98). -/
def Lane.ladderSound (l : Lane) : Bool :=
  l.active.inRange && l.shadow.inRange && (l.shadowPending || decide (l.shadow = l.active)) &&
  decide (l.attempts ≤ l.active.attempts) &&
  (decide (l.attempts < l.active.attempts) || decide (l.state = .parked) || decide (l.state = .disabled)) &&
  [Grade.g1, .g2, .g3, .g4].any fun g => hasGrade l.active.advertised g && decide (gradeBit l.ceiling ≤ gradeBit g)

/-- A property of every lane. -/
def State.allLanes (s : State) (f : Lane → Bool) : Bool := allPorts.all fun p => f (s.lane p)

/-! ## Invariants of the stores -/

/-- Strictly ascending by key (R160). -/
def couplingSorted : List CouplingEntry → Bool
  | a :: b :: rest => a.key.before b.key && couplingSorted (b :: rest)
  | _ => true

/-- The Coupling Table: at most 64 entries in order, each level 20-1000, each age at most 255, each learned from some source
(R160 to R162). -/
def State.couplingSound (s : State) : Bool :=
  decide (s.coupling.length ≤ Config.couplingCapacity) && couplingSorted s.coupling &&
  s.coupling.all fun c => decide (20 ≤ c.level ∧ c.level ≤ 1000) && decide (c.age ≤ 255) && (c.heard || c.told)

/-- A pair result as R145 and R149 give it: a fault distance exactly with a fault verdict, at most 3 reflections, each of a
level that is kept, and a cross level of at most 1000. -/
def PairResult.sound (r : PairResult) : Bool :=
  decide (r.distance.isSome = r.verdict.isFault) && decide (r.reflections.length ≤ Config.reflectionCapacity) &&
  (r.reflections.all fun x => decide (150 ≤ x.level.natAbs ∧ x.level.natAbs ≤ 1000)) && decide (r.cross ≤ 1000)

/-- A pair record is that of an untested pair, or holds a result as an engine writes it (R149). -/
def PairRecord.sound (x : PairRecord) (q : Pair) : Bool :=
  match x.verdict with
  | none => decide (x = .untested q)
  | some v => PairResult.sound ⟨v, x.low, x.noisy, x.clipped, x.distance, x.noise, x.cross, x.crossPair, x.reflections⟩

/-- The header and the allowed set are those of the pair records (R151, R154, R156); the age is at most 65535 (R153). -/
def CableRecord.sound (r : CableRecord) : Bool :=
  decide (r.status = statusOf r.pairs) && decide (r.overall = overallOf r.pairs) &&
  decide (r.allowed = allowedSet r.pairs) && decide (r.age ≤ 65535) &&
  allPairs.all fun q => (atPair r.pairs q).sound q

def State.recordsSound (s : State) : Bool := allPorts.all fun p => (s.record p).sound

/-- The lists and counters of the Line Interface stay in their bounds (R10 to R12, R7). -/
def State.lineSound (s : State) : Bool :=
  decide (s.coordList.length ≤ Config.coordCapacity) && decide (s.replyList.length ≤ Config.replyCapacity) &&
  decide (s.checkFailures ≤ 255) && decide (s.collisionErrors ≤ 255) && decide (s.requestsDiscarded ≤ 255) &&
  decide (s.collisionRun < Config.collisionLimit)

/-- The Sweep Queue: at most 6 entries, no two for one port, each for a non-empty mask at a depth of at most 6 (R109, R110);
beside it the default depths that automatic requests are made with (R40). -/
def State.queueSound (s : State) : Bool :=
  decide (s.queue.length ≤ Config.queueCapacity) && decide ((s.queue.map Entry.port).Nodup) &&
  (s.queue.all fun x => decide (x.mask ≠ 0) && decide (x.depth ≤ 6)) &&
  s.allLanes fun l => decide (l.active.depth ≤ 6) && decide (l.shadow.depth ≤ 6)

/-! ## Engines and entries -/

/-- An engine's working state is that of its engine state (Engine states; R124, R130). -/
def Engine.sound (g : Engine) : Bool :=
  match g.state with
  | .idle => g.bound.isNone && g.job.isNone && g.cal.isNone && decide (g.announcement = .none)
  | .preparing | .shooting | .analysing => g.bound.isSome && g.job.isNone && g.cal.isNone
  | .listening => g.bound.isNone && g.job.isSome && g.cal.isNone
  | .calibrating => g.bound.isNone && g.job.isNone && g.cal.isSome

/-- An engine works on a port: it is bound to the port's entry, listens on it, or calibrates it (R47). -/
def Engine.worksOn (g : Engine) (p : Port) : Bool :=
  decide (g.bound = some p) ||
  (match g.job with
   | some j => j.members.any fun m => decide (m.port = p)
   | none => false) ||
  (match g.cal with
   | some w => decide (w.port = p)
   | none => false)

/-- The entry is RUNNING exactly when an engine is bound to it, and that engine is bound to its port (R118). -/
def State.entryBound (s : State) (x : Entry) : Bool :=
  match x.engine with
  | some e => decide (x.state = .running) && decide ((s.engine e).bound = some x.port)
  | none => decide (x.state ≠ .running)

/-- The engine's bound port has an entry that is RUNNING on it. -/
def State.engineBound (s : State) (e : EngineId) : Bool :=
  match (s.engine e).bound with
  | some p => s.queue.any fun x => decide (x.port = p) && decide (x.engine = some e)
  | none => true

/-- A port is held only by an engine that works on it, and its lane holds SWEEP exactly while its entry is RUNNING (R47, R82,
R119). -/
def State.portBound (s : State) (p : Port) : Bool :=
  (match (s.lane p).holder with
   | .lane => true
   | .engine e => (s.engine e).worksOn p) &&
  decide ((s.lane p).hold.sweep = s.queue.any fun x => decide (x.port = p) && decide (x.state = .running))

/-- A lane that is calibrated, or waits for it, is a present lane in STARTING; none waits twice or while an engine works on it
(R36, R37). -/
def State.calibrationSound (s : State) : Bool :=
  decide s.calList.Nodup &&
  (s.calList.all fun p => s.present p && decide ((s.lane p).state = .starting) &&
    !((s.engine 0).worksOn p || (s.engine 1).worksOn p)) &&
  allEngines.all fun e => match (s.engine e).cal with
    | some w => s.present w.port && decide ((s.lane w.port).state = .starting)
    | none => true

/-- Each RUNNING entry is bound to exactly one engine, no engine is bound to two entries, and the two engines never work on
one port (R118, R119, R47). -/
def State.bindingSound (s : State) : Bool :=
  decide ((s.queue.map Entry.port).Nodup) && (allEngines.all fun e => (s.engine e).sound && s.engineBound e) &&
  (s.queue.all fun x => s.entryBound x && s.present x.port) && (allPorts.all s.portBound) && s.calibrationSound &&
  allPorts.all fun p => !((s.engine 0).worksOn p && (s.engine 1).worksOn p)

def State.engineIdle (s : State) (e : EngineId) : Bool := decide ((s.engine e).state = .idle)

/-- No engine is IDLE while an entry is startable (R118). -/
def State.choiceMade (s : State) : Bool :=
  (!s.engineIdle 0 && !s.engineIdle 1) || s.queue.all fun x => !s.startable x

/-! ## A safe run -/

/-- Every invariant at once: what a run that began with a reset keeps. -/
def State.safe (s : State) : Bool :=
  s.allLanes Lane.stateSound && s.allLanes Lane.holdSound && s.allLanes Lane.ladderSound && s.couplingSound &&
  s.recordsSound && s.lineSound && s.queueSound && s.bindingSound && s.choiceMade

end Sys2Proof.Machine
end

