-- ==== Sys2Proof/Certificates/Slice0/Obligations.lean ====
section
/-! DEFINITION. The statements for the provers. Each says what a rule of spec/ says of a command or of the machine; a
statement that rests on a choice of the model says so and names the log entry. `settle` is what every command ends with; the
statement EndOfCommand says what it can do. -/

open Sys2Proof Sys2Proof.Machine

/-! ## The step, time and reset -/

/-- The step takes the command at the front of the queue and is exec of it with the queue's rest. -/
def Obligations.StepRunsFrontCommand : Prop :=
  ∀ (c : Instr) (rest : List Instr) (s : State), s.pending = c :: rest → step s = exec c { s with pending := rest }

/-- The model's choice (logs 1 and 3): with no command waiting, a part held in reset idles; with nothing due a millisecond
passes (R1); the only due event is taken; one of several due events is taken, a free choice. -/
def Obligations.StepWithoutCommand : Prop :=
  ∀ s : State, s.pending = [] →
    (s.inReset = true → step s = .next s) ∧
    (s.inReset = false →
      (s.dueEvents = [] → step s = .next { s with ms := s.ms + 1 }) ∧
      (∀ c, s.dueEvents = [c] → step s = exec c s) ∧
      (2 ≤ s.dueEvents.length →
        ∃ c ∈ s.dueEvents, step s = exec c { s with freeCount := s.freeCount + 1 }))

/-- The events due are exactly those the manual names: for each timer whose expiry the millisecond count has reached, the
command that names it (R1, R51, R68, R91, R120, R122, R123, R173, R178, R181), and PREPARE_PASS where both waits of R120 are over
(the model's choice, log 25). With no command waiting one of them is taken, and the count does not move on in that step (the
model's choice, logs 1 and 3). -/
def Obligations.ExpiryTakenBeforeTimePasses : Prop :=
  (∀ (s : State) (c : Instr), c ∈ s.dueEvents ↔ s.isDue c) ∧
  (∀ (s : State) (c : Instr), s.pending = [] → s.inReset = false → s.isDue c →
    ∃ d, s.isDue d ∧ (step s = exec d s ∨ step s = exec d { s with freeCount := s.freeCount + 1 })) ∧
  ∀ (s t : State) (c : Instr), s.isDue c → exec c s = .next t → t.ms = s.ms

/-- RESET_RELEASE takes the straps and gives the power-on state with both engines calibrating ports 1 and 2 (R35 to R37).
RESET_ASSERT abandons everything; while RSTN is low no other command has an effect (the model's choice, log 6). A tap event or
an expiry of a port that is absent under the strap changes nothing (R35). -/
def Obligations.ResetPin : Prop :=
  (∀ (sta : BitVec 3) (pcs aut : Bool) (s : State),
    exec (.resetRelease sta pcs aut) s = .next
      { State.reset with
        station := sta.setWidth 4 + 1, twelvePorts := pcs, autostart := aut
        calList := if pcs then [2, 3, 4, 5, 6, 7, 8, 9, 10, 11] else [2, 3, 4, 5, 6, 7]
        freeCount := s.freeCount, pending := s.pending }) ∧
  (∀ s : State, ∃ t, exec .resetAssert s = .next t ∧ t.inReset = true ∧ t.tx = none ∧ t.coordList = [] ∧
    t.replyList = [] ∧ t.queue = [] ∧ t.calList = [] ∧ t.stationNotice = none ∧ t.coupling = [] ∧
    t.surveyTimer = none ∧ (∀ e, t.engine e = Engine.idle) ∧
    (∀ p, t.lane p = Lane.powerOn ∧ t.flagsOf p = 0 ∧ t.record p = CableRecord.neverTested ∧ t.holdoff p = none) ∧
    t.pending = s.pending) ∧
  (∀ (c : Instr) (s : State), s.inReset = true → c ≠ .resetAssert → (∀ a b d, c ≠ .resetRelease a b d) →
    exec c s = .next s) ∧
  (∀ (c : Instr) (p : Port) (s : State), s.inReset = false → tapPortOf c = some p → s.present p = false →
    exec c s = .next s.settle)

/-- The state after reset satisfies every invariant of the statements StepKeeps…, and holds, chapter by chapter, the values
the manual gives: R1, R15, R36, R45, R60, R92, R131, R148 with R149, R176, R182. -/
def Obligations.ResetState : Prop :=
  let s := State.reset
  let untested (q : Pair) : PairRecord := ⟨none, false, false, false, none, 0, 0, q, []⟩
  s.safe = true ∧
  (s.ms = 0 ∧ s.minutes = 0) ∧
  (s.coordList = [] ∧ s.replyList = [] ∧ (∀ p, s.flagsOf p = 0) ∧ s.stationNotice = none ∧ s.checkFailures = 0 ∧
    s.collisionErrors = 0 ∧ s.requestsDiscarded = 0 ∧ s.collisionRun = 0 ∧ s.tx = none ∧ s.rx = .waitIdle) ∧
  s.guards = 0 ∧
  (∀ p, (s.lane p).state = .starting ∧ (s.lane p).hold = .empty ∧ (s.lane p).quiet = [] ∧ (s.lane p).ceiling = .g4 ∧
    (s.lane p).attempts = 0 ∧ (s.lane p).offered = 0 ∧ (s.lane p).neg = .cleared ∧ (s.lane p).grade = none ∧
    (s.lane p).lastFailure = .none ∧ (s.lane p).failureCount = 0 ∧ (s.lane p).transferOwed = false ∧
    (s.lane p).timer = none ∧ (s.lane p).active = .default ∧ (s.lane p).shadow = .default ∧
    (s.lane p).shadowPending = false ∧ (s.lane p).energy = false ∧ (s.lane p).power = false ∧
    (s.lane p).pulseCount = 0 ∧ (s.lane p).lastPulse = none) ∧
  (s.queue = [] ∧ ∀ e, (s.engine e).state = .calibrating ∧ (s.engine e).bound = none ∧ (s.engine e).current = none ∧
    (s.engine e).heldBack = 0 ∧ (s.engine e).announcement = .none ∧ (s.engine e).timer = none ∧
    (s.engine e).job = none) ∧
  (∀ p, s.record p =
    ⟨.neverTested, 0, none, 0, .unknown, ⟨untested .a, untested .b, untested .c, untested .d⟩, 0b1111⟩) ∧
  s.coupling = [] ∧
  (s.surveyInterval = 0 ∧ s.surveyContinuous = false ∧ s.surveyEnabled = false ∧ s.surveyTimer = none ∧ s.passSet = 0 ∧
    ∀ p, s.holdoff p = none)

/-- MINUTE_ADVANCE, when the count has advanced by 60,000 since the last: the minute count, the ages of the present ports'
records (R153) and of the Coupling Table (R162) count one, the ages up to their limits; at any other count it changes nothing
(log 2). -/
def Obligations.MinuteAdvance : Prop :=
  ∀ s : State, s.inReset = false →
    (timeBetween s.minuteMark s.ms = 60000 →
      ∃ u : State, exec .minuteAdvance s = .next u.settle ∧
        u = { s with
          minutes := s.minutes + 1, minuteMark := s.ms, records := u.records
          coupling := s.coupling.map fun c => { c with age := min 255 (c.age + 1) } } ∧
        ∀ p, u.record p =
          if s.present p then { s.record p with age := min 65535 ((s.record p).age + 1) } else s.record p) ∧
    (timeBetween s.minuteMark s.ms ≠ 60000 → exec .minuteAdvance s = .next s.settle)

/-- The end of a command (the model's choice, log 10): the start choice, then the transmit choice; engine 0 chooses first,
then engine 1 (R118), then engine 0 again, whose listen job engine 1's start may have ended. With no IDLE engine, or with
nothing in the queue to start or remove, only the transmit choice is made. In every case it changes only lanes, engines,
queue, flags and the line's own state, and nothing of a port that has no queue entry. -/
def Obligations.EndOfCommand : Prop :=
  (∀ s : State, s.settle = s.startChoice.transmitChoice ∧
    s.startChoice = ((s.engineChooses 0).engineChooses 1).engineChooses 0) ∧
  (∀ s : State,
    (∀ e, (s.engine e).state = .idle → ∀ x ∈ s.queue, s.startable x = false ∧ s.guardBlocked x = false) →
    s.settle = s.transmitChoice) ∧
  ∀ s : State,
    (∃ t : State, s.settle = { s with
      lanes := t.lanes, engines := t.engines, queue := t.queue, noticeFlags := t.noticeFlags, tx := t.tx, rx := t.rx,
      lastOpened := t.lastOpened, collisionRun := t.collisionRun }) ∧
    ∀ p, (∀ x ∈ s.queue, x.port ≠ p) → s.settle.lane p = s.lane p ∧ s.settle.flagsOf p = s.flagsOf p

/-! ## Invariants that every step keeps -/

/-- Every step keeps what a lane holds in agreement with its state: timer (R91), grade (R85), negotiation record (R83),
plain-pulse measurement (R56), offered set (R62), capture (R49), failure count (R79). That the negotiation record and the grade
being trained are cleared also after a counted failure is the model's choice (log 18). -/
def Obligations.StepKeepsLaneState : Prop :=
  ∀ s t : State, s.allLanes Lane.stateSound = true → step s = .next t → t.allLanes Lane.stateSound = true

/-- Every step keeps the hold set and the quiet-hold list in agreement with the lane state (R64, R67, R68). -/
def Obligations.StepKeepsHolds : Prop :=
  ∀ s t : State, s.allLanes Lane.holdSound = true → step s = .next t → t.allLanes Lane.holdSound = true

/-- Every step keeps profiles in range and agreed (R40, R41), attempts within the limit and the ceiling within the advertised
set (R98, R99), where what each lane holds agrees with its state (StepKeepsLaneState): a stray lane timer is ruled out. -/
def Obligations.StepKeepsLadder : Prop :=
  ∀ s t : State, s.allLanes Lane.stateSound = true → s.allLanes Lane.ladderSound = true → step s = .next t →
    t.allLanes Lane.ladderSound = true

/-- Every step keeps the Coupling Table within 64 entries, in key order with no key twice, levels 20 to 1000 (R160, R161). -/
def Obligations.StepKeepsCoupling : Prop :=
  ∀ s t : State, s.couplingSound = true → step s = .next t → t.couplingSound = true

/-- Every step keeps each record's header and allowed set those of its pair records (R96, R151, R154), and each pair record that
of an untested pair or of a result as an engine writes it (R149). -/
def Obligations.StepKeepsRecords : Prop :=
  ∀ s t : State, s.recordsSound = true → step s = .next t → t.recordsSound = true

/-- Every step keeps the Line Interface in its bounds: 8 coordination frames (R11), 4 replies (R9, R12), counters of at most
255 (R10), fewer than 8 collision errors in a row (R7). -/
def Obligations.StepKeepsLine : Prop :=
  ∀ s t : State, s.lineSound = true → step s = .next t → t.lineSound = true

/-- Every step keeps the Sweep Queue within 6 entries, one for a port, each for some pair at a depth of at most 6 (R109,
R110). -/
def Obligations.StepKeepsQueue : Prop :=
  ∀ s t : State, s.queueSound = true → step s = .next t → t.queueSound = true

/-- Every step keeps engines, entries and ports bound to one another: a RUNNING entry to exactly one engine, no engine to two,
never both to one port (R118, R119, R47), with SWEEP held exactly while an entry is RUNNING (R82), where what each lane holds
agrees with its state (StepKeepsLaneState): a stray lane timer is ruled out. -/
def Obligations.StepKeepsBinding : Prop :=
  ∀ s t : State, s.allLanes Lane.stateSound = true → s.bindingSound = true → step s = .next t → t.bindingSound = true

/-- Every step leaves no engine IDLE beside a startable entry (R118). -/
def Obligations.StepKeepsChoice : Prop :=
  ∀ s t : State, s.choiceMade = true → step s = .next t → t.choiceMade = true

/-! ## The Coordination Line -/

/-- FRAME_BREAK and FRAME_LENGTH_OVERFLOW of a frame that another station sends, and a TRAILING_CELL after a complete frame,
each add one to check failures, up to 255, and leave the receiver waiting for idle (R3, R5, R10). LINE_IDLE ends that wait;
NEW_FRAME on an idle line opens a frame; a sender that loses arbitration becomes a listener and its frame keeps its place
(R3, R6). -/
def Obligations.LineEvents : Prop :=
  ∀ s : State, s.inReset = false →
    let broken : State := { s with checkFailures := min 255 (s.checkFailures + 1), rx := .waitIdle }
    (s.rx = .inFrame → s.tx = none → exec .frameBreak s = .next broken.settle) ∧
    (s.rx = .inFrame → s.tx = none → ∀ len : Byte, 16 < len.toNat →
      exec (.frameLengthOverflow len) s = .next broken.settle) ∧
    (s.rx = .afterFrame → exec .trailingCell s = .next broken.settle) ∧
    (s.rx = .waitIdle ∨ s.rx = .afterFrame → exec .lineIdle s = .next { s with rx := .idle }.settle) ∧
    (s.rx = .idle → exec .newFrame s = .next { s with rx := .inFrame }.settle) ∧
    (∀ f, s.tx = some f → exec .arbitrationLost s = .next { s with tx := none }.settle)

/-- The transmit choice, on a free transmitter and an idle line: the head of the coordination list, then the next frame of the
head reply, then the station notice, then the notice of the lowest-numbered port with a flag (R14), with the payloads of R17,
R33 and R34. The count of consecutive collision errors starts at 0 unless the frame is from the place last opened (R7).
Otherwise nothing is opened. -/
def Obligations.TransmitOrder : Prop :=
  ∀ s : State,
    let opened (f : Frame) (place : TxPlace) (again : Bool) : State :=
      { s with
        tx := some ⟨f, place⟩, rx := .inFrame, lastOpened := some place
        collisionRun := if again then s.collisionRun else 0 }
    let notice (p : Port) : Frame :=
      let l := s.lane p
      ⟨0x30, 0, [BitVec.ofNat 8 (p.val + 1), s.flagsOf p, BitVec.ofNat 8 (laneStateCode l.state),
        (match l.state, l.grade with
         | .up, some g => BitVec.ofNat 8 (gradeNumber g)
         | _, _ => 0),
        BitVec.ofNat 8 (overallCode (s.record p).overall)]⟩
    (s.rx ≠ .idle ∨ s.tx ≠ none → s.transmitChoice = s) ∧
    (s.rx = .idle → s.tx = none →
      (∀ x rest, s.coordList = x :: rest →
        s.transmitChoice = opened x.frame .coordination (decide (s.lastOpened = some .coordination))) ∧
      (∀ r rest f, s.coordList = [] → s.replyList = r :: rest → r.nextFrame = some f →
        s.transmitChoice = opened f .reply (decide (s.lastOpened = some .reply))) ∧
      (∀ r, s.coordList = [] → s.replyList = [] → s.stationNotice = some r →
        s.transmitChoice = opened ⟨0x31, 0, [if r = .started then 1 else 2]⟩ (.stationNotice r)
          (match s.lastOpened with
           | some (.stationNotice _) => true
           | _ => false)) ∧
      (∀ p, s.coordList = [] → s.replyList = [] → s.stationNotice = none → s.present p = true → s.flagsOf p ≠ 0 →
        (∀ q, q < p → s.flagsOf q = 0) →
        s.transmitChoice = opened (notice p) (.portNotice p (s.flagsOf p))
          (match s.lastOpened with
           | some (.portNotice q _) => decide (q = p)
           | _ => false)) ∧
      (s.coordList = [] → s.replyList = [] → s.stationNotice = none →
        (∀ q, s.present q = true → s.flagsOf q = 0) → s.transmitChoice = s))

/-- FRAME_SENT: the frame leaves its place (R11 to R13), the transmitter is free, the collision count is cleared (R7) and the
receiver waits for idle (R3). A reply train goes on to its next piece or, after its last, leaves the list (R12). A notice takes
with it the flags it carried (R13), one posted again meanwhile among them (the model's choice, log 27); a station notice its
reason, if that is the pending one (the model's choice, log 8). -/
def Obligations.FrameSent : Prop :=
  ∀ (s : State) (f : Frame) (place : TxPlace), s.inReset = false → s.tx = some ⟨f, place⟩ →
    let free : State := { s with tx := none, rx := .afterFrame, collisionRun := 0, lastOpened := none }
    (place = .coordination → exec .frameSent s = .next { free with coordList := s.coordList.tail }.settle) ∧
    (place = .reply → ∀ rest,
      (∀ g, s.replyList = .single g :: rest → exec .frameSent s = .next { free with replyList := rest }.settle) ∧
      (∀ p r n, s.replyList = .recordTrain p r n :: rest → exec .frameSent s = .next
        { free with
          replyList := if n + 1 < (recordPieces p r).length then .recordTrain p r (n + 1) :: rest else rest }.settle) ∧
      (∀ a k es n, s.replyList = .couplingTrain a k es n :: rest → exec .frameSent s = .next
        { free with
          replyList :=
            if n + 1 < (couplingPieces a k es).length then .couplingTrain a k es (n + 1) :: rest else rest }.settle)) ∧
    (∀ r, place = .stationNotice r → exec .frameSent s = .next
      { free with stationNotice := if s.stationNotice = some r then none else s.stationNotice }.settle) ∧
    (∀ p carried, place = .portNotice p carried → exec .frameSent s = .next
      { free with noticeFlags := s.noticeFlags.set p.val (s.flagsOf p &&& ~~~carried) }.settle)

/-- COLLISION_ERROR at a sender: collision errors count one, the transmitter is free and waits for idle. The eighth in a row
drops the frame, which leaves the Outbound Queue as if it had been sent, and clears the count (R7, R10). -/
def Obligations.CollisionError : Prop :=
  ∀ (s : State) (f : Frame) (place : TxPlace), s.inReset = false → s.tx = some ⟨f, place⟩ →
    let counted : Nat := min 255 (s.collisionErrors + 1)
    (s.collisionRun + 1 < 8 → exec .collisionError s = .next
      { s with collisionErrors := counted, tx := none, rx := .waitIdle, collisionRun := s.collisionRun + 1 }.settle) ∧
    (8 ≤ s.collisionRun + 1 → ∀ u v : State, u = s.leaveQueue place →
      v = { u with tx := none, rx := .afterFrame, collisionRun := 0, lastOpened := none } →
      exec .frameSent s = .next v.settle ∧
      exec .collisionError s = .next { v with rx := .waitIdle, collisionErrors := counted }.settle)

/-- A complete frame that another station sends, up to step 7 of R8: a failed check is counted (R5), and of the frames that
pass it those are ignored, or counted, that R8 says. -/
def Obligations.FrameDecided : Prop :=
  ∀ (kind header : Byte) (payload : List Byte) (check : Byte) (s : State),
    s.inReset = false → s.rx = .inFrame → s.tx = none → payload.length ≤ 16 →
    let sum := kind + header + BitVec.ofNat 8 payload.length + payload.sum + check
    let originator := header.extractLsb' 4 4
    let target := header.extractLsb' 0 4
    let k := kind.toNat
    let s' : State := { s with rx := .afterFrame }
    let discarded : State := { s' with requestsDiscarded := min 255 (s.requestsDiscarded + 1) }
    let out := exec (.frameReceived kind header payload check) s
    (sum ≠ 0 → out = .next { s' with checkFailures := min 255 (s.checkFailures + 1) }.settle) ∧
    (sum = 0 → originator = s.station →
      out = .next { s' with collisionErrors := min 255 (s.collisionErrors + 1) }.settle) ∧
    (sum = 0 → originator ≠ s.station → target ≠ s.station → target ≠ 15 → out = .next s'.settle) ∧
    (sum = 0 → originator ≠ s.station → (target = s.station ∨ target = 15) →
      (kindLength k = none → isReplyKind k = false → out = .next discarded.settle) ∧
      (1 ≤ k ∧ k ≤ 12 → originator ≠ 0 → out = .next discarded.settle) ∧
      (0x10 ≤ k ∧ k ≤ 0x14 → (originator = 0 ∨ 8 < originator.toNat) → out = .next s'.settle) ∧
      (isReplyKind k = true → out = .next s'.settle) ∧
      (1 ≤ k ∧ k ≤ 12 → originator = 0 → kindLength k ≠ some payload.length → out = .next discarded.settle) ∧
      (0x10 ≤ k ∧ k ≤ 0x14 → kindLength k ≠ some payload.length → out = .next s'.settle))

/-- A complete frame that passes R8 is handed on as the command of its kind (steps 8 and 9), with its payload read by the
layouts of R17, and that command has a next state. -/
def Obligations.FrameHandedOn : Prop :=
  ∀ (kind header : Byte) (payload : List Byte) (check : Byte) (s : State) (c : Instr),
    s.inReset = false → s.rx = .inFrame → s.tx = none → payload.length ≤ 16 →
    kind + header + BitVec.ofNat 8 payload.length + payload.sum + check = 0 →
    header.extractLsb' 4 4 ≠ s.station → (header.extractLsb' 0 4 = s.station ∨ header.extractLsb' 0 4 = 15) →
    (header.extractLsb' 4 4 = 0 ∧ requestCommand kind.toNat payload = some c) ∨
      (peerStation (header.extractLsb' 4 4) = true ∧
        peerCommand (header.extractLsb' 4 4) kind.toNat payload = some c) →
    ∃ t, exec (.frameReceived kind header payload check) s = .next t ∧ exec c { s with rx := .afterFrame } = .next t

/-- No command but power-on reset and STATION_RESET (as a command, or in a frame of kind 01) lowers a station counter (R10). -/
def Obligations.CountersOnlyRise : Prop :=
  ∀ (c : Instr) (s t : State), s.lineSound = true → exec c s = .next t →
    c ≠ .resetAssert → (∀ a b d, c ≠ .resetRelease a b d) → c ≠ .stationReset →
    (∀ h l k, c ≠ .frameReceived 0x01 h l k) →
    s.checkFailures ≤ t.checkFailures ∧ s.collisionErrors ≤ t.collisionErrors ∧
      s.requestsDiscarded ≤ t.requestsDiscarded

/-- Posting into the coordination list: at the tail while it holds fewer than 8; into a full list a COUPLING_SEEN is not
queued, and any other kind takes the place of the oldest COUPLING_SEEN that the transmitter has not open (R11). -/
def Obligations.CoordinationPost : Prop :=
  ∀ (s : State) (f : Frame) (e : Option EngineId),
    (s.coordList.length < 8 → s.postCoord f e = { s with coordList := s.coordList ++ [⟨f, e⟩] }) ∧
    (8 ≤ s.coordList.length → f.kind = 0x14 → s.postCoord f e = s) ∧
    (8 ≤ s.coordList.length → f.kind ≠ 0x14 → ∀ older x newer, s.coordList = older ++ x :: newer →
      x.frame.kind = 0x14 →
      ((∀ g, s.tx ≠ some ⟨g, .coordination⟩) → ∀ y ∈ older, y.frame.kind ≠ 0x14) →
      ((∃ g, s.tx = some ⟨g, .coordination⟩) → older ≠ [] ∧ ∀ y ∈ older.tail, y.frame.kind ≠ 0x14) →
      s.postCoord f e =
        { s with coordList := older ++ newer ++ [⟨f, e⟩], lastOpened := (s.postCoord f e).lastOpened })

/-! ## Supervisor requests -/

/-- While any present lane is in STARTING, every request is discarded and counted once, STATION_RESET included (R19). -/
def Obligations.RequestInStarting : Prop :=
  ∀ (c : Instr) (s : State), (requestOf c).isSome = true → s.inReset = false → s.anyStarting = true →
    exec c s = .next { s with requestsDiscarded := min 255 (s.requestsDiscarded + 1) }.settle

/-- A request that finds four replies waiting is discarded and counted (R9). Any other request after start-up places exactly
one reply, at the tail (R18); STATION_RESET's is the sole entry (R16). -/
def Obligations.RequestPlaces : Prop :=
  ∀ (c : Instr) (s : State), (requestOf c).isSome = true → s.inReset = false →
    (4 ≤ s.replyList.length →
      exec c s = .next { s with requestsDiscarded := min 255 (s.requestsDiscarded + 1) }.settle) ∧
    (s.replyList.length < 4 → s.anyStarting = false →
      ∃ (u : State) (r : ReplyEntry), exec c s = .next u.settle ∧
        u.replyList = (if c = .stationReset then [] else s.replyList) ++ [r])

/-- The checks of R20 on a request that is decided: an absent port is refused BAD_PORT before anything else (R21), then an
undefined code BAD_VALUE (R22), without any effect but the reply. An undefined action of LANE_CONTROL has no row: its frame is
refused in the same order, or discarded where no request is decided (R9, R19). -/
def Obligations.FieldChecks : Prop :=
  (∀ s : State, s.decides = true →
    (∀ c k b, requestOf c = some k → portFieldOf c = some b → (b.toNat = 0 ∨ s.portCount < b.toNat) →
      exec c s = .next (s.reply (refusedReply (requestCode k) 1)).settle) ∧
    (∀ m : BitVec 16, 2 ^ s.portCount ≤ m.toNat →
      exec (.setGuard m) s = .next (s.reply (refusedReply 0x06 1)).settle ∧
      ∀ b : ProfileBytes, b.mask = m → exec (.setProfile b) s = .next (s.reply (refusedReply 0x05 1)).settle) ∧
    (∀ (p : Port) (b mask depth flags : Byte), b.toNat = p.val + 1 → s.present p = true →
      (16 ≤ mask.toNat ∨ 2 ≤ flags.toNat) →
      exec (.sweep b mask depth flags) s = .next (s.reply (refusedReply 0x03 2)).settle) ∧
    (∀ b : ProfileBytes, b.mask.toNat < 2 ^ s.portCount →
      (2 ≤ b.apply.toNat ∨ 16 ≤ b.advertised.toNat ∨ 32 ≤ b.optionSelect.toNat ∨ 32 ≤ b.optionValue.toNat) →
      exec (.setProfile b) s = .next (s.reply (refusedReply 0x05 2)).settle) ∧
    (∀ interval mode : Byte, 2 ≤ mode.toNat →
      exec (.setSurvey interval mode) s = .next (s.reply (refusedReply 0x07 2)).settle) ∧
    (∀ (p : Port) (b action : Byte), b.toNat = p.val + 1 → s.present p = true → (action = 0 ∨ 4 < action.toNat) →
      s.laneControl b action = s.reply (refusedReply 0x02 2))) ∧
  ∀ (s : State) (header b action check : Byte), s.inReset = false → s.rx = .inFrame → s.tx = none → s.station ≠ 0 →
    header.extractLsb' 4 4 = 0 → (header.extractLsb' 0 4 = s.station ∨ header.extractLsb' 0 4 = 15) →
    (action = 0 ∨ 4 < action.toNat) → (0x02 + header + 2 + (b + action) + check : Byte) = 0 →
    let t : State := { s with rx := .afterFrame }
    let out := exec (.frameReceived 0x02 header [b, action] check) s
    (s.decides = false → out = .next { t with requestsDiscarded := min 255 (s.requestsDiscarded + 1) }.settle) ∧
    (s.decides = true → (b.toNat = 0 ∨ s.portCount < b.toNat) → out = .next (t.reply (refusedReply 0x02 1)).settle) ∧
    (s.decides = true → (1 ≤ b.toNat ∧ b.toNat ≤ s.portCount) → out = .next (t.reply (refusedReply 0x02 2)).settle)

/-- LANE_CONTROL on a present port: ENABLE (R86), DISABLE (R87), RETRAIN (R88), UNPARK (R89). -/
def Obligations.LaneControl : Prop :=
  ∀ (s : State) (p : Port) (b : Byte), s.decides = true → b.toNat = p.val + 1 → s.present p = true →
    let l := s.lane p
    let allowed := (s.record p).allowed
    let done := acceptedReply 0x02 4
    let emptied (x : Lane) : Lane := { x with quiet := [], hold := { x.hold with quiet := false } }
    let running := s.queue.any fun x => decide (x.port = p) && decide (x.state = .running)
    (l.state = .disabled →
      exec (.enable b) s = .next ((s.advertises p (l.transferred.restored allowed)).reply done).settle) ∧
    (l.state ≠ .disabled → exec (.enable b) s = .next (s.reply done).settle) ∧
    (l.state = .disabled → exec (.disable b) s = .next ((s.setLane p (emptied l)).reply done).settle) ∧
    (l.state ≠ .disabled → l.state ≠ .up →
      exec (.disable b) s = .next ((s.rests p (emptied l) .disabled).reply done).settle) ∧
    (l.state = .up → exec (.disable b) s = .next
      (((s.droppedLink p).rests p (emptied { (s.droppedLink p).lane p with transferOwed := true }) .disabled).reply
        done).settle) ∧
    ((s.queue.map Entry.port).Nodup →
      (running = true → exec (.retrain b) s = .next (s.reply (refusedReply 0x02 6)).settle) ∧
      (running = false → l.state = .up → inPortSet s.guards p = true →
        exec (.retrain b) s = .next (s.reply (refusedReply 0x02 3)).settle) ∧
      (running = false → l.state = .up → inPortSet s.guards p = false →
        exec (.retrain b) s = .next
          (((s.droppedLink p).advertises p (((s.droppedLink p).lane p).transferred.restored allowed)).reply done).settle) ∧
      (running = false → l.state ≠ .up →
        exec (.retrain b) s = .next ((s.advertises p (l.transferred.restored allowed)).reply done).settle)) ∧
    (l.state = .parked → exec (.unpark b) s = exec (.retrain b) s) ∧
    (l.state ≠ .parked → exec (.unpark b) s = .next (s.reply (refusedReply 0x02 7)).settle)

/-- SWEEP on a present port with defined codes: the first row of R113 that applies, the new entry of R110 or the merge of
R111, and the depth clamped to 6. -/
def Obligations.SweepRequest : Prop :=
  ∀ (s : State) (p : Port) (b mask depth flags : Byte), s.decides = true → b.toNat = p.val + 1 → s.present p = true →
    mask.toNat < 16 → flags.toNat < 2 → (s.queue.map Entry.port).Nodup →
    let up := (s.lane p).state = .up
    let k := min 6 depth.toNat
    let force := flags.getLsbD 0
    let refused (r : Byte) := Host.Outcome.next (φ := Fault) (ρ := Refusal) (s.reply (refusedReply 0x03 r)).settle
    let out := exec (.sweep b mask depth flags) s
    let running := ∃ x ∈ s.queue, x.port = p ∧ x.state = .running
    (mask = 0 → out = refused 2) ∧
    (mask ≠ 0 → running → out = refused 6) ∧
    (mask ≠ 0 → ¬running → up → flags = 0 → out = refused 4) ∧
    (mask ≠ 0 → ¬running → up → flags = 1 → inPortSet s.guards p = true → out = refused 3) ∧
    (mask ≠ 0 → ¬running → (up → flags = 1 ∧ inPortSet s.guards p = false) →
      ((∀ x ∈ s.queue, x.port ≠ p) → 6 ≤ s.queue.length → out = refused 5) ∧
      ((∀ x ∈ s.queue, x.port ≠ p) → s.queue.length < 6 → out = .next
        (({ s with queue := s.queue ++
            [⟨p, mask.setWidth 4, k, .supervisor, force, .waiting, 0, 0, none, none, false⟩] } : State).reply
          (acceptedReply 0x03 (if 6 < depth.toNat then 2 else 0))).settle) ∧
      ((∃ x ∈ s.queue, x.port = p) → out = .next
        (({ s with queue := s.queue.map fun x =>
            if x.port = p then
              { x with
                mask := x.mask ||| mask.setWidth 4, depth := max x.depth k, origin := .supervisor
                force := x.force || force }
            else x } : State).reply
          (acceptedReply 0x03 (if 6 < depth.toNat then 2 else 1))).settle))

/-- CANCEL_SWEEP on a present port is answered ACCEPTED(DONE) (R114): a WAITING or SUSPENDED entry is removed; an engine that
prepares or shoots posts the end frame its announcement calls for, releases the port, goes IDLE, and the entry is removed; one
that analyses stops later (R115). Each removal posts SWEEP_ENDED_EARLY and tells the lane (R116, R82). -/
def Obligations.CancelSweep : Prop :=
  ∀ (s : State) (p : Port) (b : Byte), s.decides = true → b.toNat = p.val + 1 → s.present p = true →
    (s.queue.map Entry.port).Nodup →
    let out := exec (.cancelSweep b) s
    let done (u : State) := Host.Outcome.next (φ := Fault) (ρ := Refusal) (u.reply (acceptedReply 0x04 4)).settle
    ((∀ x ∈ s.queue, x.port ≠ p) → out = done s) ∧
    (∀ x ∈ s.queue, x.port = p →
      (x.state ≠ .running → out = done (s.entryGone p .sweepEndedEarly)) ∧
      (x.state = .running → x.cancelPending = true → out = done s) ∧
      (∀ e, x.state = .running → x.cancelPending = false → x.engine = some e →
        ((s.engine e).state = .preparing ∨ (s.engine e).state = .shooting →
          out = done ((((s.endAnnounced e p).releasePort e p).setEngine e .idle).entryGone p .sweepEndedEarly)) ∧
        ((s.engine e).state = .analysing → out = done { s with
          queue := s.queue.map fun y => if y.port = p then { y with cancelPending := true } else y })))

/-- SET_PROFILE: an empty mask or an empty grade set is refused; else every named shadow takes the clamped fields and the
selected options, each lane applies by R43, and the reply says CLAMPED, DEFERRED or DONE in that preference (R41). -/
def Obligations.SetProfile : Prop :=
  ∀ (s : State) (b : ProfileBytes), s.decides = true → b.mask.toNat < 2 ^ s.portCount → b.apply.toNat < 2 →
    b.advertised.toNat < 16 → b.optionSelect.toNat < 32 → b.optionValue.toNat < 32 →
    let ports := allPorts.filter fun p => b.mask.getLsbD p.val
    let clamp (lo hi n : Nat) : Nat := if n < lo then lo else if hi < n then hi else n
    let option (bit : Nat) (now : Bool) : Bool :=
      if b.optionSelect.getLsbD bit then b.optionValue.getLsbD bit else now
    let written (l : Lane) : Lane :=
      { l with
        shadowPending := true
        shadow :=
          { advertised := b.advertised.setWidth 4, nvp := clamp 600 800 b.nvp.toNat, slope := clamp 0 63 b.slope.toNat,
            attempts := clamp 1 4 b.attempts.toNat, negWindow := clamp 5 40 b.negWindow.toNat,
            trainWindow := clamp 2 20 b.trainWindow.toNat, depth := clamp 0 6 b.depth.toNat,
            downshift := option 0 l.shadow.downshift, autoSweep := option 1 l.shadow.autoSweep,
            surveyMember := option 2 l.shadow.surveyMember, listenPeers := option 3 l.shadow.listenPeers,
            honourQuiet := option 4 l.shadow.honourQuiet } }
    let inRange := 600 ≤ b.nvp.toNat ∧ b.nvp.toNat ≤ 800 ∧ b.slope.toNat ≤ 63 ∧ 1 ≤ b.attempts.toNat ∧
      b.attempts.toNat ≤ 4 ∧ 5 ≤ b.negWindow.toNat ∧ b.negWindow.toNat ≤ 40 ∧ 2 ≤ b.trainWindow.toNat ∧
      b.trainWindow.toNat ≤ 20 ∧ b.depth.toNat ≤ 6
    let defers := b.apply = 1 ∧ ∃ p ∈ ports, (s.lane p).state = .up ∧ inPortSet s.guards p = true
    let shadows := ports.foldl (fun (t : State) p => t.modifyLane p written) s
    let applied := ports.foldl (fun (t : State) p => t.appliesShadow p (decide (b.apply = 1))) shadows
    let out := exec (.setProfile b) s
    (b.mask = 0 ∨ b.advertised = 0 → out = .next (s.reply (refusedReply 0x05 2)).settle) ∧
    (b.mask ≠ 0 → b.advertised ≠ 0 → (s.queue.map Entry.port).Nodup →
      (¬inRange → out = .next (applied.reply (acceptedReply 0x05 2)).settle) ∧
      (inRange → defers → out = .next (applied.reply (acceptedReply 0x05 3)).settle) ∧
      (inRange → ¬defers → out = .next (applied.reply (acceptedReply 0x05 4)).settle))

/-- SET_GUARD: the guard set becomes the mask's ports, and nothing else changes but the reply; a mask with an absent port is
refused and leaves the set (R29). -/
def Obligations.SetGuard : Prop :=
  ∀ (s : State) (mask : BitVec 16), s.decides = true →
    (mask.toNat < 2 ^ s.portCount → ∃ g : PortSet, (∀ p : Port, inPortSet g p = mask.getLsbD p.val) ∧
      exec (.setGuard mask) s = .next ({ s with guards := g }.reply (acceptedReply 0x06 4)).settle) ∧
    (2 ^ s.portCount ≤ mask.toNat →
      exec (.setGuard mask) s = .next (s.reply (refusedReply 0x06 1)).settle)

/-- SET_SURVEY with a defined mode (R177): the interval held, enabled, mode, pass set, timer and reply of the table. -/
def Obligations.SetSurvey : Prop :=
  ∀ (s : State) (interval mode : Byte), s.decides = true → mode.toNat < 2 →
    let set (held : Nat) (on : Bool) : State :=
      { s with
        surveyInterval := held, surveyEnabled := on, surveyContinuous := decide (mode = 1), passSet := 0
        surveyTimer := if on then some (s.ms + BitVec.ofNat 48 (held * 10000)) else none }
    let out := exec (.setSurvey interval mode) s
    (interval = 0 → out = .next ((set 0 false).reply (acceptedReply 0x07 4)).settle) ∧
    (1 ≤ interval.toNat → interval.toNat ≤ 5 → out = .next ((set 6 true).reply (acceptedReply 0x07 2)).settle) ∧
    (6 ≤ interval.toNat → out = .next ((set interval.toNat true).reply (acceptedReply 0x07 4)).settle)

/-- CLEAR_COUPLING empties the Coupling Table and is answered ACCEPTED(DONE); work in flight is left (R163). -/
def Obligations.ClearCoupling : Prop :=
  ∀ s : State, s.decides = true →
    exec .clearCoupling s = .next ({ s with coupling := [] }.reply (acceptedReply 0x0C 4)).settle

/-- The queries: STATION_STATUS byte for byte (R24), PORT_STATUS of the named port byte for byte (R25), the snapshot of a
record (R26, R27), the snapshot of at most 8 Coupling Table entries from the start index with the total (R28). Nothing but the
reply changes. The pieces built from a snapshot carry port, index and count, or start index and total; their contents are those
of R17, for each tested pair and for every two entries. -/
def Obligations.Queries : Prop :=
  let byte (n : Nat) : Byte := BitVec.ofNat 8 n
  let bit (b : Bool) (n : Nat) : Nat := if b then n else 0
  let two (n : Nat) : List Byte := [byte (n / 256), byte n]
  (∀ s : State, s.decides = true →
    exec .queryStation s = .next (s.reply (.single ⟨0x22, 0,
      [0x2E, 0x61, 0x12, 0x10, 0x03, byte s.station.toNat, if s.twelvePorts then 12 else 8,
       if s.autostart then 1 else 0, byte (allPorts.countP fun p => s.present p && decide ((s.lane p).state = .up)),
       byte s.queue.length,
       byte (16 * engineStateCode (s.engine 0).state + engineStateCode (s.engine 1).state),
       byte s.surveyInterval, byte (bit s.surveyEnabled 1 + bit s.surveyContinuous 2), byte s.checkFailures,
       byte s.collisionErrors, byte s.requestsDiscarded]⟩)).settle ∧
    (∀ (p : Port) (b : Byte), b.toNat = p.val + 1 → s.present p = true →
      let l := s.lane p
      exec (.queryPort b) s = .next (s.reply (.single ⟨0x23, 0,
        [b, byte (laneStateCode l.state),
         byte (bit l.hold.sweep 1 + bit l.hold.listen 2 + bit l.hold.quiet 4 + bit l.hold.power 8),
         (match l.state, l.grade with
          | .up, some g => byte (gradeNumber g)
          | _, _ => 0),
         byte (gradeNumber l.ceiling), byte l.attempts, byte (lastFailureCode l.lastFailure), byte l.failureCount,
         byte (bit (inPortSet s.guards p) 1 + bit l.shadowPending 2 + bit l.calDefaulted 4),
         byte (queueStateCode (s.queue.find? fun x => decide (x.port = p))),
         byte (overallCode (s.record p).overall)]⟩)).settle ∧
      exec (.readRecord b) s = .next (s.reply (.recordTrain p (s.record p) 0)).settle) ∧
    ∀ start : Byte, exec (.readCoupling start) s = .next
      (s.reply (.couplingTrain start s.coupling.length ((s.coupling.drop start.toNat).take 8) 0)).settle) ∧
  (∀ (p : Port) (r : CableRecord),
    let pieces := recordPieces p r
    let tested (x : PairRecord) : Nat := if x.verdict = none then 0 else 1
    let carries (c : List Byte) (i : Nat) : Prop :=
      pieces[i]? = some ⟨0x24, 0, [byte (p.val + 1), byte i, byte pieces.length] ++ c⟩
    let sizeOf (x : PairRecord) : Nat := if x.verdict = none then 0 else if x.reflections = [] then 1 else 2
    pieces.length = 1 + sizeOf r.pairs.a + sizeOf r.pairs.b + sizeOf r.pairs.c + sizeOf r.pairs.d ∧
    carries ([byte (recordStatusCode r.status)] ++ two r.sequence.toNat ++ [byte (originCode r.origin)] ++ two r.age ++
      [byte (overallCode r.overall),
       byte (tested r.pairs.a + 2 * tested r.pairs.b + 4 * tested r.pairs.c + 8 * tested r.pairs.d)]) 0 ∧
    ∀ (q : Pair) (v : Verdict) (i : Nat), (atPair r.pairs q).verdict = some v →
      let x := atPair r.pairs q
      i = 1 + (match q with
        | .a => 0
        | .b => sizeOf r.pairs.a
        | .c => sizeOf r.pairs.a + sizeOf r.pairs.b
        | .d => sizeOf r.pairs.a + sizeOf r.pairs.b + sizeOf r.pairs.c) →
      carries ([byte (pairNumber q), byte (verdictCode v), byte (bit x.low 1 + bit x.noisy 2 + bit x.clipped 4)] ++
        two (x.distance.getD 0xFFFF) ++ two x.noise ++ two x.cross ++
        [byte (pairNumber x.crossPair), byte x.reflections.length]) i ∧
      (x.reflections ≠ [] → carries (byte (pairNumber q) :: x.reflections.flatMap fun y =>
        two y.distance ++ two (y.level % 65536).toNat) (i + 1))) ∧
  ∀ (start : Byte) (total : Nat) (es : List CouplingEntry),
    let six (c : CouplingEntry) : List Byte :=
      [byte (c.localPort.val + 1), byte (16 * c.station.toNat + c.remotePort.val + 1)] ++ two c.level ++
        [byte (bit c.heard 1 + bit c.told 2), byte c.age]
    couplingPieces start total [] = [⟨0x25, 0, [start, byte total]⟩] ∧
    (∀ x, couplingPieces start total [x] = [⟨0x25, 0, [start, byte total] ++ six x⟩]) ∧
    ∀ x y, couplingPieces start total (x :: y :: es) =
      ⟨0x25, 0, [start, byte total] ++ six x ++ six y⟩ :: if es = [] then [] else couplingPieces (start + 2) total es

/-- STATION_RESET, after start-up and with room for the reply (R30, R16, R45, R92, R131, R182): engines IDLE, queue and lists
empty, flags and counters cleared, the reply the only entry; each present lane released, its holds, failures and measurements
cleared, a pending shadow active, the ceiling restored, DISABLED kept and every other lane in ADVERTISE, or PARKED with CABLE
where it has nothing to offer. Straps, time, guards, records, Coupling Table, survey settings and offsets are kept. That the
transmitter is free and no place is last opened is the model's choice (log 11), and so is that UP start is kept (log 30). -/
def Obligations.StationReset : Prop :=
  ∀ s : State, s.decides = true → ∃ u : State, exec .stationReset s = .next u.settle ∧
    u = { s with
      lanes := u.lanes, engines := Vector.replicate 2 Engine.idle, queue := [], coordList := []
      replyList := [acceptedReply 0x01 4], noticeFlags := Vector.replicate 12 0, stationNotice := none
      checkFailures := 0, collisionErrors := 0, requestsDiscarded := 0, collisionRun := 0, tx := none
      lastOpened := none, passSet := 0, holdoffs := Vector.replicate 12 none
      surveyTimer :=
        if s.surveyEnabled then some (s.ms + BitVec.ofNat 48 (s.surveyInterval * 10000)) else none } ∧
    ∀ p, s.present p = true →
      let l := s.lane p
      let profile := if l.shadowPending then l.shadow else l.active
      let ceiling := bestCeiling profile.advertised (s.record p).allowed l.ceiling
      let offered := profile.advertised &&& (s.record p).allowed &&& gradesUpTo ceiling
      let base (command : TapCommand) : Lane :=
        { l with
          hold := .empty, quiet := [], ceiling := ceiling, attempts := 0, neg := .cleared, lastFailure := .none
          failureCount := 0, transferOwed := false, timer := none, active := profile, shadowPending := false
          pulseCount := 0, lastPulse := none, holder := .lane, outstanding := none, captureDue := none
          tapCommand := some command }
      u.lane p =
        if l.state = .disabled then base .sendQuiet
        else if offered = 0 then
          { base .sendQuiet with state := .parked, offered := 0, lastFailure := .cable, grade := none, training := none }
        else
          { base (.sendWord offered false) with
            state := .advertise, offered := offered, grade := none, training := none }

/-! ## Frames of peers and the Coupling Table -/

/-- QUIET_ASK from a peer, after start-up: a port outside 1-12 is ignored (R164). The lanes selected by the table at level 50
or more, with honour quiet set and not DISABLED (R165), take the ask, with QUIET where their list was empty: ADVERTISE and
BACKOFF enter HELD, every other state records it (R64, R67). No other lane changes. Placement is R67's; expiries are compared
by the time left (the model's choice, log 12). -/
def Obligations.QuietAsk : Prop :=
  (∀ (s : State) (st : Station) (b units : Byte), s.coordinates = true → s.isPeer st = true →
    ((b = 0 ∨ 12 < b.toNat) → exec (.quietAsk st b units) s = .next s.settle) ∧
    ∀ q : Port, b.toNat = q.val + 1 → ∃ u : State,
      exec (.quietAsk st b units) s = .next u.settle ∧ u = { s with lanes := u.lanes } ∧
      ∀ p,
        let l := s.lane p
        let selected := s.present p = true ∧ l.active.honourQuiet = true ∧ l.state ≠ .disabled ∧
          ∃ c ∈ s.coupling, c.localPort = p ∧ c.station = st ∧ c.remotePort = q ∧ 50 ≤ c.level
        let list := placeQuiet s.ms l.quiet
          ⟨st, q, s.ms + BitVec.ofNat 48 ((if units = 0 then 1 else units.toNat) * 10)⟩
        let recorded : Lane := { l with quiet := list, hold := { l.hold with quiet := true } }
        let held : Lane := { recorded with
          state := .held, timer := none, pulseCount := 0, lastPulse := none, neg := .cleared, grade := none
          training := none }
        (¬selected → u.lane p = l) ∧
        (selected → l.quiet ≠ [] → u.lane p = { l with quiet := list }) ∧
        (selected → l.quiet = [] → l.hold.quiet = false →
          ((l.state = .advertise ∨ l.state = .backoff) → u.lane p =
            if l.holder = .lane then
              { held with tapCommand := some .sendQuiet, outstanding := none, captureDue := none }
            else held) ∧
          (l.state ≠ .advertise → l.state ≠ .backoff → u.lane p = recorded))) ∧
  ∀ (now : Ms) (list : List QuietRecord) (ask : QuietRecord),
    let key (x : QuietRecord) := x.asker = ask.asker ∧ x.askerPort = ask.askerPort
    ((∃ x ∈ list, key x) →
      placeQuiet now list ask = list.map fun x => if x.asker = ask.asker ∧ x.askerPort = ask.askerPort then ask else x) ∧
    ((∀ x ∈ list, ¬key x) → list.length < 4 → placeQuiet now list ask = list ++ [ask]) ∧
    (∀ x ∈ list, (∀ y ∈ list, ¬key y) → 4 ≤ list.length →
      (∀ y ∈ list, y ≠ x → timeBetween now x.expiry < timeBetween now y.expiry ∨
        (timeBetween now x.expiry = timeBetween now y.expiry ∧
          (x.asker.toNat < y.asker.toNat ∨ (x.asker = y.asker ∧ x.askerPort < y.askerPort)))) →
      placeQuiet now list ask =
        if timeBetween now x.expiry < timeBetween now ask.expiry then (list.filter fun y => decide (y ≠ x)) ++ [ask]
        else list)

/-- QUIET_END, and SWEEP_END with no listen job of its key, deliver the end to every present lane (R166, R167); a quiet record
that is due leaves its lane (R68). With its last record a lane loses QUIET, and HELD with nothing left enters ADVERTISE. -/
def Obligations.QuietEnds : Prop :=
  (∀ (s : State) (st : Station) (b : Byte), s.coordinates = true → s.isPeer st = true →
    ((b = 0 ∨ 12 < b.toNat) →
      exec (.quietEnd st b) s = .next s.settle ∧ exec (.sweepEnd st b) s = .next s.settle) ∧
    ∀ q : Port, b.toNat = q.val + 1 →
      let ended := (allPorts.filter s.present).foldl (fun (t : State) p => t.losesQuiet p st q) s
      exec (.quietEnd st b) s = .next ended.settle ∧
      ((∀ e j, (s.engine e).job = some j → ¬(j.station = st ∧ j.port = q)) →
        exec (.sweepEnd st b) s = .next ended.settle)) ∧
  ∀ (s : State) (p : Port) (st : Station) (q : Port), s.hears p = true →
    ((∃ x ∈ (s.lane p).quiet, x.asker = st ∧ x.askerPort = q ∧ x.expiry = s.ms) →
      exec (.quietRecordExpiry p st q) s = .next (s.losesQuiet p st q).settle) ∧
    ((∀ x ∈ (s.lane p).quiet, ¬(x.asker = st ∧ x.askerPort = q ∧ x.expiry = s.ms)) →
      exec (.quietRecordExpiry p st q) s = .next s.settle)

/-- SWEEP_START from a peer: a port outside 1-12 is ignored (R164). Else (R168, R169) without an IDLE engine or an eligible
lane nothing happens; otherwise the lowest IDLE engine listens, with every eligible lane a member, for the listen units and
10 ms more; ADVERTISE, BACKOFF and HELD members are given LISTEN and rest in HELD, and every member's tap is armed on four
pairs. -/
def Obligations.ListenJobStarts : Prop :=
  (∀ (s : State) (st : Station) (b mask units : Byte), s.coordinates = true → s.isPeer st = true → (b = 0 ∨ 12 < b.toNat) →
    exec (.sweepStart st b mask units) s = .next s.settle) ∧
  ∀ (s : State) (st : Station) (b mask units : Byte) (q : Port), s.coordinates = true → s.isPeer st = true →
    b.toNat = q.val + 1 →
    let takes (x : LaneState) : Bool := decide (x = .advertise) || decide (x = .backoff) || decide (x = .held)
    let eligible (p : Port) : Bool :=
      s.present p && (s.lane p).active.listenPeers &&
      (takes (s.lane p).state || decide ((s.lane p).state = .parked) || decide ((s.lane p).state = .disabled) ||
        decide ((s.lane p).state = .sweepWait)) &&
      !(s.lane p).hold.sweep && !(s.lane p).energy &&
      [0, 1].all fun e : EngineId =>
        match (s.engine e).job with
        | some j => j.members.all fun m => decide (m.port ≠ p)
        | none => true
    let out := exec (.sweepStart st b mask units) s
    (((∀ e, (s.engine e).state ≠ .idle) ∨ ∀ p, eligible p = false) → out = .next s.settle) ∧
    (∀ e, (s.engine e).state = .idle → (∀ d, d < e → (s.engine d).state ≠ .idle) → (∃ p, eligible p = true) →
      s.allLanes Lane.holdSound = true →
      ∃ u : State, out = .next u.settle ∧ u = { s with lanes := u.lanes, engines := u.engines } ∧
        (∀ d, d ≠ e → u.engine d = s.engine d) ∧
        u.engine e =
          { Engine.idle with
            state := .listening
            job := some
              { station := st, port := q, endTime := s.ms + BitVec.ofNat 48 (units.toNat * 10 + 10)
                members := (allPorts.filter eligible).map fun p => ⟨p, 0, takes (s.lane p).state⟩ } } ∧
        ∀ p,
          let l := s.lane p
          let armed : Lane := { l with
            holder := .engine e, tapCommand := some (.listen 0b1111 l.tagCounter), outstanding := some l.tagCounter
            tagCounter := l.tagCounter + 1, captureDue := none }
          (eligible p = false → u.lane p = l) ∧
          (eligible p = true →
            (takes l.state = false → u.lane p = armed) ∧
            (l.state = .held → u.lane p = { armed with hold := { l.hold with listen := true } }) ∧
            ((l.state = .advertise ∨ l.state = .backoff) → u.lane p =
              { armed with
                state := .held, hold := { l.hold with listen := true }, timer := none, pulseCount := 0
                lastPulse := none, neg := .cleared, grade := none, training := none })))

/-- LISTEN_JOB_END at the job's end time, and SWEEP_END with its key (R173, R167): each member whose reading gives 20 or more
is recorded HEARD and answered by COUPLING_SEEN, in the members' order; the engine goes IDLE; every member it holds is
released; LISTEN leaves the members it was given to, and a lane HELD for nothing else advertises. The start choice follows.
SWEEP_END ends the quiet holds first (the model's choice, log 29), then the job of its key, engine 0's before engine 1's where
both have one. A LISTEN_JOB_END that is not due changes nothing (the model's choice, log 2). -/
def Obligations.ListenJobEnds : Prop :=
  (∀ (s : State) (e : EngineId) (j : ListenJob), (s.engine e).job = some j →
    let alien (n : Nat) : Nat := min 1000 ((2000 * n + 16376) / 32752)
    let loud := j.members.filter fun m => decide (20 ≤ alien m.reading)
    let seen (m : Member) : Frame :=
      ⟨0x14, j.station, [BitVec.ofNat 8 (j.port.val + 1), BitVec.ofNat 8 (m.port.val + 1),
        BitVec.ofNat 8 (alien m.reading / 256), BitVec.ofNat 8 (alien m.reading)]⟩
    ∃ u : State, s.endListenJob e = u.startChoice ∧
      u = { s with
        lanes := u.lanes, engines := u.engines, noticeFlags := u.noticeFlags, lastOpened := u.lastOpened
        coupling := loud.foldl (fun t m => recordCoupling t ⟨m.port, j.station, j.port⟩ (alien m.reading) .heard) s.coupling
        coordList := (loud.foldl (fun (t : State) m => t.postCoord (seen m) none) s).coordList } ∧
      u.engine e = Engine.idle ∧
      (∀ p, (∀ m ∈ j.members, m.port ≠ p) → u.lane p = s.lane p) ∧
      (∀ m ∈ j.members, (s.lane m.port).holder = .engine e →
        (u.lane m.port).holder = .lane ∧ (u.lane m.port).outstanding = none) ∧
      (∀ m ∈ j.members, m.given = true → (u.lane m.port).hold.listen = false) ∧
      (∀ m ∈ j.members, m.given = true → (j.members.map Member.port).Nodup →
        (s.lane m.port).holder = .engine e → (s.lane m.port).state = .held →
        (s.lane m.port).hold = ⟨false, true, false, false⟩ → (s.lane m.port).transferOwed = false →
        ∀ offered, offered =
          (s.lane m.port).active.advertised &&& (s.record m.port).allowed &&& gradesUpTo (s.lane m.port).ceiling →
        offered ≠ 0 →
        (u.lane m.port).state = .advertise ∧ (u.lane m.port).offered = offered ∧
          (u.lane m.port).tapCommand = some (.sendWord offered false))) ∧
  (∀ (s : State) (e : EngineId) (j : ListenJob), s.inReset = false → (s.engine e).job = some j → j.endTime = s.ms →
    exec (.listenJobEnd e) s = .next (s.endListenJob e).settle) ∧
  (∀ (s : State) (e : EngineId), s.inReset = false → (∀ j, (s.engine e).job = some j → j.endTime ≠ s.ms) →
    exec (.listenJobEnd e) s = .next s.settle) ∧
  ∀ (s : State) (st : Station) (b : Byte) (q : Port), s.coordinates = true → s.isPeer st = true → b.toNat = q.val + 1 →
    let ended := (allPorts.filter s.present).foldl (fun (t : State) p => t.losesQuiet p st q) s
    let hasKey (e : EngineId) : Prop := ∃ j, (s.engine e).job = some j ∧ j.station = st ∧ j.port = q
    (∀ e, hasKey e → (∀ d, d ≠ e → ¬hasKey d) → exec (.sweepEnd st b) s = .next (ended.endListenJob e).settle) ∧
    (hasKey 0 → hasKey 1 → exec (.sweepEnd st b) s = .next ((ended.endListenJob 0).endListenJob 1).settle)

/-- COUPLING_SEEN from a peer for a present port and a port 1-12 (R174, R164): below 20 it is ignored; else the key is recorded
TOLD, at most 1000. A recording (R161): the entry of the key takes the level, the source and age 0 in its place; a new key goes
where its order puts it; into a full table, in place of the entry with the highest age, then the lowest level, then the
last. -/
def Obligations.CouplingSeen : Prop :=
  (∀ (s : State) (st : Station) (swept mine : Byte) (level : BitVec 16), s.coordinates = true → s.isPeer st = true →
    let out := exec (.couplingSeen st swept mine level) s
    ((swept.toNat = 0 ∨ s.portCount < swept.toNat ∨ mine.toNat = 0 ∨ 12 < mine.toNat) → out = .next s.settle) ∧
    (∀ p q : Port, swept.toNat = p.val + 1 → s.present p = true → mine.toNat = q.val + 1 →
      (level.toNat < 20 → out = .next s.settle) ∧
      (20 ≤ level.toNat → level.toNat ≤ 1000 → out = .next
        { s with coupling := recordCoupling s.coupling ⟨p, st, q⟩ level.toNat .told }.settle) ∧
      (1000 < level.toNat → out = .next
        { s with coupling := recordCoupling s.coupling ⟨p, st, q⟩ 1000 .told }.settle))) ∧
  ∀ (table : List CouplingEntry) (k : CouplingKey) (level : Nat) (src : CouplingSource),
    let heard := decide (src = .heard)
    let told := decide (src = .told)
    let fresh : CouplingEntry := ⟨k.localPort, k.station, k.remotePort, level, heard, told, 0⟩
    ((∃ c ∈ table, c.key = k) → recordCoupling table k level src = table.map fun c =>
      if c.key = k then { c with level := level, heard := c.heard || heard, told := c.told || told, age := 0 } else c) ∧
    (∀ low high, table = low ++ high → table.length < 64 → (∀ c ∈ low, c.key.before k = true) →
      (∀ c ∈ high, k.before c.key = true) → recordCoupling table k level src = low ++ fresh :: high) ∧
    (∀ low x high, table = low ++ x :: high → table.length = 64 → couplingSorted table = true →
      (∀ c ∈ table, c.key ≠ k) → (∀ c ∈ low, c.age < x.age ∨ (c.age = x.age ∧ x.level ≤ c.level)) →
      (∀ c ∈ high, c.age < x.age ∨ (c.age = x.age ∧ x.level < c.level)) →
      recordCoupling table k level src = recordCoupling (low ++ high) k level src)

/-! ## Lanes -/

/-- Every entry into ADVERTISE (R62): the transfer where the entry is a transfer point or one is owed, then measurement, offered
set (R93), park for an empty one with CABLE (R102), HELD for a hold set that is not empty, else the word. -/
def Obligations.AdvertiseEntry : Prop :=
  ∀ (s : State) (p : Port) (transferPoint : Bool),
    s.enterAdvertise p transferPoint =
      s.advertises p
        (if transferPoint = true ∨ (s.lane p).transferOwed = true then (s.lane p).atTransferPoint (s.record p).allowed
         else s.lane p)

/-- The command of a lane's state (R61, R46), when the lane comes to rest: issued while the lane holds the port; withheld while
an engine holds it, but for a lane that sends words or trains while the engine only listens, which takes its port back and
leaves the job, LISTEN with it (R47, R171). -/
def Obligations.LaneCommand : Prop :=
  ∀ (s : State) (p : Port),
    let l := s.lane p
    let command : Option TapCommand :=
      match l.state with
      | .starting | .up => none
      | .disabled | .held | .backoff | .sweepWait | .parked => some .sendQuiet
      | .advertise => some (.sendWord l.offered false)
      | .negotiate => some (.sendWord l.offered l.neg.ownAck)
      | .train => l.training.map .train
    (command = none → s.laneCommand p = s) ∧
    (∀ c, command = some c →
      let issued : Lane := { l with tapCommand := some c, outstanding := none, captureDue := none }
      (l.holder = .lane → s.laneCommand p = s.setLane p issued) ∧
      (∀ e, l.holder = .engine e → c = .sendQuiet ∨ (s.engine e).state ≠ .listening → s.laneCommand p = s) ∧
      (∀ e j, l.holder = .engine e → (s.engine e).state = .listening → c ≠ .sendQuiet → (s.engine e).job = some j →
        let others := j.members.filter fun m => decide (m.port ≠ p)
        s.laneCommand p =
          (s.setEngine e
            (if others = [] then Engine.idle
             else { s.engine e with job := some { j with members := others } })).setLane p
            { issued with holder := .lane, hold := { l.hold with listen := false } }))

/-- A failure: reason and count, the sweep request, the ladder and the next state, in the order of R79 (R80, R99, R100). That
the next state begins with the negotiation record and the grade being trained cleared is the model's choice (log 18). -/
def Obligations.FailureHandling : Prop :=
  ∀ (s : State) (p : Port) (reason : LastFailure) (cableRelated : Bool),
    s.failLane p reason cableRelated = s.fails p reason cableRelated

/-- A ceiling restore (R103). -/
def Obligations.CeilingRestore : Prop :=
  ∀ (l : Lane) (allowed : GradeSet) (g : Grade),
    let both := l.active.advertised &&& allowed
    ((hasGrade both g = true ∧ ∀ h, hasGrade both h = true → gradeBit h ≤ gradeBit g) →
      l.restoreCeiling allowed = { l with ceiling := g, attempts := 0 }) ∧
    ((both = 0 ∧ hasGrade l.active.advertised g = true ∧
        ∀ h, hasGrade l.active.advertised h = true → gradeBit h ≤ gradeBit g) →
      l.restoreCeiling allowed = { l with ceiling := g, attempts := 0 })

/-- POWER_DETECT (R59, R66, R64): an event that matches the flag changes nothing. A begin sets the flag and, but in UP, adds
POWER: ADVERTISE, BACKOFF, NEGOTIATE and TRAIN enter HELD, every other state records it; a sweep that prepares or shoots on the
port is suspended (R126). An end clears both, and HELD with nothing left enters ADVERTISE. -/
def Obligations.PowerDetect : Prop :=
  ∀ (s : State) (p : Port), s.hears p = true →
    let l := s.lane p
    let flagged : Lane := { l with power := true }
    let added : Lane := { flagged with hold := { l.hold with power := true } }
    let begins := exec (.powerDetectBegin p) s
    let ends := exec (.powerDetectEnd p) s
    let taken : State :=
      match l.state with
      | .advertise | .backoff | .negotiate | .train => s.rests p added .held
      | .up => s.setLane p flagged
      | .starting | .disabled | .held | .sweepWait | .parked => s.setLane p added
    (l.power = true → begins = .next s.settle) ∧
    (l.power = false → l.hold.power = false → (s.queue.map Entry.port).Nodup →
      ((∀ x ∈ s.queue, x.port = p → x.state = .running → ∀ e, x.engine = some e →
          (s.engine e).state ≠ .preparing ∧ (s.engine e).state ≠ .shooting) →
        begins = .next taken.settle) ∧
      (∀ x ∈ s.queue, ∀ e, x.port = p → x.state = .running → x.engine = some e →
        (s.engine e).state = .preparing ∨ (s.engine e).state = .shooting →
        begins = .next (taken.suspended e p).settle)) ∧
    (l.power = false → ends = .next s.settle) ∧
    (l.power = true → l.hold.power = false → ends = .next (s.setLane p { l with power := false }).settle) ∧
    (l.power = true → l.hold.power = true →
      ends = .next (s.leavesHeld p { l with power := false, hold := { l.hold with power := false } }).settle)

/-- ENERGY (R52, R53): an event that matches the flag changes nothing. On: the flag, a non-forced sweep that prepares or
shoots is suspended (R126), the lane drops out of a listen job (R171), HELD for nothing but LISTEN into ADVERTISE, the
holdoff is cancelled (R180), and SWEEP_WAIT with its entry WAITING or SUSPENDED enters ADVERTISE (R81). Off: the flag;
NEGOTIATE returns to ADVERTISE without failure (R75), TRAIN fails with PARTNER_LOST (R77). -/
def Obligations.EnergyEvents : Prop :=
  ∀ (s : State) (p : Port), s.hears p = true →
    let l := s.lane p
    let lit : Lane := { l with energy := true }
    let dark : Lane := { l with energy := false }
    let on := exec (.energyOn p) s
    let off := exec (.energyOff p) s
    let due (x : Lane) : Lane := if l.transferOwed then x.atTransferPoint (s.record p).allowed else x
    let swept := ∃ x ∈ s.queue, x.port = p ∧ x.state = .running ∧ x.force = false ∧
      ∃ e, x.engine = some e ∧ ((s.engine e).state = .preparing ∨ (s.engine e).state = .shooting)
    let listened := ∃ e j, (s.engine e).job = some j ∧ ∃ m ∈ j.members, m.port = p
    (l.energy = true → on = .next s.settle) ∧
    (l.energy = false → off = .next s.settle) ∧
    (l.energy = false → (s.queue.map Entry.port).Nodup → ¬listened →
      (¬swept → (l.state = .sweepWait ∧ ∃ x ∈ s.queue, x.port = p ∧ x.state ≠ .running) →
        on = .next ((s.setHoldoff p none).advertises p (due lit)).settle) ∧
      (¬swept → ¬(l.state = .sweepWait ∧ ∃ x ∈ s.queue, x.port = p ∧ x.state ≠ .running) →
        on = .next ((s.setHoldoff p none).setLane p lit).settle) ∧
      (∀ x ∈ s.queue, ∀ e, x.port = p → x.state = .running → x.force = false → x.engine = some e →
        (s.engine e).state = .preparing ∨ (s.engine e).state = .shooting →
        on = .next (((s.setLane p lit).suspended e p).setHoldoff p none).settle)) ∧
    (∀ e j m, l.energy = false → ¬swept → l.holder = .engine e → (s.engine e).job = some j → m ∈ j.members → m.port = p →
      (j.members.map Member.port).Nodup → (∀ d i, d ≠ e → (s.engine d).job = some i → ∀ n ∈ i.members, n.port ≠ p) →
      (s.queue.map Entry.port).Nodup →
      let left := ((s.setHoldoff p none).setLane p lit).dropsOut e j m p
      ∃ u : State, on = .next u.settle ∧ onlyPort p (s.setHoldoff p none) u ∧ (u.lane p).energy = true ∧
        (u.lane p).holder = .lane ∧ (u.lane p).outstanding = none ∧ (m.given = true → (u.lane p).hold.listen = false) ∧
        (∀ d, d ≠ e → u.engine d = s.engine d) ∧
        u.engine e =
          (if (j.members.filter fun n => decide (n.port ≠ p)) = [] then Engine.idle
           else { s.engine e with job := some { j with members := j.members.filter fun n => decide (n.port ≠ p) } }) ∧
        (¬(l.state = .sweepWait ∧ ∃ x ∈ s.queue, x.port = p ∧ x.state ≠ .running) → u = left) ∧
        ((l.state = .sweepWait ∧ ∃ x ∈ s.queue, x.port = p ∧ x.state ≠ .running) →
          u = left.advertises p (if l.transferOwed then (left.lane p).atTransferPoint (s.record p).allowed else left.lane p))) ∧
    (l.energy = true → l.state = .negotiate → off = .next (s.advertises p (due dark)).settle) ∧
    (l.energy = true → l.state = .train → off = .next ((s.setLane p dark).fails p .partnerLost false).settle) ∧
    (l.energy = true → l.state ≠ .negotiate → l.state ≠ .train → off = .next (s.setLane p dark).settle)

/-- BURST (R54, R72 to R74, R94): the first word in ADVERTISE, each further word in NEGOTIATE, and nothing in any other state.
The third word with one offer brings agreement; two acked words after it complete the negotiation at the highest common grade,
or NO_COMMON. -/
def Obligations.PartnerWords : Prop :=
  ∀ (s : State) (p : Port) (offer : GradeSet) (ack remoteFault : Bool), s.hears p = true →
    let l := s.lane p
    let out := exec (.burst p offer ack remoteFault) s
    let rested : Lane := { l with
      timer := none, pulseCount := 0, lastPulse := none, neg := .cleared, grade := none, training := none }
    (l.state ≠ .advertise → l.state ≠ .negotiate → out = .next s.settle) ∧
    ((l.state = .advertise ∨ l.state = .negotiate) → remoteFault = true →
      out = .next (s.fails p .partnerFault false).settle) ∧
    (l.state = .advertise → remoteFault = false → out = .next (s.setLane p { rested with
      state := .negotiate, timer := some (.negotiate, s.ms + BitVec.ofNat 48 (l.active.negWindow * 100))
      neg := ⟨some offer, 1, false, 0⟩ }).settle) ∧
    (l.state = .negotiate → remoteFault = false →
      (l.neg.lastOffer ≠ some offer → l.neg.ownAck = false →
        out = .next (s.setLane p { l with neg := ⟨some offer, 1, false, 0⟩ }).settle) ∧
      (l.neg.lastOffer ≠ some offer → l.neg.ownAck = true →
        out = .next ((s.setLane p { l with neg := ⟨some offer, 1, false, 0⟩ }).laneCommand p).settle) ∧
      (l.neg.lastOffer = some offer → l.neg.ownAck = false →
        (l.neg.identical + 1 < 3 → out = .next (s.setLane p
          { l with neg := ⟨some offer, l.neg.identical + 1, false, 0⟩ }).settle) ∧
        (3 ≤ l.neg.identical + 1 →
          out = .next ((s.setLane p { l with neg := ⟨some offer, 3, true, 0⟩ }).laneCommand p).settle)) ∧
      (l.neg.lastOffer = some offer → l.neg.ownAck = true →
        (ack = false → out = .next (s.setLane p
          { l with neg := ⟨some offer, min 3 (l.neg.identical + 1), true, 0⟩ }).settle) ∧
        (ack = true → l.neg.ackRun + 1 < 2 → out = .next (s.setLane p
          { l with neg := ⟨some offer, min 3 (l.neg.identical + 1), true, l.neg.ackRun + 1⟩ }).settle) ∧
        (ack = true → 2 ≤ l.neg.ackRun + 1 →
          (l.offered &&& offer = 0 → out = .next (s.fails p .noCommon false).settle) ∧
          (∀ g, hasGrade (l.offered &&& offer) g = true →
            (∀ h, hasGrade (l.offered &&& offer) h = true → gradeBit h ≤ gradeBit g) →
            out = .next ((s.setLane p { rested with
              state := .train, training := some g
              timer := some (.train, s.ms + BitVec.ofNat 48 (l.active.trainWindow * 100)) }).laneCommand p).settle))))

/-- PLAIN_PULSE (R55, R69, R95): taken in ADVERTISE alone. An interval of 8 to 24 ms counts, any other starts the count again;
at 3 a legacy partner is detected and the lane trains at G1 if it offers it, or fails with NO_COMMON. -/
def Obligations.PlainPulse : Prop :=
  ∀ (s : State) (p : Port), s.hears p = true → (s.lane p).pulseCount ≤ 2 →
    let l := s.lane p
    let out := exec (.plainPulse p) s
    let counted (n : Nat) : State := s.setLane p { l with pulseCount := n, lastPulse := some s.ms }
    (l.state ≠ .advertise → out = .next s.settle) ∧
    (l.state = .advertise → l.lastPulse = none → out = .next (counted l.pulseCount).settle) ∧
    (∀ last, l.state = .advertise → l.lastPulse = some last →
      let gap := timeBetween last s.ms
      ((gap < 8 ∨ 24 < gap) → out = .next (counted 0).settle) ∧
      (8 ≤ gap → gap ≤ 24 → l.pulseCount + 1 < 3 → out = .next (counted (l.pulseCount + 1)).settle) ∧
      (8 ≤ gap → gap ≤ 24 → l.pulseCount + 1 = 3 →
        (hasGrade l.offered .g1 = false → out = .next (s.fails p .noCommon false).settle) ∧
        (hasGrade l.offered .g1 = true → out = .next ((s.setLane p { l with
          state := .train, training := some .g1, grade := none, pulseCount := 0, lastPulse := none, neg := .cleared
          timer := some (.train, s.ms + BitVec.ofNat 48 (l.active.trainWindow * 100)) }).laneCommand p).settle)))

/-- TRAIN_PROGRESS and TRAIN_FAULT (R57, R76, R77, R84): LOCKED in TRAIN takes the lane to UP with the grade trained, posts
LINK_UP and removes a waiting non-forced entry as PREEMPTED; a fault on a pair used at the grade fails the attempt by its kind;
everything else is ignored. -/
def Obligations.TrainingEvents : Prop :=
  ∀ (s : State) (p : Port), s.hears p = true → (s.queue.map Entry.port).Nodup →
    let l := s.lane p
    let up : State := (s.setLane p { l with
      state := .up, timer := none, pulseCount := 0, lastPulse := none, neg := .cleared, grade := l.training
      training := none, upStart := s.ms }).post p .linkUp
    let preempts := ∃ x ∈ s.queue, x.port = p ∧ x.state ≠ .running ∧ x.force = false
    (∀ stage, (l.state ≠ .train ∨ stage ≠ .locked) → exec (.trainProgress p stage) s = .next s.settle) ∧
    (l.state = .train → ¬preempts → exec (.trainProgress p .locked) s = .next up.settle) ∧
    (l.state = .train → preempts →
      exec (.trainProgress p .locked) s = .next (up.entryGone p .sweepEndedEarly).settle) ∧
    (∀ kind pair, l.state ≠ .train → exec (.trainFault p kind pair) s = .next s.settle) ∧
    (∀ kind pair g, l.state = .train → l.training = some g →
      let used := pair = .a ∨ pair = .b ∨ g = .g3 ∨ g = .g4
      (¬used → exec (.trainFault p kind pair) s = .next s.settle) ∧
      (used →
        (kind = .pairMissing → exec (.trainFault p kind pair) s = .next (s.fails p .pairFault true).settle) ∧
        (kind = .skew → exec (.trainFault p kind pair) s = .next (s.fails p .skew true).settle) ∧
        (kind = .polarity → exec (.trainFault p kind pair) s = .next (s.fails p .polarity false).settle)))

/-- The lane timers when due: NEG_TIMEOUT, cable-related by the energy-present flag (R75, R78), TRAIN_TIMEOUT (R77), and the
end of BACKOFF (R71). A command whose timer is not due changes nothing (the model's choice, log 2). -/
def Obligations.LaneTimers : Prop :=
  ∀ (s : State) (p : Port), s.hears p = true →
    let l := s.lane p
    (l.timer = some (.negotiate, s.ms) → exec (.negWindowExpiry p) s = .next (s.fails p .negTimeout l.energy).settle) ∧
    (l.timer ≠ some (.negotiate, s.ms) → exec (.negWindowExpiry p) s = .next s.settle) ∧
    (l.timer = some (.train, s.ms) → exec (.trainWindowExpiry p) s = .next (s.fails p .trainTimeout true).settle) ∧
    (l.timer ≠ some (.train, s.ms) → exec (.trainWindowExpiry p) s = .next s.settle) ∧
    (l.timer = some (.backoff, s.ms) → exec (.backoffExpiry p) s = .next
      (s.advertises p (if l.transferOwed then l.atTransferPoint (s.record p).allowed else l)).settle) ∧
    (l.timer ≠ some (.backoff, s.ms) → exec (.backoffExpiry p) s = .next s.settle)

/-- LINK_LOST in UP (R85): LINK_DOWN, POWER carried, transfer owed, the holdoff where auto sweep is set (R180); then by the
time in UP: LOST_EARLY below 2,000 ms, ADVERTISE, and ADVERTISE with the ceiling restored from 60,000 ms. Ignored in any other
state (R58). -/
def Obligations.LinkLost : Prop :=
  ∀ (s : State) (p : Port), s.hears p = true →
    let l := s.lane p
    let allowed := (s.record p).allowed
    let dropped := s.droppedLink p
    let t : State := if l.active.autoSweep then dropped.setHoldoff p (some (s.ms + 5000)) else dropped
    let owing : Lane := { dropped.lane p with transferOwed := true }
    let spent := timeBetween l.upStart s.ms
    (l.state ≠ .up → exec (.linkLost p) s = .next s.settle) ∧
    (l.state = .up → spent < 2000 →
      exec (.linkLost p) s = .next ((t.setLane p owing).fails p .lostEarly true).settle) ∧
    (l.state = .up → 2000 ≤ spent → spent < 60000 →
      exec (.linkLost p) s = .next (t.advertises p (owing.atTransferPoint allowed)).settle) ∧
    (l.state = .up → 60000 ≤ spent →
      exec (.linkLost p) s = .next (t.advertises p ((owing.restored allowed).atTransferPoint allowed)).settle)

/-! ## Engines, records and the survey -/

/-- CAPTURE_DONE (R51, R121, R133, R38, R170): with another tag, or while the lane holds the port, it is ignored. The engine
that shoots adds the samples, the floor and the clipping, counts the shot and fires the next, or analyses for 2 ms after the
last; one that calibrates adds the samples and fires the next, or computes for 2 ms after the 16th; one that listens keeps the
larger reading. Blocks of another kind than commanded stop the model (log 9). CAPTURE_TIMEOUT: the shot has failed; nothing is
accumulated, and a pair with three failures in a row, or with no shot completed, is written UNTESTABLE at once (R121); one that
is not due changes nothing (the model's choice, log 2). -/
def Obligations.Captures : Prop :=
  ∀ (s : State) (p : Port) (e : EngineId), s.hears p = true →
    let l := s.lane p
    let g := s.engine e
    let closed : State := s.setLane p { l with outstanding := none, captureDue := none }
    let add (sums : List Int) (w : Vector Sample 512) : List Int := List.zipWith (· + ·) sums (w.toList.map BitVec.toInt)
    (∀ tag data, l.outstanding ≠ some tag ∨ l.holder = .lane → exec (.captureDone p tag data) s = .next s.settle) ∧
    (∀ tag, l.outstanding = some tag → l.holder = .engine e →
      (∀ (q : Pair) (x : Entry) (b : Four ShotBlock), g.state = .shooting → g.current = some q → s.entryOf p = some x →
        let own := atPair b q
        let h : Engine := { g with
          sums := ⟨add g.sums.a b.a.window, add g.sums.b b.b.window, add g.sums.c b.c.window, add g.sums.d b.d.window⟩
          floors := g.floors ++ [(own.pre.toList.map fun v => v.toInt.natAbs).foldl max 0]
          clipped := g.clipped || (own.window.toList.drop 16).any fun v => decide (v.toInt = -2048 ∨ v.toInt = 2047)
          completed := g.completed + 1, failedRun := 0 }
        (g.issued < 2 ^ x.depth → exec (.captureDone p tag (.shoot b)) s =
          .next ((closed.setEngine e { h with issued := g.issued + 1 }).fires e p (.shoot q)).settle) ∧
        (2 ^ x.depth ≤ g.issued → exec (.captureDone p tag (.shoot b)) s =
          .next (closed.setEngine e { h with state := .analysing, timer := some (.analysis, s.ms + 2) }).settle)) ∧
      (∀ (w : CalWork) (b : ShotBlock), g.state = .calibrating → g.cal = some w → w.port = p →
        let v : CalWork := { w with completed := w.completed + 1, sums := add w.sums b.window }
        (w.issued < 16 → exec (.captureDone p tag (.cal b)) s = .next
          ((closed.setEngine e { g with cal := some { v with issued := w.issued + 1 } }).fires e p .calShoot).settle) ∧
        (16 ≤ w.issued → exec (.captureDone p tag (.cal b)) s =
          .next (closed.setEngine e { g with cal := some v, timer := some (.calibration, s.ms + 2) }).settle)) ∧
      (∀ (j : ListenJob) (b : Four (Vector Sample 512)), g.state = .listening → g.job = some j →
        exec (.captureDone p tag (.listen b)) s = .next (s.setEngine e { g with job := some { j with
          members := j.members.map fun m =>
            if m.port = p then { m with reading := max m.reading (blockLevel (pulseCode j.station) b) } else m } }).settle) ∧
      (∀ data, (g.state = .shooting ∧ ∀ b, data ≠ .shoot b) ∨ (g.state = .calibrating ∧ ∀ b, data ≠ .cal b) ∨
          (g.state = .listening ∧ ∀ b, data ≠ .listen b) →
        exec (.captureDone p tag data) s = .fault .captureShape)) ∧
    (l.captureDue ≠ some s.ms → exec (.captureTimeout p) s = .next s.settle) ∧
    (l.captureDue = some s.ms → l.holder = .engine e →
      (∀ (q : Pair) (x : Entry), g.state = .shooting → g.current = some q → s.entryOf p = some x →
        let h : Engine := { g with failedRun := g.failedRun + 1 }
        let untestable : PairResult :=
          ⟨.untestable, g.clipped, false, g.clipped, none, noiseFigure g.floors, 0, q, []⟩
        ((3 ≤ g.failedRun + 1 ∨ (2 ^ x.depth ≤ g.issued ∧ g.completed = 0)) →
          exec (.captureTimeout p) s = .next ((closed.setEngine e h).writePair e p q untestable).settle) ∧
        (g.failedRun + 1 < 3 → g.issued < 2 ^ x.depth → exec (.captureTimeout p) s =
          .next ((closed.setEngine e { h with issued := g.issued + 1 }).fires e p (.shoot q)).settle) ∧
        (g.failedRun + 1 < 3 → 2 ^ x.depth ≤ g.issued → g.completed ≠ 0 → exec (.captureTimeout p) s =
          .next (closed.setEngine e { h with state := .analysing, timer := some (.analysis, s.ms + 2) }).settle)) ∧
      (∀ w : CalWork, g.state = .calibrating → g.cal = some w → w.port = p →
        (w.issued < 16 → exec (.captureTimeout p) s = .next
          ((closed.setEngine e { g with cal := some { w with issued := w.issued + 1 } }).fires e p .calShoot).settle) ∧
        (16 ≤ w.issued → exec (.captureTimeout p) s =
          .next (closed.setEngine e { g with timer := some (.calibration, s.ms + 2) }).settle)))

/-- One pass (R120, R123, R124): PREPARE_PASS, once no timer runs and no coordination frame of the engine waits, takes the pairs
remaining, posts QUIET_ASK with its hold units and starts the settle time; SETTLE_EXPIRY posts SWEEP_START with its listen units
and fires the first pair's first shot; RETRY_WAIT_EXPIRY ends the retry wait. Not ready or not due, nothing changes (log 2). -/
def Obligations.Passes : Prop :=
  ∀ (s : State) (e : EngineId), s.inReset = false →
    let g := s.engine e
    let units (n : Nat) : Nat := (n + 9) / 10
    let ready := g.state = .preparing ∧ g.timer = none ∧ ∀ f ∈ s.coordList, f.engine ≠ some e
    (¬ready → exec (.preparePass e) s = .next s.settle) ∧
    (∀ (p : Port) (x : Entry), ready → g.bound = some p → s.entryOf p = some x →
      let n := (pairsOf (x.mask &&& ~~~x.completed)).length
      exec (.preparePass e) s = .next
        ((s.postCoord ⟨0x10, 15, [BitVec.ofNat 8 (p.val + 1),
            BitVec.ofNat 8 (max 1 (min 255 (units (n * (2 ^ x.depth + 2) + 20))))]⟩ (some e)).setEngine e
          { g with
            passPairs := x.mask &&& ~~~x.completed, heldBack := 0, announcement := .asked
            timer := some (.settle, s.ms + 20) }).settle) ∧
    (g.timer ≠ some (.settle, s.ms) → exec (.settleExpiry e) s = .next s.settle) ∧
    (∀ (p : Port) (x : Entry) (q : Pair), g.timer = some (.settle, s.ms) → g.bound = some p → s.entryOf p = some x →
      hasPair g.passPairs q = true → (∀ r, hasPair g.passPairs r = true → pairNumber q ≤ pairNumber r) →
      exec (.settleExpiry e) s = .next
        (((s.postCoord ⟨0x11, 15, [BitVec.ofNat 8 (p.val + 1), BitVec.ofNat 8 g.passPairs.toNat,
            BitVec.ofNat 8 (units ((pairsOf g.passPairs).length * 2 ^ x.depth + 10))]⟩ (some e)).setEngine e
          { g.emptied with state := .shooting, announcement := .started, current := some q, issued := 1 }).fires e p
            (.shoot q)).settle) ∧
    (g.timer ≠ some (.retryWait, s.ms) → exec (.retryWaitExpiry e) s = .next s.settle) ∧
    (g.timer = some (.retryWait, s.ms) →
      exec (.retryWaitExpiry e) s = .next (s.setEngine e { g with timer := none }).settle)

/-- ANALYSIS_END (R122): a NOISY pair with retries left is held back; any other is written, LOW where it is NOISY or CLIPPED. A
pair that is written joins pairs completed with the entry's present origin, and completes the sweep when none remains (R150).
What follows either: a cancel stops the sweep, or lets it end DONE (R115); the next pair, unless energy or power detection
suspends the entry (R126); at the end of the pass completion (R125), suspension, or SWEEP_END and the retry wait (R123). -/
def Obligations.AnalysisEnd : Prop :=
  (∀ (s : State) (e : EngineId), s.inReset = false →
    let g := s.engine e
    (g.timer ≠ some (.analysis, s.ms) → exec (.analysisEnd e) s = .next s.settle) ∧
    (∀ (p : Port) (q : Pair) (x : Entry) (snap : Snapshot), g.timer = some (.analysis, s.ms) → g.bound = some p →
      g.current = some q → s.entryOf p = some x → x.snapshot = some snap →
      let r := analysePair (pulseCode s.station) snap ⟨q, g.sums, g.floors, g.clipped, g.completed⟩
      (r.noisy = true → x.retries < 2 → exec (.analysisEnd e) s = .next
        ((s.setEngine e { g.emptied with heldBack := g.heldBack ||| onePair q }).afterPair e p q).settle) ∧
      (r.noisy = false ∨ 2 ≤ x.retries → exec (.analysisEnd e) s = .next
        ((s.setEngine e { g with timer := none }).writePair e p q { r with low := r.low || r.noisy }).settle))) ∧
  (∀ (s : State) (e : EngineId) (p : Port) (q : Pair) (r : PairResult) (x : Entry), s.entryOf p = some x →
    s.writePair e p q r =
      ((({ s with queue := s.queue.map fun y =>
            if y.port = p then { y with completed := x.completed ||| onePair q } else y } : State).setEngine e
          (s.engine e).emptied).pairWrite p q r x.origin (decide (x.mask &&& ~~~(x.completed ||| onePair q) = 0))).afterPair
        e p q) ∧
  ∀ (s : State) (e : EngineId) (p : Port) (q : Pair) (x : Entry), s.entryOf p = some x →
    let g := s.engine e
    let l := s.lane p
    let sweepEnd : Frame := ⟨0x12, 15, [BitVec.ofNat 8 (p.val + 1)]⟩
    let disturbed := (x.force = false ∧ l.energy = true) ∨ l.power = true
    let left := x.mask &&& ~~~x.completed = 0 ∧ g.heldBack = 0
    let last := ∀ r, hasPair g.passPairs r = true → pairNumber r ≤ pairNumber q
    (x.cancelPending = true → left →
      s.afterPair e p q = (s.postCoord sweepEnd (some e)).sweepOver e p .sweepDone) ∧
    (x.cancelPending = true → ¬left → s.afterPair e p q = (s.endAnnounced e p).sweepOver e p .sweepEndedEarly) ∧
    (x.cancelPending = false → ¬last → disturbed → s.afterPair e p q = s.suspended e p) ∧
    (∀ r, x.cancelPending = false → ¬disturbed → hasPair g.passPairs r = true → pairNumber q < pairNumber r →
      (∀ y, hasPair g.passPairs y = true → pairNumber q < pairNumber y → pairNumber r ≤ pairNumber y) →
      s.afterPair e p q =
        (s.setEngine e { g.emptied with state := .shooting, current := some r, issued := 1 }).fires e p (.shoot r)) ∧
    (x.cancelPending = false → last → g.heldBack = 0 →
      s.afterPair e p q = (s.postCoord sweepEnd (some e)).sweepOver e p .sweepDone) ∧
    (x.cancelPending = false → last → g.heldBack ≠ 0 → x.port = p → disturbed → s.afterPair e p q = s.suspended e p) ∧
    (x.cancelPending = false → last → g.heldBack ≠ 0 → x.port = p → ¬disturbed →
      s.afterPair e p q =
        ({ s.postCoord sweepEnd (some e) with queue := s.queue.map fun y =>
            if y.port = p then { y with retries := y.retries + 1 } else y } : State).setEngine e
          { g with
            state := .preparing, current := none, announcement := .none, timer := some (.retryWait, s.ms + 100) })

/-- CALIBRATION_RESULT (R38, R37, R39): offset and flag are set, the port released, and the engine takes the lowest lane still
in the list, or goes IDLE; with the other engine IDLE as well, every present lane leaves STARTING and STARTED is posted. Engine
0 is served first when both are due (the model's choice, log 23). A result that is not due changes nothing (the model's choice,
log 2). -/
def Obligations.CalibrationResult : Prop :=
  ∀ (s : State) (e : EngineId), s.inReset = false →
    let g := s.engine e
    let due (d : EngineId) : Prop := (s.engine d).timer = some (.calibration, s.ms)
    let out := exec (.calibrationResult e) s
    (¬due e → out = .next s.settle) ∧
    (e = 1 → due 0 → due 1 → out = .next ((s.finishCalibration 0).finishCalibration 1).startupEnd.settle) ∧
    (∀ w : CalWork, (e = 0 ∨ ¬due 0) → due e → g.cal = some w →
      let delay := referenceDelay (pulseCode s.station) w.sums w.completed
      let good := w.completed ≠ 0 ∧ 8 ≤ delay ∧ delay ≤ 64
      ∀ (offset : Nat) (defaulted : Bool), (good → (offset : Int) = delay ∧ defaulted = false) →
        (¬good → offset = 24 ∧ defaulted = true) →
        let freed := (s.setLane w.port { s.lane w.port with offsetT := offset, calDefaulted := defaulted }).releasePort e
          w.port
        let idled := freed.setEngine e .idle
        (∀ p rest, s.calList = p :: rest → out = .next
          ((({ freed with calList := rest } : State).setEngine e
            { Engine.idle with state := .calibrating, cal := some ⟨p, 1, 0, clearedSums⟩ }).fires e p .calShoot).settle) ∧
        (s.calList = [] → (∀ d, d ≠ e → (s.engine d).state ≠ .idle) → out = .next idled.settle) ∧
        (s.calList = [] → (∀ d, d ≠ e → (s.engine d).state = .idle) → s.anyStarting = true → out = .next
          ({ (allPorts.filter s.present).foldl (fun (t : State) p =>
                let l := (t.lane p).transferred.restored (t.record p).allowed
                if s.autostart then t.advertises p l else t.rests p l .disabled) idled with
              stationNotice := some .started } : State).settle))

/-- HOLDOFF_EXPIRY and SURVEY_EXPIRY when due: the port a holdoff or the survey picks is requested for all four pairs at its
default depth (R181, R178); the survey timer starts again, or a SINGLE survey with no candidate ends and posts SURVEY_DONE. What
a request does: a new entry at the tail, a merge, or nothing (R110 to R112). Not due, nothing changes (log 2). -/
def Obligations.AutomaticRequests : Prop :=
  (∀ (s : State) (p : Port), s.hears p = true →
    let l := s.lane p
    let t := s.setHoldoff p none
    (s.holdoff p ≠ some s.ms → exec (.holdoffExpiry p) s = .next s.settle) ∧
    (s.holdoff p = some s.ms → (l.state = .advertise ∨ l.state = .held) → l.energy = false →
      exec (.holdoffExpiry p) s = .next (t.requestSweep ⟨p, 0b1111, l.active.depth, .linkDown, false⟩).settle) ∧
    (s.holdoff p = some s.ms → ¬((l.state = .advertise ∨ l.state = .held) ∧ l.energy = false) →
      exec (.holdoffExpiry p) s = .next t.settle)) ∧
  (∀ s : State, s.inReset = false →
    let candidate (p : Port) : Prop :=
      s.present p = true ∧ (s.lane p).active.surveyMember = true ∧ (∀ x ∈ s.queue, x.port ≠ p) ∧
      (s.lane p).power = false ∧ (s.surveyContinuous = true ∨ inPortSet s.passSet p = false) ∧
      (((s.lane p).state = .advertise ∧ (s.lane p).energy = false) ∨
        ((s.lane p).state = .held ∧ (s.lane p).hold.sweep = false) ∨ (s.lane p).state = .parked ∨
        (s.lane p).state = .disabled)
    let fresh (p : Port) : Bool := decide ((s.record p).status = .neverTested)
    let again (t : State) : State := { t with surveyTimer := some (s.ms + BitVec.ofNat 48 (s.surveyInterval * 10000)) }
    (s.surveyTimer ≠ some s.ms → exec .surveyExpiry s = .next s.settle) ∧
    (∀ p, s.surveyTimer = some s.ms → candidate p →
      (∀ q, candidate q → q ≠ p → (fresh p = true ∧ fresh q = false) ∨
        (fresh p = fresh q ∧ ((s.record q).age < (s.record p).age ∨ ((s.record q).age = (s.record p).age ∧ p < q)))) →
      let asked := s.requestSweep ⟨p, 0b1111, (s.lane p).active.depth, .survey, false⟩
      exec .surveyExpiry s = .next (again
        (if s.surveyContinuous = false ∧ s.queue.length < 6 then { asked with passSet := addPort s.passSet p }
         else asked)).settle) ∧
    (s.surveyTimer = some s.ms → (∀ p, ¬candidate p) →
      (s.surveyContinuous = true → exec .surveyExpiry s = .next (again s).settle) ∧
      (s.surveyContinuous = false → exec .surveyExpiry s = .next
        { s with surveyEnabled := false, surveyTimer := none, stationNotice := some .surveyDone }.settle))) ∧
  ∀ (s : State) (p : Port) (mask : PairSet) (k : Nat) (o : Origin) (force : Bool),
    let asked := s.requestSweep ⟨p, mask, k, o, force⟩
    ((∀ x ∈ s.queue, x.port ≠ p) → s.queue.length < 6 →
      asked = { s with queue := s.queue ++ [⟨p, mask, k, o, force, .waiting, 0, 0, none, none, false⟩] }) ∧
    ((∀ x ∈ s.queue, x.port ≠ p) → 6 ≤ s.queue.length → asked = s) ∧
    ((s.queue.map Entry.port).Nodup → ∀ x ∈ s.queue, x.port = p →
      (x.state = .running → asked = s) ∧
      (x.state ≠ .running → asked = { s with queue := s.queue.map fun y =>
        if y.port = p then
          { y with
            mask := y.mask ||| mask, depth := max y.depth k, force := y.force || force
            origin := if originRank o < originRank y.origin then o else y.origin }
        else y }))

/-- A pair write (R150): the pair record is replaced by the result, field for field (R149), status (R151), sequence (R152),
origin and age (R153), overall verdict (R154) and allowed set (R96) follow, one change flag at most is posted (R155), and a
PARKED lane whose allowed set grew is released with its ceiling restored and last failure NONE (R97, R106). -/
def Obligations.PairWrite : Prop :=
  ∀ (s : State) (p : Port) (q : Pair) (r : PairResult) (o : Origin) (completing : Bool),
    let old := s.record p
    let was := atPair old.pairs q
    let pairs := putPair old.pairs q
      ⟨some r.verdict, r.low, r.noisy, r.clipped, r.distance, r.noise, r.cross, r.crossPair, r.reflections⟩
    let each : List PairRecord := [pairs.a, pairs.b, pairs.c, pairs.d]
    let fault (v : Verdict) : Bool := v ≠ .good && v ≠ .untestable
    let cuts (x : PairRecord) : Prop := x.low = false ∧ ∃ v, x.verdict = some v ∧ fault v = true ∧ v ≠ .highImp ∧ v ≠ .lowImp
    let weakens (x : PairRecord) : Prop := x.low = false ∧ (x.verdict = some .highImp ∨ x.verdict = some .lowImp)
    let u := s.pairWrite p q r o completing
    let new := u.record p
    (new.pairs = pairs ∧ new.origin = some o ∧ new.age = 0 ∧
      new.sequence = if completing then old.sequence + 1 else old.sequence) ∧
    (((∀ x ∈ each, x.verdict ≠ none) → new.status = .complete) ∧ ((∃ x ∈ each, x.verdict = none) → new.status = .partly)) ∧
    (((∃ x ∈ each, ∃ v, x.verdict = some v ∧ fault v = true) → new.overall = .fault) ∧
      ((∀ x ∈ each, ∀ v, x.verdict = some v → fault v = false) →
        ((∃ x ∈ each, x.verdict = none ∨ x.verdict = some .untestable) → new.overall = .unknown) ∧
        ((∀ x ∈ each, x.verdict = some .good) → new.overall = .good))) ∧
    ((cuts pairs.a ∨ cuts pairs.b → new.allowed = 0b0000) ∧
      (¬(cuts pairs.a ∨ cuts pairs.b) →
        (cuts pairs.c ∨ cuts pairs.d → new.allowed = 0b0011) ∧
        (¬(cuts pairs.c ∨ cuts pairs.d) →
          ((∃ x ∈ each, weakens x) → new.allowed = 0b0111) ∧ ((∀ x ∈ each, ¬weakens x) → new.allowed = 0b1111)))) ∧
    (let written := s.setRecord p new
     let grew := new.allowed ≠ old.allowed ∧ new.allowed &&& old.allowed = old.allowed
     let released : State :=
      if (s.lane p).state = .parked ∧ grew then
        written.advertises p
          (({ (s.lane p).restored new.allowed with lastFailure := .none } : Lane).atTransferPoint new.allowed)
      else written
     let faulted := ∃ v, was.verdict = some v ∧ fault v = true
     let moved := was.verdict ≠ some r.verdict ∨ (was.distance.getD 0) + 10 < (r.distance.getD 0) ∨
       (r.distance.getD 0) + 10 < (was.distance.getD 0)
     (¬faulted → fault r.verdict = true → u = released.post p .faultFound) ∧
     (¬faulted → fault r.verdict = false → u = released) ∧
     (faulted → fault r.verdict = false → u = released.post p .faultCleared) ∧
     (faulted → fault r.verdict = true → moved → u = released.post p .faultMoved) ∧
     (faulted → fault r.verdict = true → ¬moved → u = released))

/-- The start choice (R117 to R119): which entries are startable; the guard set's removals first; a busy engine chooses nothing;
an IDLE one takes the first startable SUPERVISOR entry, else the first startable one, which becomes RUNNING with its snapshot
taken once, and its lane adds SWEEP: ADVERTISE, BACKOFF, NEGOTIATE and TRAIN enter HELD, UP drops its link, every other state
records it. A lane that is in a listen job of the other engine first drops out of it (R119 step 3, R171). -/
def Obligations.StartChoice : Prop :=
  (∀ (s : State) (x : Entry), s.startable x = true ↔
    (x.state ≠ .running ∧
      ((s.lane x.port).state ∈ [.disabled, .advertise, .backoff, .held, .sweepWait, .parked] ∨
        ((s.lane x.port).state = .up ∧ x.force = true)) ∧
      (s.lane x.port).power = false ∧ (x.force = true ∨ (s.lane x.port).energy = false))) ∧
  (∀ (s : State) (x : Entry), s.guardBlocked x = true ↔
    (x.state ≠ .running ∧ x.force = true ∧ (s.lane x.port).state = .up ∧ inPortSet s.guards x.port = true)) ∧
  (∀ s : State, s.removeGuarded =
    (s.queue.filter s.guardBlocked).foldl (fun (t : State) x => t.entryGone x.port .sweepEndedEarly) s) ∧
  (∀ (s : State) (e : EngineId), (s.engine e).state ≠ .idle → s.engineChooses e = s) ∧
  (∀ (s : State) (e : EngineId), (s.engine e).state = .idle → (∀ x ∈ s.queue, s.startable x = false) →
    s.engineChooses e = s.removeGuarded) ∧
  ∀ (s : State) (e : EngineId) (x : Entry) (ahead behind : List Entry), (s.engine e).state = .idle →
    (∀ y ∈ s.queue, s.guardBlocked y = false) → (s.queue.map Entry.port).Nodup → s.queue = ahead ++ x :: behind →
    s.startable x = true →
    ((x.origin = .supervisor ∧ ∀ y ∈ ahead, s.startable y = true → y.origin ≠ .supervisor) ∨
      ((∀ y ∈ s.queue, s.startable y = true → y.origin ≠ .supervisor) ∧ ∀ y ∈ ahead, s.startable y = false)) →
    (s.lane x.port).hold.sweep = false →
    let l := s.lane x.port
    let snap : Snapshot := ⟨l.active.nvp, l.active.slope, l.offsetT⟩
    let running : Entry := { x with
      state := .running, engine := some e, snapshot := some (x.snapshot.getD snap) }
    let t : State := ({ s with queue := ahead ++ running :: behind } : State).setEngine e
      { Engine.idle with state := .preparing, bound := some x.port }
    ((∀ d j, d ≠ e → (s.engine d).job = some j → ∀ m ∈ j.members, m.port ≠ x.port) →
      s.engineChooses e = t.takesSweep x.port) ∧
    ∀ d j m, d ≠ e → (s.engine d).job = some j → m ∈ j.members → m.port = x.port → (j.members.map Member.port).Nodup →
      s.engineChooses e = (t.dropsOut d j m x.port).takesSweep x.port

/-- The pulse codes (R132) and the analysis of a pair (R134 to R145). The correlation gathers eight chips at each index (R136),
of averages rounded half away from zero (R134). LOW is given exactly where the pair is CLIPPED, NOISY where more than half of
the floors are above 96 (R135). A launch below 512 is UNTESTABLE with nothing found. Any other launch is tested: the reflections
are those of R137 to R142, the cross level the largest of the neighbours' with the earliest of equals (R143), and the verdict and
the fault distance those of the nearest event (R144): none is GOOD; a reflection gives its class; a CROSSED event gives way to an
OPEN or SHORT at most 3 dm beyond it. A listen block's level is the largest magnitude over the four pairs (R146), and the
reference delay that of the earliest strongest index (R147). -/
def Obligations.AnalysedPair : Prop :=
  [1, 2, 3, 4, 5, 6, 7, 8].map pulseCode =
    [[1, 1, -1, 1, 1, 1, -1, -1], [1, -1, 1, 1, -1, -1, -1, 1], [1, 1, -1, -1, 1, -1, 1, 1], [1, -1, -1, 1, 1, 1, 1, -1],
     [1, 1, 1, -1, -1, 1, -1, 1], [1, -1, 1, -1, 1, 1, -1, -1], [1, 1, -1, 1, -1, -1, 1, -1], [1, -1, -1, -1, 1, -1, 1, 1]] ∧
  (∀ (x d : Int), d ≠ 0 →
    let q := roundHalfAway x d
    2 * (x - q * d).natAbs ≤ d.natAbs ∧ (2 * (x - q * d).natAbs = d.natAbs → x.natAbs ≤ (q * d).natAbs)) ∧
  (∀ (c0 c1 c2 c3 c4 c5 c6 c7 : Int) (a : List Int),
    let y := correlate [c0, c1, c2, c3, c4, c5, c6, c7] a
    y.length = a.length - 7 ∧ ∀ i, i + 7 < a.length → y[i]? = some
      (c0 * a.getD i 0 + c1 * a.getD (i + 1) 0 + c2 * a.getD (i + 2) 0 + c3 * a.getD (i + 3) 0 + c4 * a.getD (i + 4) 0 +
        c5 * a.getD (i + 5) 0 + c6 * a.getD (i + 6) 0 + c7 * a.getD (i + 7) 0)) ∧
  (∀ (code : List Int) (snap : Snapshot) (c : PairCapture),
    let r := analysePair code snap c
    let y (q : Pair) : List Int := correlate code ((atPair c.sums q).map fun x => roundHalfAway x c.completed)
    let launch := (((y c.pair).take 16).map Int.natAbs).foldl max 0
    let cross (q : Pair) : Nat := crossLevel launch (y q)
    let crossed (q : Pair) : Prop := q ≠ c.pair ∧ 400 ≤ cross q
    let dist (q : Pair) : Nat := distanceAt snap (y q) (strongestIndex 16 (y q))
    let hides (x : Reflection) (d : Nat) : Prop := 600 ≤ x.level.natAbs ∧ x.distance ≤ d + 3
    r.sound = true ∧ r.low = c.clipped ∧ r.clipped = c.clipped ∧
    (r.noisy = true ↔ c.completed < 2 * (c.floors.countP fun f => decide (96 < f))) ∧
    (c.floors ≠ [] → r.noise = (2 * c.floors.sum + c.floors.length) / (2 * c.floors.length)) ∧
    (c.floors = [] → r.noise = 0) ∧
    (launch < 512 → r.verdict = .untestable ∧ r.reflections = [] ∧ r.cross = 0 ∧ r.crossPair = c.pair) ∧
    (512 ≤ launch →
      r.verdict ≠ .untestable ∧
      r.reflections = reflectionsOf snap launch (max (4 * r.noise) ((60 * launch + 999) / 1000)) (y c.pair) ∧
      (r.crossPair ≠ c.pair ∧ r.cross = cross r.crossPair ∧
        ∀ q, q ≠ c.pair → cross q ≤ r.cross ∧ (pairNumber q < pairNumber r.crossPair → cross q < r.cross)) ∧
      (r.reflections = [] → (∀ q, ¬crossed q) → r.verdict = .good ∧ r.distance = none) ∧
      (∀ x rest, r.reflections = x :: rest → (∀ q, crossed q → x.distance ≤ dist q) →
        r.verdict = classOf x.level ∧ r.distance = some x.distance) ∧
      ∀ q, crossed q → (∀ x ∈ r.reflections, dist q < x.distance) →
        (∀ n, crossed n → dist q < dist n ∨ (dist q = dist n ∧ pairNumber q ≤ pairNumber n)) →
        ((∀ x ∈ r.reflections, ¬hides x (dist q)) → r.verdict = .crossed q ∧ r.distance = some (dist q)) ∧
        ∀ nearer x further, r.reflections = nearer ++ x :: further → hides x (dist q) →
          (∀ n ∈ nearer, ¬hides n (dist q)) → r.verdict = classOf x.level ∧ r.distance = some x.distance)) ∧
  (∀ (code : List Int) (b : Four (Vector Sample 512)),
    let y (q : Pair) : List Int := correlate code ((atPair b q).toList.map BitVec.toInt)
    (∀ q, ∀ v ∈ y q, v.natAbs ≤ blockLevel code b) ∧ ∃ q, ∃ v ∈ y q, v.natAbs = blockLevel code b) ∧
  ∀ (code sums : List Int) (n : Nat),
    let y := correlate code (sums.map fun x => roundHalfAway x n)
    referenceDelay code sums n = delayAt y 0 (strongestIndex 0 y)
end

