-- ==== Sys2Proof/Laws/State.lean ====
section
/-! SUPPORT. One lemma for each field and each update of State that leaves it, and the reads after the writes. -/

namespace Sys2Proof.Machine

variable (s : State)

@[simp] theorem State.setLane_ms (p : Port) (l : Lane) : (s.setLane p l).ms = s.ms := rfl
@[simp] theorem State.setLane_minutes (p : Port) (l : Lane) : (s.setLane p l).minutes = s.minutes := rfl
@[simp] theorem State.setLane_minuteMark (p : Port) (l : Lane) : (s.setLane p l).minuteMark = s.minuteMark := rfl
@[simp] theorem State.setLane_inReset (p : Port) (l : Lane) : (s.setLane p l).inReset = s.inReset := rfl
@[simp] theorem State.setLane_station (p : Port) (l : Lane) : (s.setLane p l).station = s.station := rfl
@[simp] theorem State.setLane_twelvePorts (p : Port) (l : Lane) : (s.setLane p l).twelvePorts = s.twelvePorts := rfl
@[simp] theorem State.setLane_autostart (p : Port) (l : Lane) : (s.setLane p l).autostart = s.autostart := rfl
@[simp] theorem State.setLane_rx (p : Port) (l : Lane) : (s.setLane p l).rx = s.rx := rfl
@[simp] theorem State.setLane_tx (p : Port) (l : Lane) : (s.setLane p l).tx = s.tx := rfl
@[simp] theorem State.setLane_lastOpened (p : Port) (l : Lane) : (s.setLane p l).lastOpened = s.lastOpened := rfl
@[simp] theorem State.setLane_collisionRun (p : Port) (l : Lane) : (s.setLane p l).collisionRun = s.collisionRun := rfl
@[simp] theorem State.setLane_coordList (p : Port) (l : Lane) : (s.setLane p l).coordList = s.coordList := rfl
@[simp] theorem State.setLane_replyList (p : Port) (l : Lane) : (s.setLane p l).replyList = s.replyList := rfl
@[simp] theorem State.setLane_noticeFlags (p : Port) (l : Lane) : (s.setLane p l).noticeFlags = s.noticeFlags := rfl
@[simp] theorem State.setLane_stationNotice (p : Port) (l : Lane) : (s.setLane p l).stationNotice = s.stationNotice := rfl
@[simp] theorem State.setLane_checkFailures (p : Port) (l : Lane) : (s.setLane p l).checkFailures = s.checkFailures := rfl
@[simp] theorem State.setLane_collisionErrors (p : Port) (l : Lane) : (s.setLane p l).collisionErrors = s.collisionErrors := rfl
@[simp] theorem State.setLane_requestsDiscarded (p : Port) (l : Lane) : (s.setLane p l).requestsDiscarded = s.requestsDiscarded := rfl
@[simp] theorem State.setLane_guards (p : Port) (l : Lane) : (s.setLane p l).guards = s.guards := rfl
@[simp] theorem State.setLane_queue (p : Port) (l : Lane) : (s.setLane p l).queue = s.queue := rfl
@[simp] theorem State.setLane_engines (p : Port) (l : Lane) : (s.setLane p l).engines = s.engines := rfl
@[simp] theorem State.setLane_calList (p : Port) (l : Lane) : (s.setLane p l).calList = s.calList := rfl
@[simp] theorem State.setLane_records (p : Port) (l : Lane) : (s.setLane p l).records = s.records := rfl
@[simp] theorem State.setLane_coupling (p : Port) (l : Lane) : (s.setLane p l).coupling = s.coupling := rfl
@[simp] theorem State.setLane_surveyInterval (p : Port) (l : Lane) : (s.setLane p l).surveyInterval = s.surveyInterval := rfl
@[simp] theorem State.setLane_surveyContinuous (p : Port) (l : Lane) : (s.setLane p l).surveyContinuous = s.surveyContinuous := rfl
@[simp] theorem State.setLane_surveyEnabled (p : Port) (l : Lane) : (s.setLane p l).surveyEnabled = s.surveyEnabled := rfl
@[simp] theorem State.setLane_surveyTimer (p : Port) (l : Lane) : (s.setLane p l).surveyTimer = s.surveyTimer := rfl
@[simp] theorem State.setLane_passSet (p : Port) (l : Lane) : (s.setLane p l).passSet = s.passSet := rfl
@[simp] theorem State.setLane_holdoffs (p : Port) (l : Lane) : (s.setLane p l).holdoffs = s.holdoffs := rfl
@[simp] theorem State.setLane_freeCount (p : Port) (l : Lane) : (s.setLane p l).freeCount = s.freeCount := rfl
@[simp] theorem State.setLane_pending (p : Port) (l : Lane) : (s.setLane p l).pending = s.pending := rfl

@[simp] theorem State.modifyLane_ms (p : Port) (f : Lane → Lane) : (s.modifyLane p f).ms = s.ms := rfl
@[simp] theorem State.modifyLane_minutes (p : Port) (f : Lane → Lane) : (s.modifyLane p f).minutes = s.minutes := rfl
@[simp] theorem State.modifyLane_minuteMark (p : Port) (f : Lane → Lane) : (s.modifyLane p f).minuteMark = s.minuteMark := rfl
@[simp] theorem State.modifyLane_inReset (p : Port) (f : Lane → Lane) : (s.modifyLane p f).inReset = s.inReset := rfl
@[simp] theorem State.modifyLane_station (p : Port) (f : Lane → Lane) : (s.modifyLane p f).station = s.station := rfl
@[simp] theorem State.modifyLane_twelvePorts (p : Port) (f : Lane → Lane) : (s.modifyLane p f).twelvePorts = s.twelvePorts := rfl
@[simp] theorem State.modifyLane_autostart (p : Port) (f : Lane → Lane) : (s.modifyLane p f).autostart = s.autostart := rfl
@[simp] theorem State.modifyLane_rx (p : Port) (f : Lane → Lane) : (s.modifyLane p f).rx = s.rx := rfl
@[simp] theorem State.modifyLane_tx (p : Port) (f : Lane → Lane) : (s.modifyLane p f).tx = s.tx := rfl
@[simp] theorem State.modifyLane_lastOpened (p : Port) (f : Lane → Lane) : (s.modifyLane p f).lastOpened = s.lastOpened := rfl
@[simp] theorem State.modifyLane_collisionRun (p : Port) (f : Lane → Lane) : (s.modifyLane p f).collisionRun = s.collisionRun := rfl
@[simp] theorem State.modifyLane_coordList (p : Port) (f : Lane → Lane) : (s.modifyLane p f).coordList = s.coordList := rfl
@[simp] theorem State.modifyLane_replyList (p : Port) (f : Lane → Lane) : (s.modifyLane p f).replyList = s.replyList := rfl
@[simp] theorem State.modifyLane_noticeFlags (p : Port) (f : Lane → Lane) : (s.modifyLane p f).noticeFlags = s.noticeFlags := rfl
@[simp] theorem State.modifyLane_stationNotice (p : Port) (f : Lane → Lane) : (s.modifyLane p f).stationNotice = s.stationNotice := rfl
@[simp] theorem State.modifyLane_checkFailures (p : Port) (f : Lane → Lane) : (s.modifyLane p f).checkFailures = s.checkFailures := rfl
@[simp] theorem State.modifyLane_collisionErrors (p : Port) (f : Lane → Lane) : (s.modifyLane p f).collisionErrors = s.collisionErrors := rfl
@[simp] theorem State.modifyLane_requestsDiscarded (p : Port) (f : Lane → Lane) : (s.modifyLane p f).requestsDiscarded = s.requestsDiscarded := rfl
@[simp] theorem State.modifyLane_guards (p : Port) (f : Lane → Lane) : (s.modifyLane p f).guards = s.guards := rfl
@[simp] theorem State.modifyLane_queue (p : Port) (f : Lane → Lane) : (s.modifyLane p f).queue = s.queue := rfl
@[simp] theorem State.modifyLane_engines (p : Port) (f : Lane → Lane) : (s.modifyLane p f).engines = s.engines := rfl
@[simp] theorem State.modifyLane_calList (p : Port) (f : Lane → Lane) : (s.modifyLane p f).calList = s.calList := rfl
@[simp] theorem State.modifyLane_records (p : Port) (f : Lane → Lane) : (s.modifyLane p f).records = s.records := rfl
@[simp] theorem State.modifyLane_coupling (p : Port) (f : Lane → Lane) : (s.modifyLane p f).coupling = s.coupling := rfl
@[simp] theorem State.modifyLane_surveyInterval (p : Port) (f : Lane → Lane) : (s.modifyLane p f).surveyInterval = s.surveyInterval := rfl
@[simp] theorem State.modifyLane_surveyContinuous (p : Port) (f : Lane → Lane) : (s.modifyLane p f).surveyContinuous = s.surveyContinuous := rfl
@[simp] theorem State.modifyLane_surveyEnabled (p : Port) (f : Lane → Lane) : (s.modifyLane p f).surveyEnabled = s.surveyEnabled := rfl
@[simp] theorem State.modifyLane_surveyTimer (p : Port) (f : Lane → Lane) : (s.modifyLane p f).surveyTimer = s.surveyTimer := rfl
@[simp] theorem State.modifyLane_passSet (p : Port) (f : Lane → Lane) : (s.modifyLane p f).passSet = s.passSet := rfl
@[simp] theorem State.modifyLane_holdoffs (p : Port) (f : Lane → Lane) : (s.modifyLane p f).holdoffs = s.holdoffs := rfl
@[simp] theorem State.modifyLane_freeCount (p : Port) (f : Lane → Lane) : (s.modifyLane p f).freeCount = s.freeCount := rfl
@[simp] theorem State.modifyLane_pending (p : Port) (f : Lane → Lane) : (s.modifyLane p f).pending = s.pending := rfl

@[simp] theorem State.setEngine_ms (e : EngineId) (g : Engine) : (s.setEngine e g).ms = s.ms := rfl
@[simp] theorem State.setEngine_minutes (e : EngineId) (g : Engine) : (s.setEngine e g).minutes = s.minutes := rfl
@[simp] theorem State.setEngine_minuteMark (e : EngineId) (g : Engine) : (s.setEngine e g).minuteMark = s.minuteMark := rfl
@[simp] theorem State.setEngine_inReset (e : EngineId) (g : Engine) : (s.setEngine e g).inReset = s.inReset := rfl
@[simp] theorem State.setEngine_station (e : EngineId) (g : Engine) : (s.setEngine e g).station = s.station := rfl
@[simp] theorem State.setEngine_twelvePorts (e : EngineId) (g : Engine) : (s.setEngine e g).twelvePorts = s.twelvePorts := rfl
@[simp] theorem State.setEngine_autostart (e : EngineId) (g : Engine) : (s.setEngine e g).autostart = s.autostart := rfl
@[simp] theorem State.setEngine_rx (e : EngineId) (g : Engine) : (s.setEngine e g).rx = s.rx := rfl
@[simp] theorem State.setEngine_tx (e : EngineId) (g : Engine) : (s.setEngine e g).tx = s.tx := rfl
@[simp] theorem State.setEngine_lastOpened (e : EngineId) (g : Engine) : (s.setEngine e g).lastOpened = s.lastOpened := rfl
@[simp] theorem State.setEngine_collisionRun (e : EngineId) (g : Engine) : (s.setEngine e g).collisionRun = s.collisionRun := rfl
@[simp] theorem State.setEngine_coordList (e : EngineId) (g : Engine) : (s.setEngine e g).coordList = s.coordList := rfl
@[simp] theorem State.setEngine_replyList (e : EngineId) (g : Engine) : (s.setEngine e g).replyList = s.replyList := rfl
@[simp] theorem State.setEngine_noticeFlags (e : EngineId) (g : Engine) : (s.setEngine e g).noticeFlags = s.noticeFlags := rfl
@[simp] theorem State.setEngine_stationNotice (e : EngineId) (g : Engine) : (s.setEngine e g).stationNotice = s.stationNotice := rfl
@[simp] theorem State.setEngine_checkFailures (e : EngineId) (g : Engine) : (s.setEngine e g).checkFailures = s.checkFailures := rfl
@[simp] theorem State.setEngine_collisionErrors (e : EngineId) (g : Engine) : (s.setEngine e g).collisionErrors = s.collisionErrors := rfl
@[simp] theorem State.setEngine_requestsDiscarded (e : EngineId) (g : Engine) : (s.setEngine e g).requestsDiscarded = s.requestsDiscarded := rfl
@[simp] theorem State.setEngine_guards (e : EngineId) (g : Engine) : (s.setEngine e g).guards = s.guards := rfl
@[simp] theorem State.setEngine_lanes (e : EngineId) (g : Engine) : (s.setEngine e g).lanes = s.lanes := rfl
@[simp] theorem State.setEngine_queue (e : EngineId) (g : Engine) : (s.setEngine e g).queue = s.queue := rfl
@[simp] theorem State.setEngine_calList (e : EngineId) (g : Engine) : (s.setEngine e g).calList = s.calList := rfl
@[simp] theorem State.setEngine_records (e : EngineId) (g : Engine) : (s.setEngine e g).records = s.records := rfl
@[simp] theorem State.setEngine_coupling (e : EngineId) (g : Engine) : (s.setEngine e g).coupling = s.coupling := rfl
@[simp] theorem State.setEngine_surveyInterval (e : EngineId) (g : Engine) : (s.setEngine e g).surveyInterval = s.surveyInterval := rfl
@[simp] theorem State.setEngine_surveyContinuous (e : EngineId) (g : Engine) : (s.setEngine e g).surveyContinuous = s.surveyContinuous := rfl
@[simp] theorem State.setEngine_surveyEnabled (e : EngineId) (g : Engine) : (s.setEngine e g).surveyEnabled = s.surveyEnabled := rfl
@[simp] theorem State.setEngine_surveyTimer (e : EngineId) (g : Engine) : (s.setEngine e g).surveyTimer = s.surveyTimer := rfl
@[simp] theorem State.setEngine_passSet (e : EngineId) (g : Engine) : (s.setEngine e g).passSet = s.passSet := rfl
@[simp] theorem State.setEngine_holdoffs (e : EngineId) (g : Engine) : (s.setEngine e g).holdoffs = s.holdoffs := rfl
@[simp] theorem State.setEngine_freeCount (e : EngineId) (g : Engine) : (s.setEngine e g).freeCount = s.freeCount := rfl
@[simp] theorem State.setEngine_pending (e : EngineId) (g : Engine) : (s.setEngine e g).pending = s.pending := rfl

@[simp] theorem State.modifyEngine_ms (e : EngineId) (f : Engine → Engine) : (s.modifyEngine e f).ms = s.ms := rfl
@[simp] theorem State.modifyEngine_minutes (e : EngineId) (f : Engine → Engine) : (s.modifyEngine e f).minutes = s.minutes := rfl
@[simp] theorem State.modifyEngine_minuteMark (e : EngineId) (f : Engine → Engine) : (s.modifyEngine e f).minuteMark = s.minuteMark := rfl
@[simp] theorem State.modifyEngine_inReset (e : EngineId) (f : Engine → Engine) : (s.modifyEngine e f).inReset = s.inReset := rfl
@[simp] theorem State.modifyEngine_station (e : EngineId) (f : Engine → Engine) : (s.modifyEngine e f).station = s.station := rfl
@[simp] theorem State.modifyEngine_twelvePorts (e : EngineId) (f : Engine → Engine) : (s.modifyEngine e f).twelvePorts = s.twelvePorts := rfl
@[simp] theorem State.modifyEngine_autostart (e : EngineId) (f : Engine → Engine) : (s.modifyEngine e f).autostart = s.autostart := rfl
@[simp] theorem State.modifyEngine_rx (e : EngineId) (f : Engine → Engine) : (s.modifyEngine e f).rx = s.rx := rfl
@[simp] theorem State.modifyEngine_tx (e : EngineId) (f : Engine → Engine) : (s.modifyEngine e f).tx = s.tx := rfl
@[simp] theorem State.modifyEngine_lastOpened (e : EngineId) (f : Engine → Engine) : (s.modifyEngine e f).lastOpened = s.lastOpened := rfl
@[simp] theorem State.modifyEngine_collisionRun (e : EngineId) (f : Engine → Engine) : (s.modifyEngine e f).collisionRun = s.collisionRun := rfl
@[simp] theorem State.modifyEngine_coordList (e : EngineId) (f : Engine → Engine) : (s.modifyEngine e f).coordList = s.coordList := rfl
@[simp] theorem State.modifyEngine_replyList (e : EngineId) (f : Engine → Engine) : (s.modifyEngine e f).replyList = s.replyList := rfl
@[simp] theorem State.modifyEngine_noticeFlags (e : EngineId) (f : Engine → Engine) : (s.modifyEngine e f).noticeFlags = s.noticeFlags := rfl
@[simp] theorem State.modifyEngine_stationNotice (e : EngineId) (f : Engine → Engine) : (s.modifyEngine e f).stationNotice = s.stationNotice := rfl
@[simp] theorem State.modifyEngine_checkFailures (e : EngineId) (f : Engine → Engine) : (s.modifyEngine e f).checkFailures = s.checkFailures := rfl
@[simp] theorem State.modifyEngine_collisionErrors (e : EngineId) (f : Engine → Engine) : (s.modifyEngine e f).collisionErrors = s.collisionErrors := rfl
@[simp] theorem State.modifyEngine_requestsDiscarded (e : EngineId) (f : Engine → Engine) : (s.modifyEngine e f).requestsDiscarded = s.requestsDiscarded := rfl
@[simp] theorem State.modifyEngine_guards (e : EngineId) (f : Engine → Engine) : (s.modifyEngine e f).guards = s.guards := rfl
@[simp] theorem State.modifyEngine_lanes (e : EngineId) (f : Engine → Engine) : (s.modifyEngine e f).lanes = s.lanes := rfl
@[simp] theorem State.modifyEngine_queue (e : EngineId) (f : Engine → Engine) : (s.modifyEngine e f).queue = s.queue := rfl
@[simp] theorem State.modifyEngine_calList (e : EngineId) (f : Engine → Engine) : (s.modifyEngine e f).calList = s.calList := rfl
@[simp] theorem State.modifyEngine_records (e : EngineId) (f : Engine → Engine) : (s.modifyEngine e f).records = s.records := rfl
@[simp] theorem State.modifyEngine_coupling (e : EngineId) (f : Engine → Engine) : (s.modifyEngine e f).coupling = s.coupling := rfl
@[simp] theorem State.modifyEngine_surveyInterval (e : EngineId) (f : Engine → Engine) : (s.modifyEngine e f).surveyInterval = s.surveyInterval := rfl
@[simp] theorem State.modifyEngine_surveyContinuous (e : EngineId) (f : Engine → Engine) : (s.modifyEngine e f).surveyContinuous = s.surveyContinuous := rfl
@[simp] theorem State.modifyEngine_surveyEnabled (e : EngineId) (f : Engine → Engine) : (s.modifyEngine e f).surveyEnabled = s.surveyEnabled := rfl
@[simp] theorem State.modifyEngine_surveyTimer (e : EngineId) (f : Engine → Engine) : (s.modifyEngine e f).surveyTimer = s.surveyTimer := rfl
@[simp] theorem State.modifyEngine_passSet (e : EngineId) (f : Engine → Engine) : (s.modifyEngine e f).passSet = s.passSet := rfl
@[simp] theorem State.modifyEngine_holdoffs (e : EngineId) (f : Engine → Engine) : (s.modifyEngine e f).holdoffs = s.holdoffs := rfl
@[simp] theorem State.modifyEngine_freeCount (e : EngineId) (f : Engine → Engine) : (s.modifyEngine e f).freeCount = s.freeCount := rfl
@[simp] theorem State.modifyEngine_pending (e : EngineId) (f : Engine → Engine) : (s.modifyEngine e f).pending = s.pending := rfl

@[simp] theorem State.setRecord_ms (p : Port) (r : CableRecord) : (s.setRecord p r).ms = s.ms := rfl
@[simp] theorem State.setRecord_minutes (p : Port) (r : CableRecord) : (s.setRecord p r).minutes = s.minutes := rfl
@[simp] theorem State.setRecord_minuteMark (p : Port) (r : CableRecord) : (s.setRecord p r).minuteMark = s.minuteMark := rfl
@[simp] theorem State.setRecord_inReset (p : Port) (r : CableRecord) : (s.setRecord p r).inReset = s.inReset := rfl
@[simp] theorem State.setRecord_station (p : Port) (r : CableRecord) : (s.setRecord p r).station = s.station := rfl
@[simp] theorem State.setRecord_twelvePorts (p : Port) (r : CableRecord) : (s.setRecord p r).twelvePorts = s.twelvePorts := rfl
@[simp] theorem State.setRecord_autostart (p : Port) (r : CableRecord) : (s.setRecord p r).autostart = s.autostart := rfl
@[simp] theorem State.setRecord_rx (p : Port) (r : CableRecord) : (s.setRecord p r).rx = s.rx := rfl
@[simp] theorem State.setRecord_tx (p : Port) (r : CableRecord) : (s.setRecord p r).tx = s.tx := rfl
@[simp] theorem State.setRecord_lastOpened (p : Port) (r : CableRecord) : (s.setRecord p r).lastOpened = s.lastOpened := rfl
@[simp] theorem State.setRecord_collisionRun (p : Port) (r : CableRecord) : (s.setRecord p r).collisionRun = s.collisionRun := rfl
@[simp] theorem State.setRecord_coordList (p : Port) (r : CableRecord) : (s.setRecord p r).coordList = s.coordList := rfl
@[simp] theorem State.setRecord_replyList (p : Port) (r : CableRecord) : (s.setRecord p r).replyList = s.replyList := rfl
@[simp] theorem State.setRecord_noticeFlags (p : Port) (r : CableRecord) : (s.setRecord p r).noticeFlags = s.noticeFlags := rfl
@[simp] theorem State.setRecord_stationNotice (p : Port) (r : CableRecord) : (s.setRecord p r).stationNotice = s.stationNotice := rfl
@[simp] theorem State.setRecord_checkFailures (p : Port) (r : CableRecord) : (s.setRecord p r).checkFailures = s.checkFailures := rfl
@[simp] theorem State.setRecord_collisionErrors (p : Port) (r : CableRecord) : (s.setRecord p r).collisionErrors = s.collisionErrors := rfl
@[simp] theorem State.setRecord_requestsDiscarded (p : Port) (r : CableRecord) : (s.setRecord p r).requestsDiscarded = s.requestsDiscarded := rfl
@[simp] theorem State.setRecord_guards (p : Port) (r : CableRecord) : (s.setRecord p r).guards = s.guards := rfl
@[simp] theorem State.setRecord_lanes (p : Port) (r : CableRecord) : (s.setRecord p r).lanes = s.lanes := rfl
@[simp] theorem State.setRecord_queue (p : Port) (r : CableRecord) : (s.setRecord p r).queue = s.queue := rfl
@[simp] theorem State.setRecord_engines (p : Port) (r : CableRecord) : (s.setRecord p r).engines = s.engines := rfl
@[simp] theorem State.setRecord_calList (p : Port) (r : CableRecord) : (s.setRecord p r).calList = s.calList := rfl
@[simp] theorem State.setRecord_coupling (p : Port) (r : CableRecord) : (s.setRecord p r).coupling = s.coupling := rfl
@[simp] theorem State.setRecord_surveyInterval (p : Port) (r : CableRecord) : (s.setRecord p r).surveyInterval = s.surveyInterval := rfl
@[simp] theorem State.setRecord_surveyContinuous (p : Port) (r : CableRecord) : (s.setRecord p r).surveyContinuous = s.surveyContinuous := rfl
@[simp] theorem State.setRecord_surveyEnabled (p : Port) (r : CableRecord) : (s.setRecord p r).surveyEnabled = s.surveyEnabled := rfl
@[simp] theorem State.setRecord_surveyTimer (p : Port) (r : CableRecord) : (s.setRecord p r).surveyTimer = s.surveyTimer := rfl
@[simp] theorem State.setRecord_passSet (p : Port) (r : CableRecord) : (s.setRecord p r).passSet = s.passSet := rfl
@[simp] theorem State.setRecord_holdoffs (p : Port) (r : CableRecord) : (s.setRecord p r).holdoffs = s.holdoffs := rfl
@[simp] theorem State.setRecord_freeCount (p : Port) (r : CableRecord) : (s.setRecord p r).freeCount = s.freeCount := rfl
@[simp] theorem State.setRecord_pending (p : Port) (r : CableRecord) : (s.setRecord p r).pending = s.pending := rfl

@[simp] theorem State.setHoldoff_ms (p : Port) (h : Option Ms) : (s.setHoldoff p h).ms = s.ms := rfl
@[simp] theorem State.setHoldoff_minutes (p : Port) (h : Option Ms) : (s.setHoldoff p h).minutes = s.minutes := rfl
@[simp] theorem State.setHoldoff_minuteMark (p : Port) (h : Option Ms) : (s.setHoldoff p h).minuteMark = s.minuteMark := rfl
@[simp] theorem State.setHoldoff_inReset (p : Port) (h : Option Ms) : (s.setHoldoff p h).inReset = s.inReset := rfl
@[simp] theorem State.setHoldoff_station (p : Port) (h : Option Ms) : (s.setHoldoff p h).station = s.station := rfl
@[simp] theorem State.setHoldoff_twelvePorts (p : Port) (h : Option Ms) : (s.setHoldoff p h).twelvePorts = s.twelvePorts := rfl
@[simp] theorem State.setHoldoff_autostart (p : Port) (h : Option Ms) : (s.setHoldoff p h).autostart = s.autostart := rfl
@[simp] theorem State.setHoldoff_rx (p : Port) (h : Option Ms) : (s.setHoldoff p h).rx = s.rx := rfl
@[simp] theorem State.setHoldoff_tx (p : Port) (h : Option Ms) : (s.setHoldoff p h).tx = s.tx := rfl
@[simp] theorem State.setHoldoff_lastOpened (p : Port) (h : Option Ms) : (s.setHoldoff p h).lastOpened = s.lastOpened := rfl
@[simp] theorem State.setHoldoff_collisionRun (p : Port) (h : Option Ms) : (s.setHoldoff p h).collisionRun = s.collisionRun := rfl
@[simp] theorem State.setHoldoff_coordList (p : Port) (h : Option Ms) : (s.setHoldoff p h).coordList = s.coordList := rfl
@[simp] theorem State.setHoldoff_replyList (p : Port) (h : Option Ms) : (s.setHoldoff p h).replyList = s.replyList := rfl
@[simp] theorem State.setHoldoff_noticeFlags (p : Port) (h : Option Ms) : (s.setHoldoff p h).noticeFlags = s.noticeFlags := rfl
@[simp] theorem State.setHoldoff_stationNotice (p : Port) (h : Option Ms) : (s.setHoldoff p h).stationNotice = s.stationNotice := rfl
@[simp] theorem State.setHoldoff_checkFailures (p : Port) (h : Option Ms) : (s.setHoldoff p h).checkFailures = s.checkFailures := rfl
@[simp] theorem State.setHoldoff_collisionErrors (p : Port) (h : Option Ms) : (s.setHoldoff p h).collisionErrors = s.collisionErrors := rfl
@[simp] theorem State.setHoldoff_requestsDiscarded (p : Port) (h : Option Ms) : (s.setHoldoff p h).requestsDiscarded = s.requestsDiscarded := rfl
@[simp] theorem State.setHoldoff_guards (p : Port) (h : Option Ms) : (s.setHoldoff p h).guards = s.guards := rfl
@[simp] theorem State.setHoldoff_lanes (p : Port) (h : Option Ms) : (s.setHoldoff p h).lanes = s.lanes := rfl
@[simp] theorem State.setHoldoff_queue (p : Port) (h : Option Ms) : (s.setHoldoff p h).queue = s.queue := rfl
@[simp] theorem State.setHoldoff_engines (p : Port) (h : Option Ms) : (s.setHoldoff p h).engines = s.engines := rfl
@[simp] theorem State.setHoldoff_calList (p : Port) (h : Option Ms) : (s.setHoldoff p h).calList = s.calList := rfl
@[simp] theorem State.setHoldoff_records (p : Port) (h : Option Ms) : (s.setHoldoff p h).records = s.records := rfl
@[simp] theorem State.setHoldoff_coupling (p : Port) (h : Option Ms) : (s.setHoldoff p h).coupling = s.coupling := rfl
@[simp] theorem State.setHoldoff_surveyInterval (p : Port) (h : Option Ms) : (s.setHoldoff p h).surveyInterval = s.surveyInterval := rfl
@[simp] theorem State.setHoldoff_surveyContinuous (p : Port) (h : Option Ms) : (s.setHoldoff p h).surveyContinuous = s.surveyContinuous := rfl
@[simp] theorem State.setHoldoff_surveyEnabled (p : Port) (h : Option Ms) : (s.setHoldoff p h).surveyEnabled = s.surveyEnabled := rfl
@[simp] theorem State.setHoldoff_surveyTimer (p : Port) (h : Option Ms) : (s.setHoldoff p h).surveyTimer = s.surveyTimer := rfl
@[simp] theorem State.setHoldoff_passSet (p : Port) (h : Option Ms) : (s.setHoldoff p h).passSet = s.passSet := rfl
@[simp] theorem State.setHoldoff_freeCount (p : Port) (h : Option Ms) : (s.setHoldoff p h).freeCount = s.freeCount := rfl
@[simp] theorem State.setHoldoff_pending (p : Port) (h : Option Ms) : (s.setHoldoff p h).pending = s.pending := rfl

@[simp] theorem State.modifyEntry_ms (p : Port) (f : Entry → Entry) : (s.modifyEntry p f).ms = s.ms := rfl
@[simp] theorem State.modifyEntry_minutes (p : Port) (f : Entry → Entry) : (s.modifyEntry p f).minutes = s.minutes := rfl
@[simp] theorem State.modifyEntry_minuteMark (p : Port) (f : Entry → Entry) : (s.modifyEntry p f).minuteMark = s.minuteMark := rfl
@[simp] theorem State.modifyEntry_inReset (p : Port) (f : Entry → Entry) : (s.modifyEntry p f).inReset = s.inReset := rfl
@[simp] theorem State.modifyEntry_station (p : Port) (f : Entry → Entry) : (s.modifyEntry p f).station = s.station := rfl
@[simp] theorem State.modifyEntry_twelvePorts (p : Port) (f : Entry → Entry) : (s.modifyEntry p f).twelvePorts = s.twelvePorts := rfl
@[simp] theorem State.modifyEntry_autostart (p : Port) (f : Entry → Entry) : (s.modifyEntry p f).autostart = s.autostart := rfl
@[simp] theorem State.modifyEntry_rx (p : Port) (f : Entry → Entry) : (s.modifyEntry p f).rx = s.rx := rfl
@[simp] theorem State.modifyEntry_tx (p : Port) (f : Entry → Entry) : (s.modifyEntry p f).tx = s.tx := rfl
@[simp] theorem State.modifyEntry_lastOpened (p : Port) (f : Entry → Entry) : (s.modifyEntry p f).lastOpened = s.lastOpened := rfl
@[simp] theorem State.modifyEntry_collisionRun (p : Port) (f : Entry → Entry) : (s.modifyEntry p f).collisionRun = s.collisionRun := rfl
@[simp] theorem State.modifyEntry_coordList (p : Port) (f : Entry → Entry) : (s.modifyEntry p f).coordList = s.coordList := rfl
@[simp] theorem State.modifyEntry_replyList (p : Port) (f : Entry → Entry) : (s.modifyEntry p f).replyList = s.replyList := rfl
@[simp] theorem State.modifyEntry_noticeFlags (p : Port) (f : Entry → Entry) : (s.modifyEntry p f).noticeFlags = s.noticeFlags := rfl
@[simp] theorem State.modifyEntry_stationNotice (p : Port) (f : Entry → Entry) : (s.modifyEntry p f).stationNotice = s.stationNotice := rfl
@[simp] theorem State.modifyEntry_checkFailures (p : Port) (f : Entry → Entry) : (s.modifyEntry p f).checkFailures = s.checkFailures := rfl
@[simp] theorem State.modifyEntry_collisionErrors (p : Port) (f : Entry → Entry) : (s.modifyEntry p f).collisionErrors = s.collisionErrors := rfl
@[simp] theorem State.modifyEntry_requestsDiscarded (p : Port) (f : Entry → Entry) : (s.modifyEntry p f).requestsDiscarded = s.requestsDiscarded := rfl
@[simp] theorem State.modifyEntry_guards (p : Port) (f : Entry → Entry) : (s.modifyEntry p f).guards = s.guards := rfl
@[simp] theorem State.modifyEntry_lanes (p : Port) (f : Entry → Entry) : (s.modifyEntry p f).lanes = s.lanes := rfl
@[simp] theorem State.modifyEntry_engines (p : Port) (f : Entry → Entry) : (s.modifyEntry p f).engines = s.engines := rfl
@[simp] theorem State.modifyEntry_calList (p : Port) (f : Entry → Entry) : (s.modifyEntry p f).calList = s.calList := rfl
@[simp] theorem State.modifyEntry_records (p : Port) (f : Entry → Entry) : (s.modifyEntry p f).records = s.records := rfl
@[simp] theorem State.modifyEntry_coupling (p : Port) (f : Entry → Entry) : (s.modifyEntry p f).coupling = s.coupling := rfl
@[simp] theorem State.modifyEntry_surveyInterval (p : Port) (f : Entry → Entry) : (s.modifyEntry p f).surveyInterval = s.surveyInterval := rfl
@[simp] theorem State.modifyEntry_surveyContinuous (p : Port) (f : Entry → Entry) : (s.modifyEntry p f).surveyContinuous = s.surveyContinuous := rfl
@[simp] theorem State.modifyEntry_surveyEnabled (p : Port) (f : Entry → Entry) : (s.modifyEntry p f).surveyEnabled = s.surveyEnabled := rfl
@[simp] theorem State.modifyEntry_surveyTimer (p : Port) (f : Entry → Entry) : (s.modifyEntry p f).surveyTimer = s.surveyTimer := rfl
@[simp] theorem State.modifyEntry_passSet (p : Port) (f : Entry → Entry) : (s.modifyEntry p f).passSet = s.passSet := rfl
@[simp] theorem State.modifyEntry_holdoffs (p : Port) (f : Entry → Entry) : (s.modifyEntry p f).holdoffs = s.holdoffs := rfl
@[simp] theorem State.modifyEntry_freeCount (p : Port) (f : Entry → Entry) : (s.modifyEntry p f).freeCount = s.freeCount := rfl
@[simp] theorem State.modifyEntry_pending (p : Port) (f : Entry → Entry) : (s.modifyEntry p f).pending = s.pending := rfl

@[simp] theorem State.post_ms (p : Port) (f : ChangeFlag) : (s.post p f).ms = s.ms := rfl
@[simp] theorem State.post_minutes (p : Port) (f : ChangeFlag) : (s.post p f).minutes = s.minutes := rfl
@[simp] theorem State.post_minuteMark (p : Port) (f : ChangeFlag) : (s.post p f).minuteMark = s.minuteMark := rfl
@[simp] theorem State.post_inReset (p : Port) (f : ChangeFlag) : (s.post p f).inReset = s.inReset := rfl
@[simp] theorem State.post_station (p : Port) (f : ChangeFlag) : (s.post p f).station = s.station := rfl
@[simp] theorem State.post_twelvePorts (p : Port) (f : ChangeFlag) : (s.post p f).twelvePorts = s.twelvePorts := rfl
@[simp] theorem State.post_autostart (p : Port) (f : ChangeFlag) : (s.post p f).autostart = s.autostart := rfl
@[simp] theorem State.post_rx (p : Port) (f : ChangeFlag) : (s.post p f).rx = s.rx := rfl
@[simp] theorem State.post_tx (p : Port) (f : ChangeFlag) : (s.post p f).tx = s.tx := rfl
@[simp] theorem State.post_lastOpened (p : Port) (f : ChangeFlag) : (s.post p f).lastOpened = s.lastOpened := rfl
@[simp] theorem State.post_collisionRun (p : Port) (f : ChangeFlag) : (s.post p f).collisionRun = s.collisionRun := rfl
@[simp] theorem State.post_coordList (p : Port) (f : ChangeFlag) : (s.post p f).coordList = s.coordList := rfl
@[simp] theorem State.post_replyList (p : Port) (f : ChangeFlag) : (s.post p f).replyList = s.replyList := rfl
@[simp] theorem State.post_stationNotice (p : Port) (f : ChangeFlag) : (s.post p f).stationNotice = s.stationNotice := rfl
@[simp] theorem State.post_checkFailures (p : Port) (f : ChangeFlag) : (s.post p f).checkFailures = s.checkFailures := rfl
@[simp] theorem State.post_collisionErrors (p : Port) (f : ChangeFlag) : (s.post p f).collisionErrors = s.collisionErrors := rfl
@[simp] theorem State.post_requestsDiscarded (p : Port) (f : ChangeFlag) : (s.post p f).requestsDiscarded = s.requestsDiscarded := rfl
@[simp] theorem State.post_guards (p : Port) (f : ChangeFlag) : (s.post p f).guards = s.guards := rfl
@[simp] theorem State.post_lanes (p : Port) (f : ChangeFlag) : (s.post p f).lanes = s.lanes := rfl
@[simp] theorem State.post_queue (p : Port) (f : ChangeFlag) : (s.post p f).queue = s.queue := rfl
@[simp] theorem State.post_engines (p : Port) (f : ChangeFlag) : (s.post p f).engines = s.engines := rfl
@[simp] theorem State.post_calList (p : Port) (f : ChangeFlag) : (s.post p f).calList = s.calList := rfl
@[simp] theorem State.post_records (p : Port) (f : ChangeFlag) : (s.post p f).records = s.records := rfl
@[simp] theorem State.post_coupling (p : Port) (f : ChangeFlag) : (s.post p f).coupling = s.coupling := rfl
@[simp] theorem State.post_surveyInterval (p : Port) (f : ChangeFlag) : (s.post p f).surveyInterval = s.surveyInterval := rfl
@[simp] theorem State.post_surveyContinuous (p : Port) (f : ChangeFlag) : (s.post p f).surveyContinuous = s.surveyContinuous := rfl
@[simp] theorem State.post_surveyEnabled (p : Port) (f : ChangeFlag) : (s.post p f).surveyEnabled = s.surveyEnabled := rfl
@[simp] theorem State.post_surveyTimer (p : Port) (f : ChangeFlag) : (s.post p f).surveyTimer = s.surveyTimer := rfl
@[simp] theorem State.post_passSet (p : Port) (f : ChangeFlag) : (s.post p f).passSet = s.passSet := rfl
@[simp] theorem State.post_holdoffs (p : Port) (f : ChangeFlag) : (s.post p f).holdoffs = s.holdoffs := rfl
@[simp] theorem State.post_freeCount (p : Port) (f : ChangeFlag) : (s.post p f).freeCount = s.freeCount := rfl
@[simp] theorem State.post_pending (p : Port) (f : ChangeFlag) : (s.post p f).pending = s.pending := rfl

@[simp] theorem State.postStation_ms (r : StationNotice) : (s.postStation r).ms = s.ms := rfl
@[simp] theorem State.postStation_minutes (r : StationNotice) : (s.postStation r).minutes = s.minutes := rfl
@[simp] theorem State.postStation_minuteMark (r : StationNotice) : (s.postStation r).minuteMark = s.minuteMark := rfl
@[simp] theorem State.postStation_inReset (r : StationNotice) : (s.postStation r).inReset = s.inReset := rfl
@[simp] theorem State.postStation_station (r : StationNotice) : (s.postStation r).station = s.station := rfl
@[simp] theorem State.postStation_twelvePorts (r : StationNotice) : (s.postStation r).twelvePorts = s.twelvePorts := rfl
@[simp] theorem State.postStation_autostart (r : StationNotice) : (s.postStation r).autostart = s.autostart := rfl
@[simp] theorem State.postStation_rx (r : StationNotice) : (s.postStation r).rx = s.rx := rfl
@[simp] theorem State.postStation_tx (r : StationNotice) : (s.postStation r).tx = s.tx := rfl
@[simp] theorem State.postStation_lastOpened (r : StationNotice) : (s.postStation r).lastOpened = s.lastOpened := rfl
@[simp] theorem State.postStation_collisionRun (r : StationNotice) : (s.postStation r).collisionRun = s.collisionRun := rfl
@[simp] theorem State.postStation_coordList (r : StationNotice) : (s.postStation r).coordList = s.coordList := rfl
@[simp] theorem State.postStation_replyList (r : StationNotice) : (s.postStation r).replyList = s.replyList := rfl
@[simp] theorem State.postStation_noticeFlags (r : StationNotice) : (s.postStation r).noticeFlags = s.noticeFlags := rfl
@[simp] theorem State.postStation_checkFailures (r : StationNotice) : (s.postStation r).checkFailures = s.checkFailures := rfl
@[simp] theorem State.postStation_collisionErrors (r : StationNotice) : (s.postStation r).collisionErrors = s.collisionErrors := rfl
@[simp] theorem State.postStation_requestsDiscarded (r : StationNotice) : (s.postStation r).requestsDiscarded = s.requestsDiscarded := rfl
@[simp] theorem State.postStation_guards (r : StationNotice) : (s.postStation r).guards = s.guards := rfl
@[simp] theorem State.postStation_lanes (r : StationNotice) : (s.postStation r).lanes = s.lanes := rfl
@[simp] theorem State.postStation_queue (r : StationNotice) : (s.postStation r).queue = s.queue := rfl
@[simp] theorem State.postStation_engines (r : StationNotice) : (s.postStation r).engines = s.engines := rfl
@[simp] theorem State.postStation_calList (r : StationNotice) : (s.postStation r).calList = s.calList := rfl
@[simp] theorem State.postStation_records (r : StationNotice) : (s.postStation r).records = s.records := rfl
@[simp] theorem State.postStation_coupling (r : StationNotice) : (s.postStation r).coupling = s.coupling := rfl
@[simp] theorem State.postStation_surveyInterval (r : StationNotice) : (s.postStation r).surveyInterval = s.surveyInterval := rfl
@[simp] theorem State.postStation_surveyContinuous (r : StationNotice) : (s.postStation r).surveyContinuous = s.surveyContinuous := rfl
@[simp] theorem State.postStation_surveyEnabled (r : StationNotice) : (s.postStation r).surveyEnabled = s.surveyEnabled := rfl
@[simp] theorem State.postStation_surveyTimer (r : StationNotice) : (s.postStation r).surveyTimer = s.surveyTimer := rfl
@[simp] theorem State.postStation_passSet (r : StationNotice) : (s.postStation r).passSet = s.passSet := rfl
@[simp] theorem State.postStation_holdoffs (r : StationNotice) : (s.postStation r).holdoffs = s.holdoffs := rfl
@[simp] theorem State.postStation_freeCount (r : StationNotice) : (s.postStation r).freeCount = s.freeCount := rfl
@[simp] theorem State.postStation_pending (r : StationNotice) : (s.postStation r).pending = s.pending := rfl

@[simp] theorem State.place_ms (r : ReplyEntry) : (s.place r).ms = s.ms := rfl
@[simp] theorem State.place_minutes (r : ReplyEntry) : (s.place r).minutes = s.minutes := rfl
@[simp] theorem State.place_minuteMark (r : ReplyEntry) : (s.place r).minuteMark = s.minuteMark := rfl
@[simp] theorem State.place_inReset (r : ReplyEntry) : (s.place r).inReset = s.inReset := rfl
@[simp] theorem State.place_station (r : ReplyEntry) : (s.place r).station = s.station := rfl
@[simp] theorem State.place_twelvePorts (r : ReplyEntry) : (s.place r).twelvePorts = s.twelvePorts := rfl
@[simp] theorem State.place_autostart (r : ReplyEntry) : (s.place r).autostart = s.autostart := rfl
@[simp] theorem State.place_rx (r : ReplyEntry) : (s.place r).rx = s.rx := rfl
@[simp] theorem State.place_tx (r : ReplyEntry) : (s.place r).tx = s.tx := rfl
@[simp] theorem State.place_lastOpened (r : ReplyEntry) : (s.place r).lastOpened = s.lastOpened := rfl
@[simp] theorem State.place_collisionRun (r : ReplyEntry) : (s.place r).collisionRun = s.collisionRun := rfl
@[simp] theorem State.place_coordList (r : ReplyEntry) : (s.place r).coordList = s.coordList := rfl
@[simp] theorem State.place_noticeFlags (r : ReplyEntry) : (s.place r).noticeFlags = s.noticeFlags := rfl
@[simp] theorem State.place_stationNotice (r : ReplyEntry) : (s.place r).stationNotice = s.stationNotice := rfl
@[simp] theorem State.place_checkFailures (r : ReplyEntry) : (s.place r).checkFailures = s.checkFailures := rfl
@[simp] theorem State.place_collisionErrors (r : ReplyEntry) : (s.place r).collisionErrors = s.collisionErrors := rfl
@[simp] theorem State.place_requestsDiscarded (r : ReplyEntry) : (s.place r).requestsDiscarded = s.requestsDiscarded := rfl
@[simp] theorem State.place_guards (r : ReplyEntry) : (s.place r).guards = s.guards := rfl
@[simp] theorem State.place_lanes (r : ReplyEntry) : (s.place r).lanes = s.lanes := rfl
@[simp] theorem State.place_queue (r : ReplyEntry) : (s.place r).queue = s.queue := rfl
@[simp] theorem State.place_engines (r : ReplyEntry) : (s.place r).engines = s.engines := rfl
@[simp] theorem State.place_calList (r : ReplyEntry) : (s.place r).calList = s.calList := rfl
@[simp] theorem State.place_records (r : ReplyEntry) : (s.place r).records = s.records := rfl
@[simp] theorem State.place_coupling (r : ReplyEntry) : (s.place r).coupling = s.coupling := rfl
@[simp] theorem State.place_surveyInterval (r : ReplyEntry) : (s.place r).surveyInterval = s.surveyInterval := rfl
@[simp] theorem State.place_surveyContinuous (r : ReplyEntry) : (s.place r).surveyContinuous = s.surveyContinuous := rfl
@[simp] theorem State.place_surveyEnabled (r : ReplyEntry) : (s.place r).surveyEnabled = s.surveyEnabled := rfl
@[simp] theorem State.place_surveyTimer (r : ReplyEntry) : (s.place r).surveyTimer = s.surveyTimer := rfl
@[simp] theorem State.place_passSet (r : ReplyEntry) : (s.place r).passSet = s.passSet := rfl
@[simp] theorem State.place_holdoffs (r : ReplyEntry) : (s.place r).holdoffs = s.holdoffs := rfl
@[simp] theorem State.place_freeCount (r : ReplyEntry) : (s.place r).freeCount = s.freeCount := rfl
@[simp] theorem State.place_pending (r : ReplyEntry) : (s.place r).pending = s.pending := rfl

@[simp] theorem State.answer_ms (k : RequestKind) (v : Decision) : (s.answer k v).ms = s.ms := rfl
@[simp] theorem State.answer_minutes (k : RequestKind) (v : Decision) : (s.answer k v).minutes = s.minutes := rfl
@[simp] theorem State.answer_minuteMark (k : RequestKind) (v : Decision) : (s.answer k v).minuteMark = s.minuteMark := rfl
@[simp] theorem State.answer_inReset (k : RequestKind) (v : Decision) : (s.answer k v).inReset = s.inReset := rfl
@[simp] theorem State.answer_station (k : RequestKind) (v : Decision) : (s.answer k v).station = s.station := rfl
@[simp] theorem State.answer_twelvePorts (k : RequestKind) (v : Decision) : (s.answer k v).twelvePorts = s.twelvePorts := rfl
@[simp] theorem State.answer_autostart (k : RequestKind) (v : Decision) : (s.answer k v).autostart = s.autostart := rfl
@[simp] theorem State.answer_rx (k : RequestKind) (v : Decision) : (s.answer k v).rx = s.rx := rfl
@[simp] theorem State.answer_tx (k : RequestKind) (v : Decision) : (s.answer k v).tx = s.tx := rfl
@[simp] theorem State.answer_lastOpened (k : RequestKind) (v : Decision) : (s.answer k v).lastOpened = s.lastOpened := rfl
@[simp] theorem State.answer_collisionRun (k : RequestKind) (v : Decision) : (s.answer k v).collisionRun = s.collisionRun := rfl
@[simp] theorem State.answer_coordList (k : RequestKind) (v : Decision) : (s.answer k v).coordList = s.coordList := rfl
@[simp] theorem State.answer_noticeFlags (k : RequestKind) (v : Decision) : (s.answer k v).noticeFlags = s.noticeFlags := rfl
@[simp] theorem State.answer_stationNotice (k : RequestKind) (v : Decision) : (s.answer k v).stationNotice = s.stationNotice := rfl
@[simp] theorem State.answer_checkFailures (k : RequestKind) (v : Decision) : (s.answer k v).checkFailures = s.checkFailures := rfl
@[simp] theorem State.answer_collisionErrors (k : RequestKind) (v : Decision) : (s.answer k v).collisionErrors = s.collisionErrors := rfl
@[simp] theorem State.answer_requestsDiscarded (k : RequestKind) (v : Decision) : (s.answer k v).requestsDiscarded = s.requestsDiscarded := rfl
@[simp] theorem State.answer_guards (k : RequestKind) (v : Decision) : (s.answer k v).guards = s.guards := rfl
@[simp] theorem State.answer_lanes (k : RequestKind) (v : Decision) : (s.answer k v).lanes = s.lanes := rfl
@[simp] theorem State.answer_queue (k : RequestKind) (v : Decision) : (s.answer k v).queue = s.queue := rfl
@[simp] theorem State.answer_engines (k : RequestKind) (v : Decision) : (s.answer k v).engines = s.engines := rfl
@[simp] theorem State.answer_calList (k : RequestKind) (v : Decision) : (s.answer k v).calList = s.calList := rfl
@[simp] theorem State.answer_records (k : RequestKind) (v : Decision) : (s.answer k v).records = s.records := rfl
@[simp] theorem State.answer_coupling (k : RequestKind) (v : Decision) : (s.answer k v).coupling = s.coupling := rfl
@[simp] theorem State.answer_surveyInterval (k : RequestKind) (v : Decision) : (s.answer k v).surveyInterval = s.surveyInterval := rfl
@[simp] theorem State.answer_surveyContinuous (k : RequestKind) (v : Decision) : (s.answer k v).surveyContinuous = s.surveyContinuous := rfl
@[simp] theorem State.answer_surveyEnabled (k : RequestKind) (v : Decision) : (s.answer k v).surveyEnabled = s.surveyEnabled := rfl
@[simp] theorem State.answer_surveyTimer (k : RequestKind) (v : Decision) : (s.answer k v).surveyTimer = s.surveyTimer := rfl
@[simp] theorem State.answer_passSet (k : RequestKind) (v : Decision) : (s.answer k v).passSet = s.passSet := rfl
@[simp] theorem State.answer_holdoffs (k : RequestKind) (v : Decision) : (s.answer k v).holdoffs = s.holdoffs := rfl
@[simp] theorem State.answer_freeCount (k : RequestKind) (v : Decision) : (s.answer k v).freeCount = s.freeCount := rfl
@[simp] theorem State.answer_pending (k : RequestKind) (v : Decision) : (s.answer k v).pending = s.pending := rfl

@[simp] theorem State.countCheckFailure_ms : (s.countCheckFailure).ms = s.ms := rfl
@[simp] theorem State.countCheckFailure_minutes : (s.countCheckFailure).minutes = s.minutes := rfl
@[simp] theorem State.countCheckFailure_minuteMark : (s.countCheckFailure).minuteMark = s.minuteMark := rfl
@[simp] theorem State.countCheckFailure_inReset : (s.countCheckFailure).inReset = s.inReset := rfl
@[simp] theorem State.countCheckFailure_station : (s.countCheckFailure).station = s.station := rfl
@[simp] theorem State.countCheckFailure_twelvePorts : (s.countCheckFailure).twelvePorts = s.twelvePorts := rfl
@[simp] theorem State.countCheckFailure_autostart : (s.countCheckFailure).autostart = s.autostart := rfl
@[simp] theorem State.countCheckFailure_rx : (s.countCheckFailure).rx = s.rx := rfl
@[simp] theorem State.countCheckFailure_tx : (s.countCheckFailure).tx = s.tx := rfl
@[simp] theorem State.countCheckFailure_lastOpened : (s.countCheckFailure).lastOpened = s.lastOpened := rfl
@[simp] theorem State.countCheckFailure_collisionRun : (s.countCheckFailure).collisionRun = s.collisionRun := rfl
@[simp] theorem State.countCheckFailure_coordList : (s.countCheckFailure).coordList = s.coordList := rfl
@[simp] theorem State.countCheckFailure_replyList : (s.countCheckFailure).replyList = s.replyList := rfl
@[simp] theorem State.countCheckFailure_noticeFlags : (s.countCheckFailure).noticeFlags = s.noticeFlags := rfl
@[simp] theorem State.countCheckFailure_stationNotice : (s.countCheckFailure).stationNotice = s.stationNotice := rfl
@[simp] theorem State.countCheckFailure_collisionErrors : (s.countCheckFailure).collisionErrors = s.collisionErrors := rfl
@[simp] theorem State.countCheckFailure_requestsDiscarded : (s.countCheckFailure).requestsDiscarded = s.requestsDiscarded := rfl
@[simp] theorem State.countCheckFailure_guards : (s.countCheckFailure).guards = s.guards := rfl
@[simp] theorem State.countCheckFailure_lanes : (s.countCheckFailure).lanes = s.lanes := rfl
@[simp] theorem State.countCheckFailure_queue : (s.countCheckFailure).queue = s.queue := rfl
@[simp] theorem State.countCheckFailure_engines : (s.countCheckFailure).engines = s.engines := rfl
@[simp] theorem State.countCheckFailure_calList : (s.countCheckFailure).calList = s.calList := rfl
@[simp] theorem State.countCheckFailure_records : (s.countCheckFailure).records = s.records := rfl
@[simp] theorem State.countCheckFailure_coupling : (s.countCheckFailure).coupling = s.coupling := rfl
@[simp] theorem State.countCheckFailure_surveyInterval : (s.countCheckFailure).surveyInterval = s.surveyInterval := rfl
@[simp] theorem State.countCheckFailure_surveyContinuous : (s.countCheckFailure).surveyContinuous = s.surveyContinuous := rfl
@[simp] theorem State.countCheckFailure_surveyEnabled : (s.countCheckFailure).surveyEnabled = s.surveyEnabled := rfl
@[simp] theorem State.countCheckFailure_surveyTimer : (s.countCheckFailure).surveyTimer = s.surveyTimer := rfl
@[simp] theorem State.countCheckFailure_passSet : (s.countCheckFailure).passSet = s.passSet := rfl
@[simp] theorem State.countCheckFailure_holdoffs : (s.countCheckFailure).holdoffs = s.holdoffs := rfl
@[simp] theorem State.countCheckFailure_freeCount : (s.countCheckFailure).freeCount = s.freeCount := rfl
@[simp] theorem State.countCheckFailure_pending : (s.countCheckFailure).pending = s.pending := rfl

@[simp] theorem State.countCollisionError_ms : (s.countCollisionError).ms = s.ms := rfl
@[simp] theorem State.countCollisionError_minutes : (s.countCollisionError).minutes = s.minutes := rfl
@[simp] theorem State.countCollisionError_minuteMark : (s.countCollisionError).minuteMark = s.minuteMark := rfl
@[simp] theorem State.countCollisionError_inReset : (s.countCollisionError).inReset = s.inReset := rfl
@[simp] theorem State.countCollisionError_station : (s.countCollisionError).station = s.station := rfl
@[simp] theorem State.countCollisionError_twelvePorts : (s.countCollisionError).twelvePorts = s.twelvePorts := rfl
@[simp] theorem State.countCollisionError_autostart : (s.countCollisionError).autostart = s.autostart := rfl
@[simp] theorem State.countCollisionError_rx : (s.countCollisionError).rx = s.rx := rfl
@[simp] theorem State.countCollisionError_tx : (s.countCollisionError).tx = s.tx := rfl
@[simp] theorem State.countCollisionError_lastOpened : (s.countCollisionError).lastOpened = s.lastOpened := rfl
@[simp] theorem State.countCollisionError_collisionRun : (s.countCollisionError).collisionRun = s.collisionRun := rfl
@[simp] theorem State.countCollisionError_coordList : (s.countCollisionError).coordList = s.coordList := rfl
@[simp] theorem State.countCollisionError_replyList : (s.countCollisionError).replyList = s.replyList := rfl
@[simp] theorem State.countCollisionError_noticeFlags : (s.countCollisionError).noticeFlags = s.noticeFlags := rfl
@[simp] theorem State.countCollisionError_stationNotice : (s.countCollisionError).stationNotice = s.stationNotice := rfl
@[simp] theorem State.countCollisionError_checkFailures : (s.countCollisionError).checkFailures = s.checkFailures := rfl
@[simp] theorem State.countCollisionError_requestsDiscarded : (s.countCollisionError).requestsDiscarded = s.requestsDiscarded := rfl
@[simp] theorem State.countCollisionError_guards : (s.countCollisionError).guards = s.guards := rfl
@[simp] theorem State.countCollisionError_lanes : (s.countCollisionError).lanes = s.lanes := rfl
@[simp] theorem State.countCollisionError_queue : (s.countCollisionError).queue = s.queue := rfl
@[simp] theorem State.countCollisionError_engines : (s.countCollisionError).engines = s.engines := rfl
@[simp] theorem State.countCollisionError_calList : (s.countCollisionError).calList = s.calList := rfl
@[simp] theorem State.countCollisionError_records : (s.countCollisionError).records = s.records := rfl
@[simp] theorem State.countCollisionError_coupling : (s.countCollisionError).coupling = s.coupling := rfl
@[simp] theorem State.countCollisionError_surveyInterval : (s.countCollisionError).surveyInterval = s.surveyInterval := rfl
@[simp] theorem State.countCollisionError_surveyContinuous : (s.countCollisionError).surveyContinuous = s.surveyContinuous := rfl
@[simp] theorem State.countCollisionError_surveyEnabled : (s.countCollisionError).surveyEnabled = s.surveyEnabled := rfl
@[simp] theorem State.countCollisionError_surveyTimer : (s.countCollisionError).surveyTimer = s.surveyTimer := rfl
@[simp] theorem State.countCollisionError_passSet : (s.countCollisionError).passSet = s.passSet := rfl
@[simp] theorem State.countCollisionError_holdoffs : (s.countCollisionError).holdoffs = s.holdoffs := rfl
@[simp] theorem State.countCollisionError_freeCount : (s.countCollisionError).freeCount = s.freeCount := rfl
@[simp] theorem State.countCollisionError_pending : (s.countCollisionError).pending = s.pending := rfl

@[simp] theorem State.countDiscard_ms : (s.countDiscard).ms = s.ms := rfl
@[simp] theorem State.countDiscard_minutes : (s.countDiscard).minutes = s.minutes := rfl
@[simp] theorem State.countDiscard_minuteMark : (s.countDiscard).minuteMark = s.minuteMark := rfl
@[simp] theorem State.countDiscard_inReset : (s.countDiscard).inReset = s.inReset := rfl
@[simp] theorem State.countDiscard_station : (s.countDiscard).station = s.station := rfl
@[simp] theorem State.countDiscard_twelvePorts : (s.countDiscard).twelvePorts = s.twelvePorts := rfl
@[simp] theorem State.countDiscard_autostart : (s.countDiscard).autostart = s.autostart := rfl
@[simp] theorem State.countDiscard_rx : (s.countDiscard).rx = s.rx := rfl
@[simp] theorem State.countDiscard_tx : (s.countDiscard).tx = s.tx := rfl
@[simp] theorem State.countDiscard_lastOpened : (s.countDiscard).lastOpened = s.lastOpened := rfl
@[simp] theorem State.countDiscard_collisionRun : (s.countDiscard).collisionRun = s.collisionRun := rfl
@[simp] theorem State.countDiscard_coordList : (s.countDiscard).coordList = s.coordList := rfl
@[simp] theorem State.countDiscard_replyList : (s.countDiscard).replyList = s.replyList := rfl
@[simp] theorem State.countDiscard_noticeFlags : (s.countDiscard).noticeFlags = s.noticeFlags := rfl
@[simp] theorem State.countDiscard_stationNotice : (s.countDiscard).stationNotice = s.stationNotice := rfl
@[simp] theorem State.countDiscard_checkFailures : (s.countDiscard).checkFailures = s.checkFailures := rfl
@[simp] theorem State.countDiscard_collisionErrors : (s.countDiscard).collisionErrors = s.collisionErrors := rfl
@[simp] theorem State.countDiscard_guards : (s.countDiscard).guards = s.guards := rfl
@[simp] theorem State.countDiscard_lanes : (s.countDiscard).lanes = s.lanes := rfl
@[simp] theorem State.countDiscard_queue : (s.countDiscard).queue = s.queue := rfl
@[simp] theorem State.countDiscard_engines : (s.countDiscard).engines = s.engines := rfl
@[simp] theorem State.countDiscard_calList : (s.countDiscard).calList = s.calList := rfl
@[simp] theorem State.countDiscard_records : (s.countDiscard).records = s.records := rfl
@[simp] theorem State.countDiscard_coupling : (s.countDiscard).coupling = s.coupling := rfl
@[simp] theorem State.countDiscard_surveyInterval : (s.countDiscard).surveyInterval = s.surveyInterval := rfl
@[simp] theorem State.countDiscard_surveyContinuous : (s.countDiscard).surveyContinuous = s.surveyContinuous := rfl
@[simp] theorem State.countDiscard_surveyEnabled : (s.countDiscard).surveyEnabled = s.surveyEnabled := rfl
@[simp] theorem State.countDiscard_surveyTimer : (s.countDiscard).surveyTimer = s.surveyTimer := rfl
@[simp] theorem State.countDiscard_passSet : (s.countDiscard).passSet = s.passSet := rfl
@[simp] theorem State.countDiscard_holdoffs : (s.countDiscard).holdoffs = s.holdoffs := rfl
@[simp] theorem State.countDiscard_freeCount : (s.countDiscard).freeCount = s.freeCount := rfl
@[simp] theorem State.countDiscard_pending : (s.countDiscard).pending = s.pending := rfl

@[simp] theorem State.putReason_ms (p : Port) (r : HoldReason) (b : Bool) : (s.putReason p r b).ms = s.ms := rfl
@[simp] theorem State.putReason_minutes (p : Port) (r : HoldReason) (b : Bool) : (s.putReason p r b).minutes = s.minutes := rfl
@[simp] theorem State.putReason_minuteMark (p : Port) (r : HoldReason) (b : Bool) : (s.putReason p r b).minuteMark = s.minuteMark := rfl
@[simp] theorem State.putReason_inReset (p : Port) (r : HoldReason) (b : Bool) : (s.putReason p r b).inReset = s.inReset := rfl
@[simp] theorem State.putReason_station (p : Port) (r : HoldReason) (b : Bool) : (s.putReason p r b).station = s.station := rfl
@[simp] theorem State.putReason_twelvePorts (p : Port) (r : HoldReason) (b : Bool) : (s.putReason p r b).twelvePorts = s.twelvePorts := rfl
@[simp] theorem State.putReason_autostart (p : Port) (r : HoldReason) (b : Bool) : (s.putReason p r b).autostart = s.autostart := rfl
@[simp] theorem State.putReason_rx (p : Port) (r : HoldReason) (b : Bool) : (s.putReason p r b).rx = s.rx := rfl
@[simp] theorem State.putReason_tx (p : Port) (r : HoldReason) (b : Bool) : (s.putReason p r b).tx = s.tx := rfl
@[simp] theorem State.putReason_lastOpened (p : Port) (r : HoldReason) (b : Bool) : (s.putReason p r b).lastOpened = s.lastOpened := rfl
@[simp] theorem State.putReason_collisionRun (p : Port) (r : HoldReason) (b : Bool) : (s.putReason p r b).collisionRun = s.collisionRun := rfl
@[simp] theorem State.putReason_coordList (p : Port) (r : HoldReason) (b : Bool) : (s.putReason p r b).coordList = s.coordList := rfl
@[simp] theorem State.putReason_replyList (p : Port) (r : HoldReason) (b : Bool) : (s.putReason p r b).replyList = s.replyList := rfl
@[simp] theorem State.putReason_noticeFlags (p : Port) (r : HoldReason) (b : Bool) : (s.putReason p r b).noticeFlags = s.noticeFlags := rfl
@[simp] theorem State.putReason_stationNotice (p : Port) (r : HoldReason) (b : Bool) : (s.putReason p r b).stationNotice = s.stationNotice := rfl
@[simp] theorem State.putReason_checkFailures (p : Port) (r : HoldReason) (b : Bool) : (s.putReason p r b).checkFailures = s.checkFailures := rfl
@[simp] theorem State.putReason_collisionErrors (p : Port) (r : HoldReason) (b : Bool) : (s.putReason p r b).collisionErrors = s.collisionErrors := rfl
@[simp] theorem State.putReason_requestsDiscarded (p : Port) (r : HoldReason) (b : Bool) : (s.putReason p r b).requestsDiscarded = s.requestsDiscarded := rfl
@[simp] theorem State.putReason_guards (p : Port) (r : HoldReason) (b : Bool) : (s.putReason p r b).guards = s.guards := rfl
@[simp] theorem State.putReason_queue (p : Port) (r : HoldReason) (b : Bool) : (s.putReason p r b).queue = s.queue := rfl
@[simp] theorem State.putReason_engines (p : Port) (r : HoldReason) (b : Bool) : (s.putReason p r b).engines = s.engines := rfl
@[simp] theorem State.putReason_calList (p : Port) (r : HoldReason) (b : Bool) : (s.putReason p r b).calList = s.calList := rfl
@[simp] theorem State.putReason_records (p : Port) (r : HoldReason) (b : Bool) : (s.putReason p r b).records = s.records := rfl
@[simp] theorem State.putReason_coupling (p : Port) (r : HoldReason) (b : Bool) : (s.putReason p r b).coupling = s.coupling := rfl
@[simp] theorem State.putReason_surveyInterval (p : Port) (r : HoldReason) (b : Bool) : (s.putReason p r b).surveyInterval = s.surveyInterval := rfl
@[simp] theorem State.putReason_surveyContinuous (p : Port) (r : HoldReason) (b : Bool) : (s.putReason p r b).surveyContinuous = s.surveyContinuous := rfl
@[simp] theorem State.putReason_surveyEnabled (p : Port) (r : HoldReason) (b : Bool) : (s.putReason p r b).surveyEnabled = s.surveyEnabled := rfl
@[simp] theorem State.putReason_surveyTimer (p : Port) (r : HoldReason) (b : Bool) : (s.putReason p r b).surveyTimer = s.surveyTimer := rfl
@[simp] theorem State.putReason_passSet (p : Port) (r : HoldReason) (b : Bool) : (s.putReason p r b).passSet = s.passSet := rfl
@[simp] theorem State.putReason_holdoffs (p : Port) (r : HoldReason) (b : Bool) : (s.putReason p r b).holdoffs = s.holdoffs := rfl
@[simp] theorem State.putReason_freeCount (p : Port) (r : HoldReason) (b : Bool) : (s.putReason p r b).freeCount = s.freeCount := rfl
@[simp] theorem State.putReason_pending (p : Port) (r : HoldReason) (b : Bool) : (s.putReason p r b).pending = s.pending := rfl

@[simp] theorem State.learn_ms (k : CouplingKey) (level : Nat) (src : CouplingSource) : (s.learn k level src).ms = s.ms := rfl
@[simp] theorem State.learn_minutes (k : CouplingKey) (level : Nat) (src : CouplingSource) : (s.learn k level src).minutes = s.minutes := rfl
@[simp] theorem State.learn_minuteMark (k : CouplingKey) (level : Nat) (src : CouplingSource) : (s.learn k level src).minuteMark = s.minuteMark := rfl
@[simp] theorem State.learn_inReset (k : CouplingKey) (level : Nat) (src : CouplingSource) : (s.learn k level src).inReset = s.inReset := rfl
@[simp] theorem State.learn_station (k : CouplingKey) (level : Nat) (src : CouplingSource) : (s.learn k level src).station = s.station := rfl
@[simp] theorem State.learn_twelvePorts (k : CouplingKey) (level : Nat) (src : CouplingSource) : (s.learn k level src).twelvePorts = s.twelvePorts := rfl
@[simp] theorem State.learn_autostart (k : CouplingKey) (level : Nat) (src : CouplingSource) : (s.learn k level src).autostart = s.autostart := rfl
@[simp] theorem State.learn_rx (k : CouplingKey) (level : Nat) (src : CouplingSource) : (s.learn k level src).rx = s.rx := rfl
@[simp] theorem State.learn_tx (k : CouplingKey) (level : Nat) (src : CouplingSource) : (s.learn k level src).tx = s.tx := rfl
@[simp] theorem State.learn_lastOpened (k : CouplingKey) (level : Nat) (src : CouplingSource) : (s.learn k level src).lastOpened = s.lastOpened := rfl
@[simp] theorem State.learn_collisionRun (k : CouplingKey) (level : Nat) (src : CouplingSource) : (s.learn k level src).collisionRun = s.collisionRun := rfl
@[simp] theorem State.learn_coordList (k : CouplingKey) (level : Nat) (src : CouplingSource) : (s.learn k level src).coordList = s.coordList := rfl
@[simp] theorem State.learn_replyList (k : CouplingKey) (level : Nat) (src : CouplingSource) : (s.learn k level src).replyList = s.replyList := rfl
@[simp] theorem State.learn_noticeFlags (k : CouplingKey) (level : Nat) (src : CouplingSource) : (s.learn k level src).noticeFlags = s.noticeFlags := rfl
@[simp] theorem State.learn_stationNotice (k : CouplingKey) (level : Nat) (src : CouplingSource) : (s.learn k level src).stationNotice = s.stationNotice := rfl
@[simp] theorem State.learn_checkFailures (k : CouplingKey) (level : Nat) (src : CouplingSource) : (s.learn k level src).checkFailures = s.checkFailures := rfl
@[simp] theorem State.learn_collisionErrors (k : CouplingKey) (level : Nat) (src : CouplingSource) : (s.learn k level src).collisionErrors = s.collisionErrors := rfl
@[simp] theorem State.learn_requestsDiscarded (k : CouplingKey) (level : Nat) (src : CouplingSource) : (s.learn k level src).requestsDiscarded = s.requestsDiscarded := rfl
@[simp] theorem State.learn_guards (k : CouplingKey) (level : Nat) (src : CouplingSource) : (s.learn k level src).guards = s.guards := rfl
@[simp] theorem State.learn_lanes (k : CouplingKey) (level : Nat) (src : CouplingSource) : (s.learn k level src).lanes = s.lanes := rfl
@[simp] theorem State.learn_queue (k : CouplingKey) (level : Nat) (src : CouplingSource) : (s.learn k level src).queue = s.queue := rfl
@[simp] theorem State.learn_engines (k : CouplingKey) (level : Nat) (src : CouplingSource) : (s.learn k level src).engines = s.engines := rfl
@[simp] theorem State.learn_calList (k : CouplingKey) (level : Nat) (src : CouplingSource) : (s.learn k level src).calList = s.calList := rfl
@[simp] theorem State.learn_records (k : CouplingKey) (level : Nat) (src : CouplingSource) : (s.learn k level src).records = s.records := rfl
@[simp] theorem State.learn_surveyInterval (k : CouplingKey) (level : Nat) (src : CouplingSource) : (s.learn k level src).surveyInterval = s.surveyInterval := rfl
@[simp] theorem State.learn_surveyContinuous (k : CouplingKey) (level : Nat) (src : CouplingSource) : (s.learn k level src).surveyContinuous = s.surveyContinuous := rfl
@[simp] theorem State.learn_surveyEnabled (k : CouplingKey) (level : Nat) (src : CouplingSource) : (s.learn k level src).surveyEnabled = s.surveyEnabled := rfl
@[simp] theorem State.learn_surveyTimer (k : CouplingKey) (level : Nat) (src : CouplingSource) : (s.learn k level src).surveyTimer = s.surveyTimer := rfl
@[simp] theorem State.learn_passSet (k : CouplingKey) (level : Nat) (src : CouplingSource) : (s.learn k level src).passSet = s.passSet := rfl
@[simp] theorem State.learn_holdoffs (k : CouplingKey) (level : Nat) (src : CouplingSource) : (s.learn k level src).holdoffs = s.holdoffs := rfl
@[simp] theorem State.learn_freeCount (k : CouplingKey) (level : Nat) (src : CouplingSource) : (s.learn k level src).freeCount = s.freeCount := rfl
@[simp] theorem State.learn_pending (k : CouplingKey) (level : Nat) (src : CouplingSource) : (s.learn k level src).pending = s.pending := rfl

/-! ## Reads after writes -/

@[simp] theorem State.lane_setLane_same (p : Port) (l : Lane) : (s.setLane p l).lane p = l := by
  simp [State.lane, State.setLane]

theorem State.lane_setLane_ne (p q : Port) (l : Lane) (h : q ≠ p) : (s.setLane p l).lane q = s.lane q := by
  have h' : p.val ≠ q.val := fun e => h (Fin.ext e.symm)
  simp [State.lane, State.setLane, h']

@[simp] theorem State.lane_modifyLane_same (p : Port) (f : Lane → Lane) : (s.modifyLane p f).lane p = f (s.lane p) := by
  simp [State.modifyLane]

theorem State.lane_modifyLane_ne (p q : Port) (f : Lane → Lane) (h : q ≠ p) : (s.modifyLane p f).lane q = s.lane q :=
  s.lane_setLane_ne p q _ h

@[simp] theorem State.engine_setEngine_same (e : EngineId) (g : Engine) : (s.setEngine e g).engine e = g := by
  simp [State.engine, State.setEngine]

theorem State.engine_setEngine_ne (e d : EngineId) (g : Engine) (h : d ≠ e) : (s.setEngine e g).engine d = s.engine d := by
  have h' : e.val ≠ d.val := fun x => h (Fin.ext x.symm)
  simp [State.engine, State.setEngine, h']

@[simp] theorem State.engine_modifyEngine_same (e : EngineId) (f : Engine → Engine) :
    (s.modifyEngine e f).engine e = f (s.engine e) := by
  simp [State.modifyEngine]

theorem State.engine_modifyEngine_ne (e d : EngineId) (f : Engine → Engine) (h : d ≠ e) :
    (s.modifyEngine e f).engine d = s.engine d :=
  s.engine_setEngine_ne e d _ h

@[simp] theorem State.record_setRecord_same (p : Port) (r : CableRecord) : (s.setRecord p r).record p = r := by
  simp [State.record, State.setRecord]

theorem State.record_setRecord_ne (p q : Port) (r : CableRecord) (h : q ≠ p) :
    (s.setRecord p r).record q = s.record q := by
  have h' : p.val ≠ q.val := fun e => h (Fin.ext e.symm)
  simp [State.record, State.setRecord, h']

@[simp] theorem State.holdoff_setHoldoff_same (p : Port) (h : Option Ms) : (s.setHoldoff p h).holdoff p = h := by
  simp [State.holdoff, State.setHoldoff]

theorem State.holdoff_setHoldoff_ne (p q : Port) (x : Option Ms) (h : q ≠ p) :
    (s.setHoldoff p x).holdoff q = s.holdoff q := by
  have h' : p.val ≠ q.val := fun e => h (Fin.ext e.symm)
  simp [State.holdoff, State.setHoldoff, h']

@[simp] theorem State.flagsOf_post_same (p : Port) (f : ChangeFlag) :
    (s.post p f).flagsOf p = s.flagsOf p ||| changeBit f := by
  simp [State.flagsOf, State.post]

theorem State.flagsOf_post_ne (p q : Port) (f : ChangeFlag) (h : q ≠ p) : (s.post p f).flagsOf q = s.flagsOf q := by
  have h' : p.val ≠ q.val := fun e => h (Fin.ext e.symm)
  simp [State.flagsOf, State.post, h']

/-- Two states with the same lanes read the same lane. -/
theorem State.lane_of_lanes {s t : State} (h : t.lanes = s.lanes) (p : Port) : t.lane p = s.lane p := by
  simp [State.lane, h]

/-- Two states with the same engines read the same engine. -/
theorem State.engine_of_engines {s t : State} (h : t.engines = s.engines) (e : EngineId) : t.engine e = s.engine e := by
  simp [State.engine, h]

/-- Two states with the same records read the same record. -/
theorem State.record_of_records {s t : State} (h : t.records = s.records) (p : Port) : t.record p = s.record p := by
  simp [State.record, h]

/-- Two states with the same flags read the same flag byte. -/
theorem State.flagsOf_of_flags {s t : State} (h : t.noticeFlags = s.noticeFlags) (p : Port) :
    t.flagsOf p = s.flagsOf p := by
  simp [State.flagsOf, h]

/-- Lanes are told apart by their ports. -/
theorem State.lanes_ext {s t : State} (h : ∀ p, t.lane p = s.lane p) : t.lanes = s.lanes := by
  apply Vector.ext
  intro i hi
  exact h ⟨i, hi⟩

end Sys2Proof.Machine
end

