-- ==== Sys2Proof/Laws/Lanes.lean ====
section
/-! SUPPORT. What the lane operations can change: the lane and the flags of their own port, and the engines. -/

namespace Sys2Proof.Machine

/-- From s to t only lanes, engines and notice flags differ, and at ports other than p neither lanes nor flags do. -/
structure Touches (p : Port) (s t : State) : Prop where
  rest : ∃ ls es fl, t = { s with lanes := ls, engines := es, noticeFlags := fl }
  lane : ∀ q, q ≠ p → t.lane q = s.lane q
  flags : ∀ q, q ≠ p → t.flagsOf q = s.flagsOf q

namespace Touches

variable {p : Port} {s t u : State}

theorem refl (s : State) : Touches p s s := ⟨⟨_, _, _, rfl⟩, fun _ _ => rfl, fun _ _ => rfl⟩

theorem trans (a : Touches p s t) (b : Touches p t u) : Touches p s u where
  rest := by
    obtain ⟨_, _, _, ha⟩ := a.rest
    obtain ⟨_, _, _, hb⟩ := b.rest
    exact ⟨_, _, _, by rw [hb, ha]⟩
  lane := fun q h => (b.lane q h).trans (a.lane q h)
  flags := fun q h => (b.flags q h).trans (a.flags q h)

theorem ms (a : Touches p s t) : t.ms = s.ms := by obtain ⟨_, _, _, h⟩ := a.rest; rw [h]
theorem queue (a : Touches p s t) : t.queue = s.queue := by obtain ⟨_, _, _, h⟩ := a.rest; rw [h]
theorem records (a : Touches p s t) : t.records = s.records := by obtain ⟨_, _, _, h⟩ := a.rest; rw [h]
theorem coordList (a : Touches p s t) : t.coordList = s.coordList := by obtain ⟨_, _, _, h⟩ := a.rest; rw [h]
theorem replyList (a : Touches p s t) : t.replyList = s.replyList := by obtain ⟨_, _, _, h⟩ := a.rest; rw [h]
theorem coupling (a : Touches p s t) : t.coupling = s.coupling := by obtain ⟨_, _, _, h⟩ := a.rest; rw [h]
theorem guards (a : Touches p s t) : t.guards = s.guards := by obtain ⟨_, _, _, h⟩ := a.rest; rw [h]
theorem holdoffs (a : Touches p s t) : t.holdoffs = s.holdoffs := by obtain ⟨_, _, _, h⟩ := a.rest; rw [h]
theorem calList (a : Touches p s t) : t.calList = s.calList := by obtain ⟨_, _, _, h⟩ := a.rest; rw [h]
theorem twelvePorts (a : Touches p s t) : t.twelvePorts = s.twelvePorts := by obtain ⟨_, _, _, h⟩ := a.rest; rw [h]

theorem present (a : Touches p s t) (q : Port) : t.present q = s.present q := by
  unfold State.present State.portCount; rw [a.twelvePorts]

theorem entryOf (a : Touches p s t) (q : Port) : t.entryOf q = s.entryOf q := by simp [State.entryOf, a.queue]

theorem record (a : Touches p s t) (q : Port) : t.record q = s.record q := State.record_of_records a.records q

theorem setLane (l : Lane) : Touches p s (s.setLane p l) :=
  ⟨⟨_, _, _, rfl⟩, fun q h => s.lane_setLane_ne p q l h, fun _ _ => rfl⟩

theorem modifyLane (f : Lane → Lane) : Touches p s (s.modifyLane p f) := setLane _

theorem setEngine (e : EngineId) (g : Engine) : Touches p s (s.setEngine e g) := ⟨⟨_, _, _, rfl⟩, fun _ _ => rfl, fun _ _ => rfl⟩

theorem modifyEngine (e : EngineId) (f : Engine → Engine) : Touches p s (s.modifyEngine e f) := setEngine e _

theorem post (f : ChangeFlag) : Touches p s (s.post p f) :=
  ⟨⟨_, _, _, rfl⟩, fun _ _ => rfl, fun q h => s.flagsOf_post_ne p q f h⟩

theorem putReason (r : HoldReason) (b : Bool) : Touches p s (s.putReason p r b) := modifyLane _

theorem detachMember (e : EngineId) (q : Port) : Touches p s (s.detachMember e q) := by
  unfold State.detachMember
  repeat (first | exact refl s | exact setEngine e _ | exact modifyEngine e _ | split | simp only)

theorem laneIssue (c : TapCommand) : Touches p s (s.laneIssue p c) := by
  unfold State.laneIssue
  split
  · exact modifyLane _
  · split
    · exact (detachMember _ p).trans (modifyLane _)
    · exact refl s

theorem laneCommand : Touches p s (s.laneCommand p) := by
  unfold State.laneCommand
  split
  · exact laneIssue _
  · exact refl s

theorem restIn (st : LaneState) : Touches p s (s.restIn p st) := (modifyLane _).trans laneCommand

theorem enterHeld : Touches p s (s.enterHeld p) := restIn _

theorem enterDisabled : Touches p s (s.enterDisabled p) := restIn _

theorem enterParked : Touches p s (s.enterParked p) := (restIn _).trans (post _)

theorem enterBackoff : Touches p s (s.enterBackoff p) := by
  unfold State.enterBackoff
  split
  · exact (restIn _).trans (modifyLane _)
  · exact enterHeld

theorem settleAdvertise (l : Lane) : Touches p s (s.settleAdvertise p l) := by
  unfold State.settleAdvertise
  split
  · exact (setLane _).trans enterParked
  · split
    · exact (setLane _).trans laneCommand
    · exact (setLane _).trans enterHeld

theorem enterAdvertise (b : Bool) : Touches p s (s.enterAdvertise p b) := settleAdvertise _

theorem transferAndRestore : Touches p s (s.transferAndRestore p) := modifyLane _

theorem transferInPlace : Touches p s (s.transferInPlace p) := modifyLane _

theorem enterNegotiate : Touches p s (s.enterNegotiate p) := setLane _

theorem enterTrain (g : Grade) : Touches p s (s.enterTrain p g) := (setLane _).trans laneCommand

theorem leaveUp : Touches p s (s.leaveUp p) := (post _).trans (modifyLane _)

theorem addReason (r : HoldReason) : Touches p s (s.addReason p r) := by
  unfold State.addReason
  simp only
  split
  · exact refl s
  · split
    · exact (putReason _ _).trans enterHeld
    · exact (putReason _ _).trans enterHeld
    · split
      · exact putReason _ _
      · exact refl s
      · exact (putReason _ _).trans enterHeld
      · exact (putReason _ _).trans enterHeld
    · split
      · exact putReason _ _
      · exact refl s
      · exact (putReason _ _).trans enterHeld
      · exact (putReason _ _).trans enterHeld
    · split
      · exact putReason _ _
      · exact ((leaveUp.trans (modifyLane _)).trans (putReason _ _)).trans enterHeld
      · exact refl s
      · exact refl s
    all_goals exact putReason _ _

theorem leaveHeldIfFree : Touches p s (s.leaveHeldIfFree p) := by
  unfold State.leaveHeldIfFree
  split
  · exact enterAdvertise _
  · exact refl s

theorem dropReason (r : HoldReason) : Touches p s (s.dropReason p r) := by
  unfold State.dropReason
  split
  · exact (putReason _ _).trans leaveHeldIfFree
  · exact refl s

theorem quietAskLane (ask : QuietRecord) : Touches p s (s.quietAskLane p ask) := by
  unfold State.quietAskLane
  simp only
  split
  · exact (modifyLane _).trans (addReason _)
  · exact modifyLane _

theorem quietEndLane (st : Station) (port : Port) : Touches p s (s.quietEndLane p st port) := by
  unfold State.quietEndLane
  simp only
  split
  · split
    · exact (modifyLane _).trans (dropReason _)
    · exact modifyLane _
  · exact refl s

theorem releasePort (e : EngineId) : Touches p s (s.releasePort e p) := by
  unfold State.releasePort
  split
  · exact modifyLane _
  · exact refl s

theorem shootPort (e : EngineId) (c : Byte → TapCommand) : Touches p s (s.shootPort e p c) := modifyLane _

theorem listenPort (e : EngineId) : Touches p s (s.listenPort e p) := modifyLane _

theorem listenDrop : Touches p s (s.listenDrop p) := by
  unfold State.listenDrop
  split
  · exact refl s
  · simp only
    split
    · exact ((detachMember _ p).trans (releasePort _)).trans (dropReason _)
    · exact (detachMember _ p).trans (releasePort _)

theorem sweepWaitTest : Touches p s (s.sweepWaitTest p) := by
  unfold State.sweepWaitTest
  split
  · exact enterAdvertise _
  · exact refl s

theorem laneEntryRemoved : Touches p s (s.laneEntryRemoved p) := by
  unfold State.laneEntryRemoved
  simp only
  split
  · exact (putReason _ _).trans enterBackoff
  · exact (putReason _ _).trans leaveHeldIfFree

theorem laneEntrySuspended : Touches p s (s.laneEntrySuspended p) := (dropReason _).trans sweepWaitTest

theorem enterSweepWait : Touches p s (s.enterSweepWait p) := by
  unfold State.enterSweepWait
  split
  · exact enterAdvertise _
  · exact restIn _

theorem unparkByRecord : Touches p s (s.unparkByRecord p) := (modifyLane _).trans (enterAdvertise _)

theorem fireShot (e : EngineId) (q : Pair) : Touches p s (s.fireShot e p q) := (modifyEngine _ _).trans (shootPort _ _)

theorem beginPair (e : EngineId) (q : Pair) : Touches p s (s.beginPair e p q) := (modifyEngine _ _).trans (fireShot _ _)

theorem freeEngine (e : EngineId) : Touches p s (s.freeEngine e p) := (releasePort _).trans (setEngine _ _)

end Touches

/-! ## The hold set and the lane state after the lane operations -/

@[simp] theorem HoldSet.has_put_same (h : HoldSet) (r : HoldReason) (b : Bool) : (h.put r b).has r = b := by
  cases r <;> rfl

theorem HoldSet.has_put_ne (h : HoldSet) (r q : HoldReason) (b : Bool) (n : q ≠ r) : (h.put r b).has q = h.has q := by
  cases r <;> cases q <;> first | rfl | exact absurd rfl n

/-- Issuing a command changes nothing of the lane but its tap and LISTEN. -/
theorem State.laneIssue_lane (s : State) (p : Port) (c : TapCommand) :
    ∃ tap out due holder listen, (s.laneIssue p c).lane p =
      { s.lane p with
        tapCommand := tap, outstanding := out, captureDue := due, holder := holder
        hold := { (s.lane p).hold with listen := listen } } := by
  unfold State.laneIssue
  split
  · rename_i h
    exact ⟨some c, none, none, .lane, (s.lane p).hold.listen, by
      rw [State.lane_modifyLane_same, ← h]; rfl⟩
  · rename_i e _
    split
    · have h : (s.detachMember e p).lane p = s.lane p := by
        unfold State.detachMember
        repeat (first | rfl | split | simp only)
      exact ⟨some c, none, none, .lane, false, by rw [State.lane_modifyLane_same, h]; rfl⟩
    · exact ⟨(s.lane p).tapCommand, (s.lane p).outstanding, (s.lane p).captureDue, (s.lane p).holder,
        (s.lane p).hold.listen, rfl⟩

end Sys2Proof.Machine
end

