-- ==== Sys2Proof/Laws/Queue.lean ====
section
/-! SUPPORT. What the queue operations, the start choice and the end of a command can change. -/

namespace Sys2Proof.Machine

/-- From s to t only lanes, engines, queue and notice flags differ; at ports other than p neither lanes nor flags do; and the
queue gains no port. -/
structure Serves (p : Port) (s t : State) : Prop where
  rest : ∃ ls es qu fl, t = { s with lanes := ls, engines := es, queue := qu, noticeFlags := fl }
  lane : ∀ q, q ≠ p → t.lane q = s.lane q
  flags : ∀ q, q ≠ p → t.flagsOf q = s.flagsOf q
  ports : ∀ x ∈ t.queue, ∃ y ∈ s.queue, y.port = x.port

/-- From s to t only lanes, engines, queue and notice flags differ; nothing of a port without an entry does; and the queue
gains no port. -/
structure ServesQueue (s t : State) : Prop where
  rest : ∃ ls es qu fl, t = { s with lanes := ls, engines := es, queue := qu, noticeFlags := fl }
  lane : ∀ p, (∀ x ∈ s.queue, x.port ≠ p) → t.lane p = s.lane p
  flags : ∀ p, (∀ x ∈ s.queue, x.port ≠ p) → t.flagsOf p = s.flagsOf p
  ports : ∀ x ∈ t.queue, ∃ y ∈ s.queue, y.port = x.port

namespace Serves

variable {p : Port} {s t u : State}

theorem ofTouches (a : Touches p s t) : Serves p s t where
  rest := by obtain ⟨_, _, _, h⟩ := a.rest; exact ⟨_, _, _, _, h⟩
  lane := a.lane
  flags := a.flags
  ports := fun x h => ⟨x, a.queue ▸ h, rfl⟩

theorem trans (a : Serves p s t) (b : Serves p t u) : Serves p s u where
  rest := by
    obtain ⟨_, _, _, _, ha⟩ := a.rest
    obtain ⟨_, _, _, _, hb⟩ := b.rest
    exact ⟨_, _, _, _, by rw [hb, ha]⟩
  lane := fun q h => (b.lane q h).trans (a.lane q h)
  flags := fun q h => (b.flags q h).trans (a.flags q h)
  ports := fun x h => by
    obtain ⟨y, hy, e⟩ := b.ports x h
    obtain ⟨z, hz, f⟩ := a.ports y hy
    exact ⟨z, hz, f.trans e⟩

/-- A queue whose ports are all among the old ones. -/
theorem queue (l : List Entry) (h : ∀ x ∈ l, ∃ y ∈ s.queue, y.port = x.port) : Serves p s { s with queue := l } :=
  ⟨⟨_, _, _, _, rfl⟩, fun _ _ => rfl, fun _ _ => rfl, h⟩

theorem modifyEntry (f : Entry → Entry) (h : ∀ x, (f x).port = x.port) : Serves p s (s.modifyEntry p f) := by
  refine queue _ fun x hx => ?_
  obtain ⟨y, hy, rfl⟩ := List.mem_map.1 hx
  exact ⟨y, hy, by split <;> simp [h]⟩

theorem removeEntry (o : RemovalOutcome) : Serves p s (s.removeEntry p o) :=
  ((ofTouches (Touches.post _)).trans (queue _ fun x hx => ⟨x, (List.mem_filter.1 hx).1, rfl⟩)).trans
    (ofTouches Touches.laneEntryRemoved)

theorem startEntry (e : EngineId) : Serves p s (s.startEntry e p) := by
  unfold State.startEntry
  refine Serves.trans (t := State.setEngine (s.modifyEntry p _) e _) ?_
    (ofTouches (Touches.listenDrop.trans (Touches.addReason _)))
  exact (modifyEntry _ (by intro x; rfl)).trans (ofTouches (Touches.setEngine _ _))

end Serves

namespace ServesQueue

variable {s t u : State}

theorem refl (s : State) : ServesQueue s s := ⟨⟨_, _, _, _, rfl⟩, fun _ _ => rfl, fun _ _ => rfl, fun x h => ⟨x, h, rfl⟩⟩

theorem absent (a : ServesQueue s t) {p : Port} (h : ∀ x ∈ s.queue, x.port ≠ p) : ∀ x ∈ t.queue, x.port ≠ p :=
  fun x hx e => by obtain ⟨y, hy, f⟩ := a.ports x hx; exact h y hy (f.trans e)

theorem trans (a : ServesQueue s t) (b : ServesQueue t u) : ServesQueue s u where
  rest := by
    obtain ⟨_, _, _, _, ha⟩ := a.rest
    obtain ⟨_, _, _, _, hb⟩ := b.rest
    exact ⟨_, _, _, _, by rw [hb, ha]⟩
  lane := fun p h => (b.lane p (a.absent h)).trans (a.lane p h)
  flags := fun p h => (b.flags p (a.absent h)).trans (a.flags p h)
  ports := fun x h => by
    obtain ⟨y, hy, e⟩ := b.ports x h
    obtain ⟨z, hz, f⟩ := a.ports y hy
    exact ⟨z, hz, f.trans e⟩

/-- An operation on a port that has an entry. -/
theorem ofServes {p : Port} (a : Serves p s t) (h : ∃ x ∈ s.queue, x.port = p) : ServesQueue s t where
  rest := a.rest
  lane := fun q hq => a.lane q fun e => by obtain ⟨x, hx, f⟩ := h; exact hq x hx (f.trans e.symm)
  flags := fun q hq => a.flags q fun e => by obtain ⟨x, hx, f⟩ := h; exact hq x hx (f.trans e.symm)
  ports := a.ports

theorem removals (l : List Entry) (h : ∀ x ∈ l, ∃ y ∈ s.queue, y.port = x.port) (a : ServesQueue s t) :
    ServesQueue s (l.foldl (fun r x => r.removeEntry x.port .guarded) t) := by
  induction l generalizing t with
  | nil => exact a
  | cons x l ih =>
    refine ih (fun y hy => h y (List.mem_cons_of_mem _ hy)) ?_
    show ServesQueue s (t.removeEntry x.port .guarded)
    have b : Serves x.port t (t.removeEntry x.port .guarded) := Serves.removeEntry _
    obtain ⟨z, hz, e⟩ := h x (List.mem_cons_self ..)
    have ne : ∀ q, (∀ y ∈ s.queue, y.port ≠ q) → q ≠ x.port := fun q hq f => hq z hz (e.trans f.symm)
    obtain ⟨_, _, _, _, ha⟩ := a.rest
    obtain ⟨_, _, _, _, hb⟩ := b.rest
    exact ⟨⟨_, _, _, _, by rw [hb, ha]⟩, fun q hq => (b.lane q (ne q hq)).trans (a.lane q hq),
      fun q hq => (b.flags q (ne q hq)).trans (a.flags q hq), fun y hy => by
        obtain ⟨w, hw, f⟩ := b.ports y hy
        obtain ⟨v, hv, g⟩ := a.ports w hw
        exact ⟨v, hv, g.trans f⟩⟩

theorem removeGuarded (s : State) : ServesQueue s s.removeGuarded :=
  removals _ (fun x hx => ⟨x, (List.mem_filter.1 hx).1, rfl⟩) (refl s)

theorem engineChooses (s : State) (e : EngineId) : ServesQueue s (s.engineChooses e) := by
  unfold State.engineChooses
  split
  · simp only
    split
    · rename_i x hx
      refine (removeGuarded s).trans (ofServes (Serves.startEntry e) ⟨x, ?_, rfl⟩)
      unfold State.chosenEntry at hx
      split at hx
      · rename_i h
        simp only [Option.some.injEq] at hx
        subst hx
        exact List.mem_of_find?_eq_some h
      · exact List.mem_of_find?_eq_some hx
    · exact removeGuarded s
  · exact refl s

theorem startChoice (s : State) : ServesQueue s s.startChoice :=
  ((engineChooses s 0).trans (engineChooses _ 1)).trans (engineChooses _ 0)

end ServesQueue

/-- The transmit choice changes only what the line has open. -/
theorem State.transmitChoice_rest (s : State) : ∃ tx rx lo run, s.transmitChoice =
    { s with tx := tx, rx := rx, lastOpened := lo, collisionRun := run } := by
  unfold State.transmitChoice State.openFrame
  repeat (first | exact ⟨_, _, _, _, rfl⟩ | split)

/-- The end of a command leaves these fields as they are. -/
theorem State.settle_rest (s : State) : ∃ ls es qu fl tx rx lo run, s.settle =
    { s with lanes := ls, engines := es, queue := qu, noticeFlags := fl, tx := tx, rx := rx, lastOpened := lo, collisionRun := run } := by
  obtain ⟨_, _, _, _, h⟩ := (ServesQueue.startChoice s).rest
  obtain ⟨_, _, _, _, k⟩ := s.startChoice.transmitChoice_rest
  exact ⟨_, _, _, _, _, _, _, _, by unfold State.settle; rw [k, h]⟩

@[simp] theorem State.settle_ms (s : State) : s.settle.ms = s.ms := by
  obtain ⟨_, _, _, _, _, _, _, _, h⟩ := s.settle_rest; rw [h]
@[simp] theorem State.settle_inReset (s : State) : s.settle.inReset = s.inReset := by
  obtain ⟨_, _, _, _, _, _, _, _, h⟩ := s.settle_rest; rw [h]
@[simp] theorem State.settle_pending (s : State) : s.settle.pending = s.pending := by
  obtain ⟨_, _, _, _, _, _, _, _, h⟩ := s.settle_rest; rw [h]
@[simp] theorem State.settle_records (s : State) : s.settle.records = s.records := by
  obtain ⟨_, _, _, _, _, _, _, _, h⟩ := s.settle_rest; rw [h]
@[simp] theorem State.settle_coupling (s : State) : s.settle.coupling = s.coupling := by
  obtain ⟨_, _, _, _, _, _, _, _, h⟩ := s.settle_rest; rw [h]
@[simp] theorem State.settle_coordList (s : State) : s.settle.coordList = s.coordList := by
  obtain ⟨_, _, _, _, _, _, _, _, h⟩ := s.settle_rest; rw [h]
@[simp] theorem State.settle_replyList (s : State) : s.settle.replyList = s.replyList := by
  obtain ⟨_, _, _, _, _, _, _, _, h⟩ := s.settle_rest; rw [h]
@[simp] theorem State.settle_stationNotice (s : State) : s.settle.stationNotice = s.stationNotice := by
  obtain ⟨_, _, _, _, _, _, _, _, h⟩ := s.settle_rest; rw [h]
@[simp] theorem State.settle_checkFailures (s : State) : s.settle.checkFailures = s.checkFailures := by
  obtain ⟨_, _, _, _, _, _, _, _, h⟩ := s.settle_rest; rw [h]
@[simp] theorem State.settle_collisionErrors (s : State) : s.settle.collisionErrors = s.collisionErrors := by
  obtain ⟨_, _, _, _, _, _, _, _, h⟩ := s.settle_rest; rw [h]
@[simp] theorem State.settle_requestsDiscarded (s : State) : s.settle.requestsDiscarded = s.requestsDiscarded := by
  obtain ⟨_, _, _, _, _, _, _, _, h⟩ := s.settle_rest; rw [h]

/-! ## When an engine chooses nothing -/

theorem State.removeGuarded_none {s : State} (h : ∀ x ∈ s.queue, s.guardBlocked x = false) : s.removeGuarded = s := by
  have : s.queue.filter s.guardBlocked = [] := by simpa using h
  simp [State.removeGuarded, this]

theorem State.chosenEntry_none {s : State} (h : ∀ x ∈ s.queue, s.startable x = false) : s.chosenEntry = none := by
  have h1 : (s.queue.find? fun x => s.startable x && decide (x.origin = .supervisor)) = none := by
    simp only [List.find?_eq_none]
    intro x hx; simp [h x hx]
  have h2 : s.queue.find? s.startable = none := by simpa using h
  simp [State.chosenEntry, h1, h2]

theorem State.engineChooses_none {s : State} {e : EngineId}
    (h : (s.engine e).state = .idle → ∀ x ∈ s.queue, s.startable x = false ∧ s.guardBlocked x = false) :
    s.engineChooses e = s := by
  unfold State.engineChooses
  split
  · rename_i i
    simp [State.removeGuarded_none fun x hx => (h i x hx).2, State.chosenEntry_none fun x hx => (h i x hx).1]
  · rfl

end Sys2Proof.Machine
end

