-- ==== Sys2Proof/Laws/Commands.lean ====
section
/-! SUPPORT. The forms every command's meaning takes: what runs where the command is taken. -/

namespace Sys2Proof.Machine

@[simp] theorem mem_ifDue {b : Bool} {c d : Instr} : c ∈ ifDue b d ↔ b = true ∧ c = d := by
  cases b <;> simp [ifDue]

theorem State.perform_taken {s : State} (f : State → State) (h : s.inReset = false) : s.perform f = .next (f s).settle := by
  simp [State.perform, h]

theorem State.perform_inReset {s : State} (f : State → State) (h : s.inReset = true) : s.perform f = .next s := by
  simp [State.perform, h]

theorem State.tapEvent_taken {s : State} {p : Port} (f : State → State) (h : s.hears p = true) :
    s.tapEvent p f = .next (f s).settle := by
  obtain ⟨r, q⟩ : s.inReset = false ∧ s.present p = true := by simpa [State.hears] using h
  simp [State.tapEvent, State.perform, r, q]

theorem State.tapEvent_absent {s : State} {p : Port} (f : State → State) (r : s.inReset = false) (h : s.present p = false) :
    s.tapEvent p f = .next s.settle := by
  simp [State.tapEvent, State.perform, r, h]

theorem State.decides_iff {s : State} :
    s.decides = true ↔ s.inReset = false ∧ s.replyList.length < 4 ∧ s.anyStarting = false := by
  unfold State.decides
  rw [Bool.and_eq_true, Bool.and_eq_true, decide_eq_true_iff, Bool.not_eq_true', Bool.not_eq_true', and_assoc]
  exact Iff.rfl

theorem State.takeRequest_decided {s : State} (f : State → State) (h : s.decides = true) : s.takeRequest f = f s := by
  obtain ⟨_, l, a⟩ := State.decides_iff.1 h
  simp [State.takeRequest, Config.replyCapacity, a, Nat.not_le.2 l]

theorem State.request_decided {s : State} (f : State → State) (h : s.decides = true) :
    (s.perform fun t => t.takeRequest f) = .next (f s).settle := by
  rw [State.perform_taken _ (State.decides_iff.1 h).1, State.takeRequest_decided f h]

theorem State.request_full {s : State} (f : State → State) (r : s.inReset = false) (h : 4 ≤ s.replyList.length) :
    (s.perform fun t => t.takeRequest f) = .next s.countDiscard.settle := by
  rw [State.perform_taken _ r]
  simp [State.takeRequest, Config.replyCapacity, h]

theorem State.request_starting {s : State} (f : State → State) (r : s.inReset = false) (h : s.anyStarting = true) :
    (s.perform fun t => t.takeRequest f) = .next s.countDiscard.settle := by
  rw [State.perform_taken _ r]
  simp [State.takeRequest, h]

theorem State.fromPeer_taken {s : State} {st : Station} (f : State → State) (c : s.coordinates = true)
    (h : s.isPeer st = true) : s.fromPeer st f = f s := by
  have a : s.anyStarting = false := by
    have : s.inReset = false ∧ s.anyStarting = false := by simpa [State.coordinates] using c
    exact this.2
  have b : (1 ≤ st.toNat ∧ st.toNat ≤ 8) ∧ st ≠ s.station := by
    simpa [State.isPeer, peerStation] using h
  simp [State.fromPeer, a, b]

/-- The port a port field names (R21). -/
theorem State.portField_present {s : State} {b : Byte} {p : Port} (h : b.toNat = p.val + 1) (q : s.present p = true) :
    s.portField b = some p := by
  have : p.val < s.portCount := by simpa [State.present] using q
  have le : s.portCount ≤ 12 := by unfold State.portCount; split <;> omega
  unfold State.portField
  simp [h]
  omega

end Sys2Proof.Machine
end

