-- ==== Sys2Proof/Laws/Echo.lean ====
section
/-! SUPPORT. What the lists of Echo Arithmetic hold at each index. -/

namespace Sys2Proof.Machine

theorem length_correlateFrom (code : List Int) (n : Nat) (a : List Int) :
    (correlateFrom code n a).length = min n a.length := by
  induction n generalizing a with
  | zero => simp [correlateFrom]
  | succ n ih =>
    cases a with
    | nil => simp [correlateFrom]
    | cons x xs => simp [correlateFrom, ih]

/-- Every place of a correlation is the chip sum of what begins there (R136). -/
theorem correlateFrom_getElem? (code : List Int) (n : Nat) (a : List Int) (i : Nat) (hn : i < n) (ha : i < a.length) :
    (correlateFrom code n a)[i]? = some (chipSum code (a.drop i)) := by
  induction n generalizing a i with
  | zero => omega
  | succ n ih =>
    cases a with
    | nil => simp at ha
    | cons x xs =>
      cases i with
      | zero => simp [correlateFrom]
      | succ i => simpa [correlateFrom] using ih xs i (by omega) (by simpa using ha)

@[simp] theorem length_peaksFrom (i : Nat) (l : Int) (ys : List Int) : (peaksFrom i l ys).length = ys.length := by
  induction ys generalizing i l with
  | nil => rfl
  | cons y ys ih => simp [peaksFrom, ih]

/-- The peak at a place has the value there and its neighbours', the given one on the left of the first. -/
theorem peaksFrom_getElem? (i : Nat) (l : Int) (ys : List Int) (j : Nat) (h : j < ys.length) :
    (peaksFrom i l ys)[j]? = some ⟨i + j, (l :: ys).getD j 0, ys.getD j 0, ys[j + 1]?⟩ := by
  induction ys generalizing i l j with
  | nil => simp at h
  | cons y ys ih =>
    cases j with
    | zero => cases ys <;> simp [peaksFrom]
    | succ j =>
      have := ih (i + 1) y j (by simpa using h)
      simp only [peaksFrom, List.getElem?_cons_succ, this]
      simp only [List.getD_cons_succ]
      congr 2; omega

/-- The largest magnitude bounds every magnitude of the list; below, it is one of them. -/
theorem le_largestMagnitude (ys : List Int) {y : Int} (h : y ∈ ys) : y.natAbs ≤ largestMagnitude ys := by
  have up : ∀ (l : List Int) (m : Nat), m ≤ l.foldl (fun m y => max m y.natAbs) m := by
    intro l
    induction l with
    | nil => exact fun m => Nat.le_refl m
    | cons x l ih => exact fun m => Nat.le_trans (Nat.le_max_left m x.natAbs) (ih _)
  have : ∀ (l : List Int) (m : Nat), y ∈ l → y.natAbs ≤ l.foldl (fun m y => max m y.natAbs) m := by
    intro l
    induction l with
    | nil => simp
    | cons x l ih =>
      intro m hy
      rcases List.mem_cons.mp hy with rfl | hy
      · exact Nat.le_trans (Nat.le_max_right m y.natAbs) (up l _)
      · exact ih _ hy
  exact this ys 0 h

theorem largestMagnitude_mem (ys : List Int) (h : ys ≠ []) : ∃ y ∈ ys, y.natAbs = largestMagnitude ys := by
  have : ∀ (l : List Int) (m : Nat),
      l.foldl (fun m y => max m y.natAbs) m = m ∨ ∃ y ∈ l, y.natAbs = l.foldl (fun m y => max m y.natAbs) m := by
    intro l
    induction l with
    | nil => exact fun m => .inl rfl
    | cons x l ih =>
      intro m
      rcases ih (max m x.natAbs) with e | ⟨y, hy, e⟩
      · rcases Nat.le_total m x.natAbs with hm | hm
        · exact .inr ⟨x, by simp, by rw [List.foldl_cons, e]; exact (Nat.max_eq_right hm).symm⟩
        · exact .inl (by rw [List.foldl_cons, e]; exact Nat.max_eq_left hm)
      · exact .inr ⟨y, by simp [hy], e⟩
  rcases this ys 0 with e | e
  · obtain ⟨y, hy⟩ := List.exists_mem_of_ne_nil ys h
    have := le_largestMagnitude ys hy
    exact ⟨y, hy, by unfold largestMagnitude at *; omega⟩
  · exact e

end Sys2Proof.Machine
end

