-- ==== Sys2Proof/Laws/PerInstr.lean ====
section
/-! SUPPORT. For every command: a well-formed frame of a peer, or quiet-hold record, names a station from 1 to 8 (R8 step 5,
R67), and no supervisor request names one. -/

namespace Sys2Proof.Laws.PeerChecked

open Sys2Proof Sys2Proof.Machine

/-- The station a command names: the sender of a peer's frame, or the asker of a quiet-hold record. -/
def stationOf : Instr → Option Station
  | .quietAsk st _ _ | .quietEnd st _ | .sweepStart st _ _ _ | .sweepEnd st _ | .couplingSeen st _ _ _
  | .quietRecordExpiry _ st _ => some st
  | _ => none

/-- A well-formed command that names a station names one from 1 to 8, and is no request. -/
def Statement (i : Instr) : Prop :=
  i.wellFormed = true → ∀ st, stationOf i = some st → 1 ≤ st.toNat ∧ st.toNat ≤ 8 ∧ requestOf i = none

theorem named {i : Instr} {st : Station} (h : stationOf i = some st) (w : i.wellFormed = peerStation st)
    (r : requestOf i = none) : Statement i := by
  intro a st' h'
  rw [h] at h'
  cases h'
  have b : peerStation st = true := w ▸ a
  simp only [peerStation, Bool.and_eq_true, decide_eq_true_eq] at b
  exact ⟨b.1, b.2, r⟩

theorem unnamed {i : Instr} (h : stationOf i = none) : Statement i := by
  intro _ _ h'
  rw [h] at h'
  cases h'

theorem resetAssert : Statement .resetAssert := unnamed rfl
theorem resetRelease (sta : BitVec 3) (pcs : Bool) (aut : Bool) : Statement (.resetRelease sta pcs aut) := unnamed rfl
theorem minuteAdvance : Statement .minuteAdvance := unnamed rfl
theorem frameReceived (kind : Byte) (header : Byte) (payload : List Byte) (check : Byte) : Statement (.frameReceived kind header payload check) := unnamed rfl
theorem frameBreak : Statement .frameBreak := unnamed rfl
theorem frameLengthOverflow (len : Byte) : Statement (.frameLengthOverflow len) := unnamed rfl
theorem trailingCell : Statement .trailingCell := unnamed rfl
theorem lineIdle : Statement .lineIdle := unnamed rfl
theorem arbitrationLost : Statement .arbitrationLost := unnamed rfl
theorem collisionError : Statement .collisionError := unnamed rfl
theorem frameSent : Statement .frameSent := unnamed rfl
theorem stationReset : Statement .stationReset := unnamed rfl
theorem enable (port : Byte) : Statement (.enable port) := unnamed rfl
theorem disable (port : Byte) : Statement (.disable port) := unnamed rfl
theorem retrain (port : Byte) : Statement (.retrain port) := unnamed rfl
theorem unpark (port : Byte) : Statement (.unpark port) := unnamed rfl
theorem sweep (port : Byte) (mask : Byte) (depth : Byte) (flags : Byte) : Statement (.sweep port mask depth flags) := unnamed rfl
theorem cancelSweep (port : Byte) : Statement (.cancelSweep port) := unnamed rfl
theorem setProfile (bytes : ProfileBytes) : Statement (.setProfile bytes) := unnamed rfl
theorem setGuard (mask : BitVec 16) : Statement (.setGuard mask) := unnamed rfl
theorem setSurvey (interval : Byte) (mode : Byte) : Statement (.setSurvey interval mode) := unnamed rfl
theorem queryStation : Statement .queryStation := unnamed rfl
theorem queryPort (port : Byte) : Statement (.queryPort port) := unnamed rfl
theorem readRecord (port : Byte) : Statement (.readRecord port) := unnamed rfl
theorem readCoupling (start : Byte) : Statement (.readCoupling start) := unnamed rfl
theorem clearCoupling : Statement .clearCoupling := unnamed rfl
theorem quietAsk (sender : Station) (port : Byte) (units : Byte) : Statement (.quietAsk sender port units) := named rfl rfl rfl
theorem quietEnd (sender : Station) (port : Byte) : Statement (.quietEnd sender port) := named rfl rfl rfl
theorem sweepStart (sender : Station) (port : Byte) (mask : Byte) (units : Byte) : Statement (.sweepStart sender port mask units) := named rfl rfl rfl
theorem sweepEnd (sender : Station) (port : Byte) : Statement (.sweepEnd sender port) := named rfl rfl rfl
theorem couplingSeen (sender : Station) (swept : Byte) (sendersPort : Byte) (level : BitVec 16) : Statement (.couplingSeen sender swept sendersPort level) := named rfl rfl rfl
theorem energyOn (port : Port) : Statement (.energyOn port) := unnamed rfl
theorem energyOff (port : Port) : Statement (.energyOff port) := unnamed rfl
theorem burst (port : Port) (offer : GradeSet) (ack : Bool) (remoteFault : Bool) : Statement (.burst port offer ack remoteFault) := unnamed rfl
theorem plainPulse (port : Port) : Statement (.plainPulse port) := unnamed rfl
theorem trainProgress (port : Port) (stage : TrainStage) : Statement (.trainProgress port stage) := unnamed rfl
theorem trainFault (port : Port) (kind : TrainFaultKind) (pair : Pair) : Statement (.trainFault port kind pair) := unnamed rfl
theorem linkLost (port : Port) : Statement (.linkLost port) := unnamed rfl
theorem powerDetectBegin (port : Port) : Statement (.powerDetectBegin port) := unnamed rfl
theorem powerDetectEnd (port : Port) : Statement (.powerDetectEnd port) := unnamed rfl
theorem captureDone (port : Port) (tag : Byte) (data : Capture) : Statement (.captureDone port tag data) := unnamed rfl
theorem captureTimeout (port : Port) : Statement (.captureTimeout port) := unnamed rfl
theorem calibrationResult (engine : EngineId) : Statement (.calibrationResult engine) := unnamed rfl
theorem negWindowExpiry (port : Port) : Statement (.negWindowExpiry port) := unnamed rfl
theorem trainWindowExpiry (port : Port) : Statement (.trainWindowExpiry port) := unnamed rfl
theorem backoffExpiry (port : Port) : Statement (.backoffExpiry port) := unnamed rfl
theorem quietRecordExpiry (port : Port) (asker : Station) (askerPort : Port) : Statement (.quietRecordExpiry port asker askerPort) := named rfl rfl rfl
theorem settleExpiry (engine : EngineId) : Statement (.settleExpiry engine) := unnamed rfl
theorem retryWaitExpiry (engine : EngineId) : Statement (.retryWaitExpiry engine) := unnamed rfl
theorem preparePass (engine : EngineId) : Statement (.preparePass engine) := unnamed rfl
theorem analysisEnd (engine : EngineId) : Statement (.analysisEnd engine) := unnamed rfl
theorem listenJobEnd (engine : EngineId) : Statement (.listenJobEnd engine) := unnamed rfl
theorem holdoffExpiry (port : Port) : Statement (.holdoffExpiry port) := unnamed rfl
theorem surveyExpiry : Statement .surveyExpiry := unnamed rfl
theorem newFrame : Statement .newFrame := unnamed rfl

end Sys2Proof.Laws.PeerChecked
end

