-- ==== Sys2Proof/Laws/Records.lean ====
section
/-! SUPPORT. The pair records: what an untested one and a written one hold, and that a write keeps a record sound. -/

namespace Sys2Proof.Machine

/-! ## Untested and tested pair records (R149) -/

@[simp] theorem PairRecord.untested_verdict (q : Pair) : (PairRecord.untested q).verdict = none := rfl
@[simp] theorem PairRecord.untested_low (q : Pair) : (PairRecord.untested q).low = false := rfl
@[simp] theorem PairRecord.untested_distance (q : Pair) : (PairRecord.untested q).distance = none := rfl
@[simp] theorem PairRecord.untested_reflections (q : Pair) : (PairRecord.untested q).reflections = [] := rfl
@[simp] theorem PairRecord.untested_tested (q : Pair) : (PairRecord.untested q).tested = false := rfl
@[simp] theorem PairRecord.untested_judged (q : Pair) (f : Verdict → Bool) : (PairRecord.untested q).judged f = false := rfl

@[simp] theorem PairResult.record_verdict (x : PairResult) : x.record.verdict = some x.verdict := rfl
@[simp] theorem PairResult.record_low (x : PairResult) : x.record.low = x.low := rfl
@[simp] theorem PairResult.record_noisy (x : PairResult) : x.record.noisy = x.noisy := rfl
@[simp] theorem PairResult.record_clipped (x : PairResult) : x.record.clipped = x.clipped := rfl
@[simp] theorem PairResult.record_distance (x : PairResult) : x.record.distance = x.distance := rfl
@[simp] theorem PairResult.record_noise (x : PairResult) : x.record.noise = x.noise := rfl
@[simp] theorem PairResult.record_cross (x : PairResult) : x.record.cross = x.cross := rfl
@[simp] theorem PairResult.record_crossPair (x : PairResult) : x.record.crossPair = x.crossPair := rfl
@[simp] theorem PairResult.record_reflections (x : PairResult) : x.record.reflections = x.reflections := rfl
@[simp] theorem PairResult.record_tested (x : PairResult) : x.record.tested = true := rfl
@[simp] theorem PairResult.record_judged (x : PairResult) (f : Verdict → Bool) : x.record.judged f = f x.verdict := rfl

/-- A test passes on a pair record exactly where the pair is TESTED with such a verdict. -/
theorem PairRecord.judged_iff {x : PairRecord} {f : Verdict → Bool} :
    x.judged f = true ↔ ∃ v, x.verdict = some v ∧ f v = true := by
  unfold PairRecord.judged
  cases x.verdict <;> simp

/-! ## Soundness -/

@[simp] theorem PairRecord.untested_sound (q : Pair) : (PairRecord.untested q).sound q = true := by
  simp [PairRecord.sound]

@[simp] theorem PairResult.record_sound (x : PairResult) (q : Pair) : x.record.sound q = x.sound := rfl

@[simp] theorem CableRecord.neverTested_sound : CableRecord.neverTested.sound = true := by decide +kernel

@[simp] theorem atPair_putPair_same {α : Type} (f : Four α) (q : Pair) (x : α) : atPair (putPair f q x) q = x := by
  cases q <;> rfl

theorem atPair_putPair_ne {α : Type} (f : Four α) {q r : Pair} (x : α) (h : r ≠ q) :
    atPair (putPair f q x) r = atPair f r := by
  cases q <;> cases r <;> first | rfl | exact absurd rfl h

/-- The pair records of a sound cable record are sound. -/
theorem CableRecord.sound_pair {r : CableRecord} (h : r.sound = true) (q : Pair) : (atPair r.pairs q).sound q = true := by
  have : ∀ q ∈ allPairs, (atPair r.pairs q).sound q = true := by
    unfold CableRecord.sound at h
    exact List.all_eq_true.1 (Bool.and_eq_true_iff.1 h).2
  exact this q (by cases q <;> decide)

/-- A write of a sound result keeps a record sound: header and allowed set follow the pair records (R150). -/
theorem CableRecord.write_sound {r : CableRecord} {q : Pair} {x : PairResult} (o : Origin) (c : Bool) (h : r.sound = true)
    (hx : x.sound = true) : (r.write q x o c).sound = true := by
  have : ∀ p ∈ allPairs, (atPair (putPair r.pairs q x.record) p).sound p = true := by
    intro p _
    by_cases e : p = q
    · subst e; simpa using hx
    · rw [atPair_putPair_ne _ _ e]; exact r.sound_pair h p
  simpa [CableRecord.sound, CableRecord.write, List.all_eq_true] using this

end Sys2Proof.Machine
end

