-- ==== Sys2Proof/Tests/Slice0.lean ====
section
/-! SUPPORT. Tests on small states: the checks of WellFormed, the manual's tables and worked cases, one step each; and for every
statement with hypotheses a state and operands that meet them, clause by clause. Expected values come from the chapter named at
each test. -/

namespace Sys2Proof.Tests

set_option Elab.async false

open Sys2Proof Sys2Proof.Machine

/-! ## Helpers -/

/-- A lane in ADVERTISE with its word on the tap. -/
def calm : Lane := { Lane.powerOn with state := .advertise, offered := 15, tapCommand := some (.sendWord 15 false) }

/-- The part after start-up: every lane in ADVERTISE, both engines IDLE. -/
def running : State :=
  { State.reset with lanes := Vector.replicate 12 calm, engines := Vector.replicate 2 Engine.idle, calList := [] }

/-- Port 1's lane is l. -/
def withLane (l : Lane) : State := running.setLane 0 l

/-- A lane that rests in a state without grade or timer. -/
def rested (st : LaneState) : Lane := { calm with state := st, tapCommand := some .sendQuiet }

/-- A lane in UP at G4 since count 0. -/
def linked : Lane := { calm with state := .up, grade := some .g4, energy := true }

/-- A lane that trains at G4. -/
def training : Lane := { calm with state := .train, training := some .g4, timer := some (.train, 0), energy := true }

/-- A lane in NEGOTIATE with this record. -/
def negotiating (n : NegRecord) : Lane := { calm with state := .negotiate, neg := n, timer := some (.negotiate, 0), energy := true }

/-- A WAITING supervisor entry for port 1, all pairs at depth 3. -/
def entry : Entry := ⟨0, 15, 3, .supervisor, false, .waiting, 0, 0, none, none, false⟩

/-- The same entry RUNNING on engine 0. -/
def started : Entry := { entry with state := .running, engine := some 0, snapshot := some ⟨690, 12, 24⟩ }

def heldBySweep : Lane := { rested .held with hold := ⟨true, false, false, false⟩ }

/-- Engine 0, as g, runs the sweep x of port 1. -/
def sweeping (g : Engine) (x : Entry) : State :=
  ({ withLane heldBySweep with queue := [x] }).setEngine 0 { g with bound := some 0 }

def preparing : Engine := { Engine.idle with state := .preparing }

/-- An engine that shoots pair A, its eighth and last shot out. -/
def shooting : Engine :=
  { Engine.idle with
    state := .shooting, passPairs := 15, current := some .a, issued := 8, completed := 7, announcement := .started }

/-- An engine at the end of its analysis of a pair, which ends the pass or not. -/
def analysing (q : Pair) : Engine :=
  { Engine.idle with
    state := .analysing, passPairs := 15, current := some q, issued := 8, completed := 8
    announcement := .started, timer := some (.analysis, 0) }

/-- Port 1 as engine 0 holds it with the capture of tag 7 out. -/
def captured : Lane :=
  { heldBySweep with holder := .engine 0, outstanding := some 7, captureDue := some 0, tapCommand := some (.shoot .a 7) }

/-- A listen job of engine 0 for port 7 of station 2, due now, with port 1 its member at this reading. -/
def job (reading : Nat) : ListenJob := ⟨2, 6, 0, [⟨0, reading, true⟩]⟩

/-- Engine 0 runs that job and holds port 1, which rests in HELD for it. -/
def listening (reading : Nat) : State :=
  (withLane { rested .held with
    hold := ⟨false, true, false, false⟩, holder := .engine 0, outstanding := some 7
    tapCommand := some (.listen 15 7) }).setEngine 0
      { Engine.idle with state := .listening, job := some (job reading) }

def block : ShotBlock := ⟨Vector.replicate 32 0, Vector.replicate 512 0⟩
def silence : Vector Sample 512 := Vector.replicate 512 0

/-- The command has a next state that passes the check. -/
def gives (c : Instr) (s : State) (check : State → Bool) : Bool :=
  match exec c s with
  | .next t => check t
  | .fault _ => false
  | .refused _ => false

/-- The command stops with this fault. -/
def faults (c : Instr) (s : State) (f : Fault) : Bool :=
  match exec c s with
  | .next _ => false
  | .fault g => decide (g = f)
  | .refused _ => false

/-- The state a command leads to. -/
def after (c : Instr) (s : State) : State :=
  match exec c s with
  | .next t => t
  | .fault _ => s
  | .refused _ => s

/-- The correlation with these values at these indices and 0 elsewhere. -/
def correlation (values : List (Nat × Int)) : List Int :=
  (List.range 505).map fun i => ((values.find? fun x => decide (x.1 = i)).map (·.2)).getD 0

/-! ## WellFormed: each check refuses an ill-formed command and passes its neighbour -/

theorem test_frameReceived_long_refused : (Instr.frameReceived 8 0 (List.replicate 17 0) 0).wellFormed = false ∧
    (Instr.frameReceived 8 0 (List.replicate 16 0) 0).wellFormed = true := by decide

theorem test_lengthOverflow_short_refused : (Instr.frameLengthOverflow 16).wellFormed = false ∧
    (Instr.frameLengthOverflow 17).wellFormed = true := by decide

theorem test_quietAsk_station_refused : (Instr.quietAsk 0 1 1).wellFormed = false ∧ (Instr.quietAsk 1 1 1).wellFormed = true := by
  decide

theorem test_quietEnd_station_refused : (Instr.quietEnd 9 1).wellFormed = false ∧ (Instr.quietEnd 8 1).wellFormed = true := by
  decide

theorem test_sweepStart_station_refused : (Instr.sweepStart 15 1 15 1).wellFormed = false ∧
    (Instr.sweepStart 8 1 15 1).wellFormed = true := by decide

theorem test_sweepEnd_station_refused : (Instr.sweepEnd 0 1).wellFormed = false ∧ (Instr.sweepEnd 1 1).wellFormed = true := by
  decide

theorem test_couplingSeen_station_refused : (Instr.couplingSeen 9 1 1 20).wellFormed = false ∧
    (Instr.couplingSeen 2 1 1 20).wellFormed = true := by decide

theorem test_quietRecordExpiry_station_refused : (Instr.quietRecordExpiry 0 0 0).wellFormed = false ∧
    (Instr.quietRecordExpiry 0 8 0).wellFormed = true := by decide

/-! ## The table's words -/

/-- spec/opcode_table.json gives no row any bits. -/
theorem test_no_word_spells_a_command : decodeTableWord 8 0x55 = none ∧ State.reset.withFetchWord 8 0x55 = State.reset :=
  ⟨rfl, rfl⟩

/-! ## Worked cases of Echo Arithmetic, Grade Resolution and Cable Records -/

/-- 08, An impedance fault at mid-run: HIGH_IMP at 497 dm, level +341. -/
theorem test_impedance_fault : keptReflections ⟨690, 12, 24⟩ 3600 20 (correlation [(122, 410), (123, 900), (124, 650)]) =
    [⟨497, 341⟩] ∧ reflectionClass 341 = some .highImp := by decide +kernel

/-- 08, A near short, a merged peak and the clamps. -/
theorem test_near_short : keptReflections ⟨690, 40, 24⟩ 2000 30 (correlation
    [(15, -600), (16, -1500), (17, -2300), (18, -1100), (19, -800), (20, -640), (21, -650), (22, -700), (23, -400), (59, 200),
      (60, 260), (61, 240)]) = [⟨57, -1000⟩, ⟨237, 205⟩] := by decide +kernel

/-- 08, A peak at the end of the window: OPEN at 2,413 dm, level +650. -/
theorem test_end_of_window : keptReflections ⟨800, 0, 8⟩ 4000 10 (correlation [(503, 1000), (504, 2600)]) = [⟨2413, 650⟩] := by
  decide +kernel

/-- 08, An open beside a crossed pair: within 3 dm the OPEN is the verdict, at 4 dm the CROSSED is. -/
theorem test_open_beside_crossed : chooseVerdict [⟨819, 1000⟩] [⟨.d, 450, 816⟩] = (.opened, some 819) ∧
    chooseVerdict [⟨820, 1000⟩] [⟨.d, 450, 816⟩] = (.crossed .d, some 816) := by decide

theorem test_cross_view : crossView ⟨690, 12, 24⟩ 3000 .d (correlation [(199, 1200), (200, 1350), (201, 1290)]) =
    ⟨.d, 450, 816⟩ := by decide +kernel

/-- 08, Averaging and noise with a failed shot. -/
theorem test_noise : noiseFigure [40, 52, 110, 98, 45, 120, 60] = 75 ∧ isNoisy [40, 52, 110, 98, 45, 120, 60] 7 = false := by
  decide

/-- 06, derivation examples of the allowed set. -/
theorem test_allowed_sets :
    let good : PairResult := ⟨.good, false, false, false, none, 5, 0, .b, []⟩
    let is (v : Verdict) (low : Bool) : PairRecord := { good.record with verdict := some v, low := low }
    let g : PairRecord := good.record
    allowedSet ⟨g, g, g, g⟩ = 0b1111 ∧ allowedSet ⟨g, g, g, is .opened false⟩ = 0b0011 ∧
    allowedSet ⟨g, g, g, is .opened true⟩ = 0b1111 ∧ allowedSet ⟨g, is .highImp false, g, g⟩ = 0b0111 ∧
    allowedSet ⟨is .shorted false, g, g, g⟩ = 0 ∧ allowedSet ⟨g, g, is (.crossed .d) false, g⟩ = 0b0011 ∧
    allowedSet ⟨g, g, is .highImp false, is .opened false⟩ = 0b0011 ∧
    allowedSet ⟨g, is .untestable false, g, is .lowImp false⟩ = 0b0111 := by decide

/-- 06, A partner that offers only G3: the ladder at attempts 1 to 4. -/
theorem test_ladder :
    let at1 : Lane := { calm with ceiling := .g2, attempts := 0 }
    let step (l : Lane) := (l.ladder 0b0011).1
    ((step at1).ceiling, (step at1).attempts) = (.g2, 1) ∧
    ((step (step at1)).ceiling, (step (step at1)).attempts) = (.g1, 0) ∧
    ((step (step (step at1))).ladder 0b0011).2 = .park := by decide

/-- 08, the alien level: 20 begins at a reading of 320. -/
theorem test_alien_level : alienLevel 319 = 19 ∧ alienLevel 320 = 20 ∧ alienLevel 16384 = 1000 := by decide

/-! ## One step of each command -/

theorem test_running_safe : running.safe = true := by decide +kernel

/-- R35 to R37: the strap value 7 is station 8; with 8 ports the list keeps ports 3 to 8. -/
theorem test_resetRelease : gives (.resetRelease 7 false true) running (fun t =>
    decide (t.station = 8 ∧ t.portCount = 8 ∧ t.calList = [2, 3, 4, 5, 6, 7] ∧ (t.lane 0).tapCommand = some (.calShoot 0))) = true := by
  decide +kernel

theorem test_resetRelease_is_reset :
    gives (.resetRelease 0 true true) running (fun t => decide (t = State.reset)) = true := by decide +kernel

theorem test_resetAssert : gives .resetAssert { running with coordList := [⟨⟨0x10, 15, [1, 5]⟩, none⟩] } (fun t =>
    t.inReset && t.coordList.isEmpty && decide ((t.engine 0).state = .idle)) = true := by decide +kernel

/-- R1, R153. -/
theorem test_minuteAdvance : gives .minuteAdvance { running with ms := 60000 } (fun t =>
    decide (t.minutes = 1 ∧ t.minuteMark = 60000 ∧ (t.record 11).age = 1)) = true := by decide +kernel

theorem test_minuteAdvance_early : gives .minuteAdvance { running with ms := 59999 } (fun t => decide (t.minutes = 0)) = true := by
  decide +kernel

/-- R4, R5: QUERY_STATION from the supervisor to station 1; its bytes sum to 0 with check F7. -/
theorem test_frameReceived : gives (.frameReceived 0x08 0x01 [] 0xF7) { running with rx := .inFrame } (fun t =>
    decide (t.replyList.length = 1 ∧ t.checkFailures = 0 ∧ t.rx = .afterFrame)) = true := by decide +kernel

theorem test_frameReceived_bad_check : gives (.frameReceived 0x08 0x01 [] 0xF6) { running with rx := .inFrame } (fun t =>
    decide (t.replyList = [] ∧ t.checkFailures = 1)) = true := by decide +kernel

theorem test_frameBreak : gives .frameBreak { running with rx := .inFrame } (fun t =>
    decide (t.checkFailures = 1 ∧ t.rx = .waitIdle)) = true := by decide +kernel

theorem test_frameLengthOverflow : gives (.frameLengthOverflow 17) { running with rx := .inFrame } (fun t =>
    decide (t.checkFailures = 1 ∧ t.rx = .waitIdle)) = true := by decide +kernel

theorem test_trailingCell : gives .trailingCell { running with rx := .afterFrame } (fun t => decide (t.checkFailures = 1)) = true := by
  decide +kernel

/-- R14: at idle the head of the coordination list goes before a reply. -/
theorem test_lineIdle : gives .lineIdle
    { running with coordList := [⟨⟨0x12, 15, [3]⟩, none⟩], replyList := [acceptedReply 1 4] } (fun t =>
    decide (t.tx = some ⟨⟨0x12, 15, [3]⟩, .coordination⟩)) = true := by decide +kernel

theorem test_newFrame : gives .newFrame { running with rx := .idle } (fun t => decide (t.rx = .inFrame)) = true := by decide +kernel

theorem test_arbitrationLost : gives .arbitrationLost (after .lineIdle { running with replyList := [acceptedReply 1 4] }) (fun t =>
    decide (t.tx = none ∧ t.rx = .inFrame ∧ t.replyList.length = 1)) = true := by decide +kernel

/-- R7: the eighth consecutive collision error drops the frame. -/
theorem test_collisionError : gives .collisionError
    { after .lineIdle { running with replyList := [acceptedReply 1 4] } with collisionRun := 7 } (fun t =>
    decide (t.replyList = [] ∧ t.collisionErrors = 1 ∧ t.collisionRun = 0)) = true := by decide +kernel

theorem test_frameSent : gives .frameSent (after .lineIdle { running with replyList := [acceptedReply 1 4] }) (fun t =>
    decide (t.replyList = [] ∧ t.tx = none)) = true := by decide +kernel

/-- R45, R92: DISABLED is kept, every other lane advertises. -/
theorem test_stationReset : gives .stationReset { withLane (rested .disabled) with checkFailures := 9, guards := 5 } (fun t =>
    decide ((t.lane 0).state = .disabled ∧ (t.lane 1).state = .advertise ∧ t.checkFailures = 0 ∧ t.guards = 5)) = true := by
  decide +kernel

theorem test_enable : gives (.enable 1) (withLane (rested .disabled)) (fun t => decide ((t.lane 0).state = .advertise)) = true := by
  decide +kernel

theorem test_disable : gives (.disable 1) (withLane linked) (fun t =>
    decide ((t.lane 0).state = .disabled ∧ t.flagsOf 0 = 2)) = true := by decide +kernel

theorem test_retrain_guarded : gives (.retrain 1) { withLane linked with guards := 1 } (fun t =>
    decide ((t.lane 0).state = .up ∧ t.replyList = [refusedReply 0x02 3])) = true := by decide +kernel

theorem test_unpark : gives (.unpark 1) (withLane { rested .parked with ceiling := .g1, attempts := 2 }) (fun t =>
    decide ((t.lane 0).state = .advertise ∧ (t.lane 0).ceiling = .g4 ∧ (t.lane 0).attempts = 0)) = true := by decide +kernel

/-- R113: depth 7 is clamped to 6 and answered CLAMPED. -/
theorem test_sweep : gives (.sweep 1 15 7 0) running (fun t =>
    decide (t.replyList = [acceptedReply 0x03 2] ∧ t.queue.map (·.depth) = [6] ∧ (t.engine 0).bound = some 0 ∧
      (t.lane 0).hold.sweep = true)) = true := by decide +kernel

/-- R126 is not met by a cancel: SWEEP_ENDED_EARLY (80 hex) is posted and the lane advertises again (R114, R116). -/
theorem test_cancelSweep : gives (.cancelSweep 1) (after (.sweep 1 15 3 0) running) (fun t =>
    decide (t.queue = [] ∧ (t.lane 0).state = .advertise ∧ (t.engine 0).state = .idle)) = true := by decide +kernel

theorem test_setProfile : gives (.setProfile ⟨1, 1, 7, 900, 12, 3, 20, 8, 0, 0, 3⟩) running (fun t =>
    decide ((t.lane 0).active.nvp = 800 ∧ (t.lane 0).offered = 7 ∧ t.replyList = [acceptedReply 0x05 2])) = true := by
  decide +kernel

theorem test_setGuard : gives (.setGuard 0x1000) running (fun t => decide (t.replyList = [refusedReply 0x06 1])) = true := by
  decide +kernel

theorem test_setSurvey : gives (.setSurvey 3 0) running (fun t =>
    decide (t.surveyInterval = 6 ∧ t.surveyTimer = some 60000 ∧ t.replyList = [acceptedReply 0x07 2])) = true := by decide +kernel

theorem test_queryPort_absent : gives (.queryPort 13) running (fun t => decide (t.replyList = [refusedReply 0x09 1])) = true := by
  decide +kernel

theorem test_readRecord : gives (.readRecord 12) running (fun t =>
    decide (t.replyList = [.recordTrain 11 CableRecord.neverTested 0])) = true := by decide +kernel

theorem test_readCoupling : gives (.readCoupling 255) running (fun t =>
    decide (t.replyList = [.couplingTrain 255 0 [] 0])) = true := by decide +kernel

theorem test_clearCoupling : gives .clearCoupling { running with coupling := [⟨0, 2, 6, 60, true, false, 0⟩] } (fun t =>
    t.coupling.isEmpty) = true := by decide +kernel

/-- R165: level 50 is selected, 49 is not. -/
theorem test_quietAsk : gives (.quietAsk 2 7 6)
    { running with coupling := [⟨0, 2, 6, 50, true, false, 0⟩, ⟨1, 2, 6, 49, true, false, 0⟩] } (fun t =>
    decide ((t.lane 0).state = .held ∧ (t.lane 0).quiet = [⟨2, 6, 60⟩] ∧ (t.lane 1).state = .advertise)) = true := by decide +kernel

theorem test_quietEnd : gives (.quietEnd 2 7)
    (withLane { rested .held with hold := ⟨false, false, true, false⟩, quiet := [⟨2, 6, 60⟩] }) (fun t =>
    decide ((t.lane 0).state = .advertise)) = true := by decide +kernel

/-- R168, R169: the job runs for the listen units and 10 ms more. -/
theorem test_sweepStart : gives (.sweepStart 2 7 15 5) running (fun t =>
    decide ((t.engine 0).state = .listening ∧ (t.lane 11).hold.listen = true ∧
      (t.engine 0).job.map (fun j => (j.endTime, j.members.length)) = some (60, 12))) = true := by decide +kernel

theorem test_sweepEnd : gives (.sweepEnd 2 7) (listening 320) (fun t =>
    decide (t.coupling = [⟨0, 2, 6, 20, true, false, 0⟩] ∧ (t.lane 0).state = .advertise ∧ (t.engine 0).state = .idle ∧
      t.coordList = [⟨⟨0x14, 2, [7, 1, 0, 20]⟩, none⟩])) = true := by decide +kernel

theorem test_couplingSeen : gives (.couplingSeen 2 1 7 1001) running (fun t =>
    decide (t.coupling = [⟨0, 2, 6, 1000, false, true, 0⟩])) = true := by decide +kernel

theorem test_energyOn : gives (.energyOn 0) running (fun t => (t.lane 0).energy) = true := by decide +kernel

/-- R77, R80, R99: PARTNER_LOST is not cable-related and sends the lane to BACKOFF for 1,000 ms. -/
theorem test_energyOff : gives (.energyOff 0) (withLane training) (fun t =>
    decide ((t.lane 0).state = .backoff ∧ (t.lane 0).lastFailure = .partnerLost ∧ (t.lane 0).timer = some (.backoff, 1000))) = true := by
  decide +kernel

theorem test_burst_completes : gives (.burst 0 0b0110 true false) (withLane (negotiating ⟨some 0b0110, 3, true, 1⟩)) (fun t =>
    decide ((t.lane 0).state = .train ∧ (t.lane 0).training = some .g3 ∧ (t.lane 0).timer = some (.train, 800))) = true := by
  decide +kernel

/-- R55: an interval of 24 ms counts and one of 25 ms starts the count again. -/
theorem test_plainPulse : gives (.plainPulse 0) { withLane { calm with pulseCount := 2, lastPulse := some 0 } with ms := 24 } (fun t =>
    decide ((t.lane 0).state = .train)) = true ∧
    gives (.plainPulse 0) { withLane { calm with pulseCount := 2, lastPulse := some 0 } with ms := 25 } (fun t =>
      decide ((t.lane 0).pulseCount = 0)) = true := by decide +kernel

theorem test_trainProgress : gives (.trainProgress 0 .locked) (withLane training) (fun t =>
    decide ((t.lane 0).state = .up ∧ (t.lane 0).grade = some .g4 ∧ t.flagsOf 0 = 1)) = true := by decide +kernel

/-- R57: at G2 the open pair D takes no part. -/
theorem test_trainFault : gives (.trainFault 0 .pairMissing .d) (withLane { training with training := some .g2 }) (fun t =>
    decide ((t.lane 0).state = .train)) = true := by decide +kernel

theorem test_linkLost : gives (.linkLost 0) { withLane linked with ms := 1999 } (fun t =>
    decide ((t.lane 0).lastFailure = .lostEarly ∧ t.holdoff 0 = some 6999)) = true := by decide +kernel

theorem test_powerDetectBegin : gives (.powerDetectBegin 0) running (fun t =>
    decide ((t.lane 0).state = .held ∧ (t.lane 0).hold.power = true)) = true := by decide +kernel

theorem test_powerDetectEnd : gives (.powerDetectEnd 0)
    (withLane { rested .held with power := true, hold := ⟨false, false, false, true⟩ }) (fun t =>
    decide ((t.lane 0).state = .advertise)) = true := by decide +kernel

theorem test_captureDone_last_shot : gives (.captureDone 0 7 (.shoot ⟨block, block, block, block⟩))
    ((sweeping shooting started).setLane 0 captured) (fun t =>
    decide ((t.engine 0).state = .analysing ∧ (t.engine 0).completed = 8 ∧ (t.engine 0).timer = some (.analysis, 2))) = true := by
  decide +kernel

theorem test_captureDone_shape :
    faults (.captureDone 0 7 (.cal block)) ((sweeping shooting started).setLane 0 captured) .captureShape = true := by decide +kernel

theorem test_captureTimeout_third_failure : gives (.captureTimeout 0)
    ((sweeping { shooting with failedRun := 2 } started).setLane 0 captured) (fun t =>
    decide ((t.record 0).pairs.a.verdict = some .untestable)) = true := by decide +kernel

theorem test_calibrationResult_defaulted : gives (.calibrationResult 0)
    (State.reset.setEngine 0 { Engine.calibrating 0 with
      timer := some (.calibration, 0), cal := some ⟨0, 16, 0, clearedSums⟩ }) (fun t =>
    decide ((t.lane 0).offsetT = 24 ∧ (t.lane 0).calDefaulted = true ∧ (t.engine 0).cal.map (·.port) = some 2)) = true := by
  decide +kernel

/-- R75, R78: without energy the timeout is not cable-related. -/
theorem test_negWindowExpiry : gives (.negWindowExpiry 0) (withLane { negotiating .cleared with energy := false }) (fun t =>
    decide ((t.lane 0).lastFailure = .negTimeout ∧ (t.lane 0).state = .backoff ∧ t.queue = [])) = true := by decide +kernel

/-- R77 to R80: a train timeout is cable-related and asks for a sweep; energy present, the lane advertises. -/
theorem test_trainWindowExpiry : gives (.trainWindowExpiry 0) (withLane training) (fun t =>
    decide ((t.lane 0).lastFailure = .trainTimeout ∧ t.queue.map (·.origin) = [.laneFailure] ∧ (t.lane 0).state = .advertise)) = true := by
  decide +kernel

theorem test_backoffExpiry : gives (.backoffExpiry 0) (withLane { rested .backoff with timer := some (.backoff, 0) }) (fun t =>
    decide ((t.lane 0).state = .advertise)) = true := by decide +kernel

theorem test_quietRecordExpiry : gives (.quietRecordExpiry 0 2 6)
    (withLane { rested .held with hold := ⟨false, false, true, false⟩, quiet := [⟨2, 6, 0⟩] }) (fun t =>
    decide ((t.lane 0).state = .advertise ∧ (t.lane 0).quiet = [])) = true := by decide +kernel

/-- R120: QUIET_ASK with hold units for 4 pairs at depth 3: 4 × 10 + 20 = 60 ms, 6 units. -/
theorem test_preparePass : gives (.preparePass 0) (sweeping preparing started) (fun t =>
    decide (t.coordList = [⟨⟨0x10, 15, [1, 6]⟩, some 0⟩] ∧ (t.engine 0).timer = some (.settle, 20))) = true := by decide +kernel

/-- R120: SWEEP_START with listen units 4 × 8 + 10 = 42 ms, 5 units. -/
theorem test_settleExpiry : gives (.settleExpiry 0)
    (sweeping { preparing with passPairs := 15, announcement := .asked, timer := some (.settle, 0) } started) (fun t =>
    decide (t.coordList = [⟨⟨0x11, 15, [1, 15, 5]⟩, some 0⟩] ∧ (t.lane 0).tapCommand = some (.shoot .a 0))) = true := by
  decide +kernel

theorem test_retryWaitExpiry : gives (.retryWaitExpiry 0) (sweeping { preparing with timer := some (.retryWait, 0) } started)
    (fun t => decide ((t.engine 0).timer = none)) = true := by decide +kernel

/-- R125: the last pair of the mask completes the sweep. -/
theorem test_analysisEnd : gives (.analysisEnd 0) (sweeping (analysing .d) { started with completed := 7 }) (fun t =>
    decide (t.queue = [] ∧ (t.record 0).sequence = 1 ∧ (t.engine 0).state = .idle ∧ t.flagsOf 0 = 0x40)) = true := by decide +kernel

theorem test_listenJobEnd_below : gives (.listenJobEnd 0) (listening 319) (fun t =>
    decide (t.coupling = [] ∧ (t.engine 0).state = .idle)) = true := by decide +kernel

theorem test_holdoffExpiry : gives (.holdoffExpiry 0) (running.setHoldoff 0 (some 0)) (fun t =>
    decide (t.queue.map (·.origin) = [.linkDown])) = true := by decide +kernel

/-- R178: the port of the oldest record, here port 3, all records being COMPLETE. -/
theorem test_surveyExpiry : gives .surveyExpiry
    { running with
      surveyTimer := some 0, surveyEnabled := true, surveyInterval := 6
      records := (Vector.replicate 12 { CableRecord.neverTested with status := .complete, age := 5 }).set 2
        { CableRecord.neverTested with status := .complete, age := 6 } } (fun t =>
    decide (t.queue.map (·.port) = [2] ∧ t.surveyTimer = some 60000 ∧ t.passSet = 4)) = true := by decide +kernel

/-- R24: STATION_STATUS of a 12-port part begins 2E 61 12 10 03. -/
theorem test_queryStation : gives .queryStation running (fun t =>
    decide (t.replyList = [.single ⟨0x22, 0, [0x2E, 0x61, 0x12, 0x10, 0x03, 1, 12, 1, 0, 0, 0, 0, 0, 0, 0, 0]⟩])) = true := by
  decide +kernel

/-- On an empty queue with nothing due a millisecond passes (log 1). -/
theorem test_tick :
    (match step running with
     | .next t => decide (t = { running with ms := 1 })
     | .fault _ => false
     | .refused _ => false) = true := by decide +kernel

/-! ## Frames of R17 -/

/-- R27: a NEVER_TESTED record is its header alone, 11 bytes, with origin FF. -/
theorem test_record_header : recordPieces 11 CableRecord.neverTested = [⟨0x24, 0, [12, 0, 1, 0, 0, 0, 0xFF, 0, 0, 2, 0]⟩] := by
  decide +kernel

/-- R27: the payload lengths 11, 14 and, with two reflections, 12; the distance FFFF where there is none. -/
theorem test_record_pieces :
    (let r : PairResult := ⟨.good, false, true, false, none, 5, 62, .d, [⟨497, 341⟩, ⟨600, -200⟩]⟩
     let f := recordPieces 0 { CableRecord.neverTested with pairs := putPair CableRecord.neverTested.pairs .b r.record }
     f.map (·.payload.length) = [11, 14, 12] ∧
     (f.map (·.payload)).getD 1 [] = [1, 1, 3, 1, 0, 2, 0xFF, 0xFF, 0, 5, 0, 62, 3, 2] ∧
     (f.map (·.payload)).getD 2 [] = [1, 2, 3, 1, 0x01, 0xF1, 0x01, 0x55, 0x02, 0x58, 0xFF, 0x38]) := by decide +kernel

/-- R28: three entries from index 8 go in two pieces, of 14 and 8 bytes. -/
theorem test_coupling_pieces :
    (let c : CouplingEntry := ⟨0, 2, 6, 212, true, true, 4⟩
     (couplingPieces 8 11 [c, c, c]).map (·.payload) =
      [[8, 11, 1, 0x27, 0, 212, 3, 4, 1, 0x27, 0, 212, 3, 4], [10, 11, 1, 0x27, 0, 212, 3, 4]]) := by decide +kernel

/-! ## Witnesses: for each statement with hypotheses, a state and operands for each of its clauses -/

theorem noJob (d : EngineId) : (running.engine d).job = none := by revert d; decide +kernel

/-- A sweep of port 1 that prepares, a told and a heard coupling, a frame and a reply that wait. -/
def busy : State :=
  { after (.sweep 1 15 3 0) running with
    coupling := [⟨0, 2, 6, 20, true, false, 0⟩, ⟨0, 2, 7, 1000, false, true, 255⟩]
    coordList := [⟨⟨0x10, 15, [1, 6]⟩, some 0⟩] }

/-- The same with one command waiting. -/
def busyWith (c : Instr) : State := { busy with pending := [c] }

theorem test_busy_steps : (match step (busyWith (.powerDetectBegin 0)) with
    | .next t => t.safe
    | .fault _ => false
    | .refused _ => false) = true := by decide +kernel

theorem next_of_gives {o : Host.Outcome State Fault Refusal} {f : State → Bool}
    (h : (match o with | .next t => f t | .fault _ => false | .refused _ => false) = true) : ∃ t, o = .next t ∧ f t = true := by
  cases o with
  | next t => exact ⟨t, rfl, h⟩
  | fault _ => cases h
  | refused _ => cases h

/-- A state that satisfies every invariant, and whose step has a next state. -/
theorem test_witness_invariants :
    (busyWith (.powerDetectBegin 0)).safe = true ∧ ∃ t, step (busyWith (.powerDetectBegin 0)) = .next t :=
  ⟨by decide +kernel, (next_of_gives test_busy_steps).imp fun _ h => h.1⟩

theorem test_witness_StepKeepsLaneState : (busyWith (.powerDetectBegin 0)).allLanes Lane.stateSound = true ∧
    ∃ t, step (busyWith (.powerDetectBegin 0)) = .next t := ⟨by decide +kernel, test_witness_invariants.2⟩

theorem test_witness_StepKeepsHolds : (busyWith (.powerDetectBegin 0)).allLanes Lane.holdSound = true ∧
    ∃ t, step (busyWith (.powerDetectBegin 0)) = .next t := ⟨by decide +kernel, test_witness_invariants.2⟩

theorem test_witness_StepKeepsLadder : (busyWith (.powerDetectBegin 0)).allLanes Lane.stateSound = true ∧
    (busyWith (.powerDetectBegin 0)).allLanes Lane.ladderSound = true ∧
    ∃ t, step (busyWith (.powerDetectBegin 0)) = .next t := ⟨by decide +kernel, by decide +kernel, test_witness_invariants.2⟩

theorem test_witness_StepKeepsCoupling : (busyWith (.powerDetectBegin 0)).couplingSound = true ∧
    ∃ t, step (busyWith (.powerDetectBegin 0)) = .next t := ⟨by decide +kernel, test_witness_invariants.2⟩

theorem test_witness_StepKeepsRecords : (busyWith (.powerDetectBegin 0)).recordsSound = true ∧
    ∃ t, step (busyWith (.powerDetectBegin 0)) = .next t := ⟨by decide +kernel, test_witness_invariants.2⟩

theorem test_witness_StepKeepsLine : (busyWith (.powerDetectBegin 0)).lineSound = true ∧
    ∃ t, step (busyWith (.powerDetectBegin 0)) = .next t := ⟨by decide +kernel, test_witness_invariants.2⟩

theorem test_witness_StepKeepsQueue : (busyWith (.powerDetectBegin 0)).queueSound = true ∧
    ∃ t, step (busyWith (.powerDetectBegin 0)) = .next t := ⟨by decide +kernel, test_witness_invariants.2⟩

theorem test_witness_StepKeepsBinding : (busyWith (.powerDetectBegin 0)).allLanes Lane.stateSound = true ∧
    (busyWith (.powerDetectBegin 0)).bindingSound = true ∧
    ∃ t, step (busyWith (.powerDetectBegin 0)) = .next t := ⟨by decide +kernel, by decide +kernel, test_witness_invariants.2⟩

theorem test_witness_StepKeepsChoice : (busyWith (.powerDetectBegin 0)).choiceMade = true ∧
    ∃ t, step (busyWith (.powerDetectBegin 0)) = .next t := ⟨by decide +kernel, test_witness_invariants.2⟩

theorem test_witness_StepRunsFrontCommand : (busyWith .lineIdle).pending = .lineIdle :: [] := rfl

theorem test_witness_StepWithoutCommand :
    running.pending = [] ∧ (after .resetAssert running).inReset = true ∧ (after .resetAssert running).pending = [] ∧
    running.inReset = false ∧ running.dueEvents = [] ∧
    ({ running with surveyTimer := some 0 } : State).dueEvents = [.surveyExpiry] ∧
    2 ≤ ({ running with surveyTimer := some 0, ms := 0, minuteMark := 0 - 60000 } : State).dueEvents.length := by
  decide +kernel

/-- Each kind of due event: its timer runs out at the present count, or both waits of a pass are over. -/
theorem test_witness_ExpiryTakenBeforeTimePasses :
    (running.pending = [] ∧ running.inReset = false ∧ running.present 0 = true ∧
      (withLane training).isDue (.trainWindowExpiry 0)) ∧
    (withLane (negotiating .cleared)).isDue (.negWindowExpiry 0) ∧
    (withLane { rested .backoff with timer := some (.backoff, 0) }).isDue (.backoffExpiry 0) ∧
    (withLane { calm with quiet := [⟨2, 6, 0⟩] }).isDue (.quietRecordExpiry 0 2 6) ∧
    (withLane captured).isDue (.captureTimeout 0) ∧ (running.setHoldoff 0 (some 0)).isDue (.holdoffExpiry 0) ∧
    (running.setEngine 1 { preparing with timer := some (.settle, 0) }).isDue (.settleExpiry 1) ∧
    (running.setEngine 0 { preparing with timer := some (.retryWait, 0) }).isDue (.retryWaitExpiry 0) ∧
    (sweeping (analysing .a) started).isDue (.analysisEnd 0) ∧
    (running.setEngine 0 { Engine.idle with state := .calibrating, timer := some (.calibration, 0) }).isDue
      (.calibrationResult 0) ∧
    (listening 0).isDue (.listenJobEnd 0) ∧ (sweeping preparing started).isDue (.preparePass 0) ∧
    ({ running with surveyTimer := some 0 } : State).isDue .surveyExpiry ∧
    ({ running with ms := 60000 } : State).isDue .minuteAdvance ∧
    exec .surveyExpiry { running with surveyTimer := some 0 } = .next (after .surveyExpiry { running with surveyTimer := some 0 }) := by
  refine ⟨⟨rfl, rfl, rfl, .inr (.inr (.inl ⟨0, rfl, .inr (.inl ⟨rfl, rfl⟩)⟩))⟩, .inr (.inr (.inl ⟨0, rfl, .inl ⟨rfl, rfl⟩⟩)),
    .inr (.inr (.inl ⟨0, rfl, .inr (.inr (.inl ⟨rfl, rfl⟩))⟩)),
    .inr (.inr (.inl ⟨0, rfl, .inr (.inr (.inr (.inl ⟨⟨2, 6, 0⟩, by decide +kernel, rfl, rfl⟩)))⟩)),
    .inr (.inr (.inl ⟨0, rfl, .inr (.inr (.inr (.inr (.inl ⟨rfl, rfl⟩))))⟩)),
    .inr (.inr (.inl ⟨0, rfl, .inr (.inr (.inr (.inr (.inr ⟨rfl, rfl⟩))))⟩)),
    .inr (.inr (.inr ⟨1, .inl ⟨rfl, rfl⟩⟩)), .inr (.inr (.inr ⟨0, .inr (.inl ⟨rfl, rfl⟩)⟩)),
    .inr (.inr (.inr ⟨0, .inr (.inr (.inl ⟨rfl, rfl⟩))⟩)), .inr (.inr (.inr ⟨0, .inr (.inr (.inr (.inl ⟨rfl, rfl⟩)))⟩)),
    .inr (.inr (.inr ⟨0, .inr (.inr (.inr (.inr (.inl ⟨rfl, job 0, rfl, rfl⟩))))⟩)),
    .inr (.inr (.inr ⟨0, .inr (.inr (.inr (.inr (.inr ⟨rfl, rfl, rfl, by decide +kernel, 0, rfl, started, by decide +kernel, rfl⟩))))⟩)),
    .inr (.inl ⟨rfl, rfl⟩), .inl ⟨rfl, by decide +kernel⟩, rfl⟩

/-- Held in reset; and port 9, absent under the 8-port strap. -/
theorem test_witness_ResetPin : (after .resetAssert running).inReset = true ∧ Instr.lineIdle ≠ .resetAssert ∧
    (∀ a b d, Instr.lineIdle ≠ .resetRelease a b d) ∧
    (let s : State := { running with twelvePorts := false }
     s.inReset = false ∧ tapPortOf (.energyOn 8) = some 8 ∧ s.present 8 = false ∧ s.present 7 = true) := by
  refine ⟨by decide +kernel, by decide, (fun _ _ _ h => by cases h), by decide +kernel⟩

theorem test_witness_MinuteAdvance : running.inReset = false ∧
    timeBetween ({ running with ms := 60000 } : State).minuteMark ({ running with ms := 60000 } : State).ms = 60000 ∧
    timeBetween ({ running with ms := 59999 } : State).minuteMark ({ running with ms := 59999 } : State).ms ≠ 60000 := by
  decide +kernel

/-- Both engines busy beside a waiting entry; and port 2 has no entry. -/
theorem test_witness_EndOfCommand : (∀ e, (({ State.reset with queue := [entry] } : State).engine e).state ≠ .idle) ∧
    ∀ x ∈ ({ State.reset with queue := [entry] } : State).queue, x.port ≠ 1 := by decide +kernel

theorem test_witness_LineEvents : running.inReset = false ∧
    ({ running with rx := .inFrame } : State).tx = none ∧ 16 < (17 : Byte).toNat ∧
    ({ running with rx := .afterFrame } : State).rx = .afterFrame ∧ running.rx = .waitIdle ∧
    ({ running with rx := .idle } : State).rx = .idle ∧
    (after .lineIdle { running with replyList := [acceptedReply 1 4] }).tx = some ⟨⟨0x20, 0, [1, 4]⟩, .reply⟩ := by
  decide +kernel

/-- One state for each clause, from a receiver that is not idle to a flag at port 12. -/
theorem test_witness_TransmitOrder :
    running.rx ≠ .idle ∧
    (let s : State := { running with rx := .idle }
     s.tx = none ∧
     ({ s with coordList := [⟨⟨0x12, 15, [3]⟩, none⟩] } : State).coordList = ⟨⟨0x12, 15, [3]⟩, none⟩ :: [] ∧
     (acceptedReply 1 4).nextFrame = some ⟨0x20, 0, [1, 4]⟩ ∧ s.coordList = [] ∧ s.replyList = [] ∧
     ({ s with stationNotice := some .started } : State).stationNotice = some .started ∧ s.stationNotice = none ∧
     s.present 11 = true ∧ (s.post 11 .linkUp).flagsOf 11 ≠ 0 ∧ (∀ q, q < 11 → (s.post 11 .linkUp).flagsOf q = 0) ∧
     ∀ q, s.present q = true → s.flagsOf q = 0) := by decide +kernel

theorem test_witness_FrameSent : running.inReset = false ∧
    (let sending (place : TxPlace) : State := { running with tx := some ⟨⟨0x20, 0, [1, 4]⟩, place⟩ }
     (sending .coordination).tx = some ⟨⟨0x20, 0, [1, 4]⟩, .coordination⟩ ∧
     (sending (.stationNotice .started)).tx = some ⟨⟨0x20, 0, [1, 4]⟩, .stationNotice .started⟩ ∧
     (sending (.portNotice 11 2)).tx = some ⟨⟨0x20, 0, [1, 4]⟩, .portNotice 11 2⟩ ∧
     (sending .reply).tx = some ⟨⟨0x20, 0, [1, 4]⟩, .reply⟩ ∧
     ({ sending .reply with replyList := [.single ⟨0x20, 0, [1, 4]⟩] } : State).replyList = .single ⟨0x20, 0, [1, 4]⟩ :: [] ∧
     ({ sending .reply with replyList := [.recordTrain 0 .neverTested 0] } : State).replyList =
       .recordTrain 0 .neverTested 0 :: [] ∧
     ({ sending .reply with replyList := [.couplingTrain 0 0 [] 0] } : State).replyList = .couplingTrain 0 0 [] 0 :: []) := by
  decide +kernel

/-- The seventh error in a row, and the eighth. -/
theorem test_witness_CollisionError :
    (let s : State := { running with tx := some ⟨⟨0x20, 0, [1, 4]⟩, .reply⟩ }
     s.inReset = false ∧ ({ s with collisionRun := 6 } : State).collisionRun + 1 < 8 ∧
     8 ≤ ({ s with collisionRun := 7 } : State).collisionRun + 1) := by decide +kernel

/-- The part in a frame of another station. -/
def hearing : State := { running with rx := .inFrame }

/-- A frame for each clause: its bytes sum to 0 (to 1 in the first). Station 1 is the part's own. -/
theorem test_witness_FrameDecided :
    hearing.inReset = false ∧ hearing.rx = .inFrame ∧ hearing.tx = none ∧ hearing.station = 1 ∧
    (0x08 + 0x01 + 0 + 0xF8 : Byte) ≠ 0 ∧
    ((0x08 + 0x11 + 0 + 0xE7 : Byte) = 0 ∧ (0x11 : Byte).extractLsb' 4 4 = (1 : Station)) ∧
    ((0x08 + 0x02 + 0 + 0xF6 : Byte) = 0 ∧ (0x02 : Byte).extractLsb' 4 4 ≠ (1 : Station) ∧
      (0x02 : Byte).extractLsb' 0 4 ≠ (1 : Station)) ∧
    (kindLength 0x0D = none ∧ isReplyKind 0x0D = false ∧ (0x0D + 0x0F + 0 + 0xE4 : Byte) = 0 ∧
      (0x0F : Byte).extractLsb' 0 4 = (15 : Station)) ∧
    ((0x0C + 0x21 + 0 + 0xD3 : Byte) = 0 ∧ (0x21 : Byte).extractLsb' 4 4 ≠ (0 : Station)) ∧
    ((0x14 + 0x91 + 0 + 0x5B : Byte) = 0 ∧ 8 < ((0x91 : Byte).extractLsb' 4 4).toNat) ∧
    (isReplyKind 0x25 = true ∧ (0x25 + 0x01 + 0 + 0xDA : Byte) = 0) ∧
    (kindLength 0x09 ≠ some ([] : List Byte).length ∧ (0x09 + 0x01 + 0 + 0xF6 : Byte) = 0) ∧
    (kindLength 0x10 ≠ some ([] : List Byte).length ∧ (0x10 + 0x21 + 0 + 0xCF : Byte) = 0) := by decide +kernel

/-- QUERY_PORT of port 12 from the supervisor, QUIET_END of port 12 from station 8. -/
theorem test_witness_FrameHandedOn :
    hearing.inReset = false ∧ hearing.rx = .inFrame ∧ hearing.tx = none ∧
    ((0x09 + 0x01 + 1 + [(12 : Byte)].sum + 0xE9 : Byte) = 0 ∧ (0x01 : Byte).extractLsb' 4 4 = (0 : Station) ∧
      (0x01 : Byte).extractLsb' 0 4 = hearing.station ∧ requestCommand 0x09 [12] = some (.queryPort 12)) ∧
    ((0x13 + 0x8F + 1 + [(12 : Byte)].sum + 0x51 : Byte) = 0 ∧ peerStation ((0x8F : Byte).extractLsb' 4 4) = true ∧
      (0x8F : Byte).extractLsb' 4 4 ≠ hearing.station ∧ (0x8F : Byte).extractLsb' 0 4 = (15 : Station) ∧
      peerCommand 8 0x13 [12] = some (.quietEnd 8 12)) := by decide +kernel

theorem test_witness_CountersOnlyRise : running.lineSound = true ∧ (∃ t, exec .lineIdle running = .next t) ∧
    Instr.lineIdle ≠ .resetAssert ∧ Instr.lineIdle ≠ .stationReset ∧ (∀ a b d, Instr.lineIdle ≠ .resetRelease a b d) ∧
    ∀ h l k, Instr.lineIdle ≠ .frameReceived 0x01 h l k :=
  ⟨by decide +kernel, ⟨_, rfl⟩, by decide, by decide, (fun _ _ _ h => by cases h),
    fun _ _ _ h => by cases h⟩

/-- Seven frames; eight; eight with a COUPLING_SEEN at the head, not open; eight with one behind the open head. -/
theorem test_witness_CoordinationPost :
    (let ask : CoordFrame := ⟨⟨0x10, 15, [1, 6]⟩, some 0⟩
     let seen : CoordFrame := ⟨⟨0x14, 2, [7, 1, 0, 20]⟩, none⟩
     let holding (l : List CoordFrame) : State := { running with coordList := l }
     let open1 : State := { holding (seen :: seen :: List.replicate 6 ask) with tx := some ⟨seen.frame, .coordination⟩ }
     (holding (List.replicate 7 ask)).coordList.length < 8 ∧
     8 ≤ (holding (List.replicate 8 ask)).coordList.length ∧ seen.frame.kind = 0x14 ∧ ask.frame.kind ≠ 0x14 ∧
     (holding (seen :: List.replicate 7 ask)).coordList = [] ++ seen :: List.replicate 7 ask ∧
     (∀ y ∈ ([] : List CoordFrame), y.frame.kind ≠ 0x14) ∧ (holding []).tx = none ∧
     open1.coordList = [seen] ++ seen :: List.replicate 6 ask ∧ [seen] ≠ [] ∧ ∀ y ∈ [seen].tail, y.frame.kind ≠ 0x14) := by
  decide +kernel

theorem test_witness_RequestInStarting :
    (requestOf .stationReset).isSome = true ∧ State.reset.inReset = false ∧ State.reset.anyStarting = true := by decide +kernel

theorem test_witness_RequestPlaces : (requestOf .queryStation).isSome = true ∧ running.inReset = false ∧
    4 ≤ ({ running with replyList := List.replicate 4 (acceptedReply 1 4) } : State).replyList.length ∧
    ({ running with replyList := List.replicate 3 (acceptedReply 1 4) } : State).replyList.length < 4 ∧
    running.anyStarting = false := by decide +kernel

/-- Ports 0 and 13; masks and codes just outside their ranges; actions 0 and 5. -/
theorem test_witness_FieldChecks : running.decides = true ∧
    (requestOf (.enable 0) = some .laneControl ∧ portFieldOf (.enable 0) = some 0 ∧ (0 : Byte).toNat = 0) ∧
    (portFieldOf (.readRecord 13) = some 13 ∧ running.portCount < (13 : Byte).toNat) ∧
    2 ^ running.portCount ≤ (0x1000 : BitVec 16).toNat ∧ (0x0FFF : BitVec 16).toNat < 2 ^ running.portCount ∧
    (12 : Byte).toNat = (11 : Port).val + 1 ∧ running.present 11 = true ∧ 16 ≤ (16 : Byte).toNat ∧ 2 ≤ (2 : Byte).toNat ∧
    32 ≤ (32 : Byte).toNat ∧ 4 < (5 : Byte).toNat := by decide +kernel

/-- The frame of LANE_CONTROL with action 5 for port 12, and for port 13; a part that decides it, and one that has no place. -/
theorem test_witness_FieldChecks_frame :
    hearing.inReset = false ∧ hearing.rx = .inFrame ∧ hearing.tx = none ∧ hearing.station ≠ 0 ∧ hearing.decides = true ∧
    ({ hearing with replyList := List.replicate 4 (acceptedReply 1 4) } : State).decides = false ∧
    (0x0F : Byte).extractLsb' 4 4 = (0 : Station) ∧ (0x0F : Byte).extractLsb' 0 4 = (15 : Station) ∧ 4 < (5 : Byte).toNat ∧
    (0x02 + 0x0F + 2 + (12 + 5) + 0xDC : Byte) = 0 ∧ (0x02 + 0x0F + 2 + (13 + 5) + 0xDB : Byte) = 0 ∧
    (12 : Byte).toNat ≤ hearing.portCount ∧ hearing.portCount < (13 : Byte).toNat := by decide +kernel

/-- Port 1 in each state a clause names. -/
theorem test_witness_LaneControl : (1 : Byte).toNat = (0 : Port).val + 1 ∧
    (∀ s ∈ [withLane (rested .disabled), withLane linked, { withLane linked with guards := 1 }, running,
        withLane (rested .parked), sweeping preparing started],
      s.decides = true ∧ s.present 0 = true ∧ (s.queue.map Entry.port).Nodup) ∧
    ((withLane (rested .disabled)).lane 0).state = .disabled ∧ ((withLane linked).lane 0).state = .up ∧
    (running.lane 0).state = .advertise ∧ ((withLane (rested .parked)).lane 0).state = .parked ∧
    ((sweeping preparing started).queue.any fun x => decide (x.port = 0) && decide (x.state = .running)) = true ∧
    (running.queue.any fun x => decide (x.port = 0) && decide (x.state = .running)) = false ∧
    inPortSet ({ withLane linked with guards := 1 } : State).guards 0 = true ∧ inPortSet (withLane linked).guards 0 = false := by
  decide +kernel

/-- A full queue of other ports. -/
def fullQueue : State := { running with queue := [2, 3, 4, 5, 6, 7].map fun p => { entry with port := p } }

theorem test_witness_SweepRequest : (1 : Byte).toNat = (0 : Port).val + 1 ∧ (15 : Byte).toNat < 16 ∧ (1 : Byte).toNat < 2 ∧
    (∀ s ∈ [running, sweeping preparing started, withLane linked, { withLane linked with guards := 1 }, fullQueue,
        { running with queue := [entry] }],
      s.decides = true ∧ s.present 0 = true ∧ (s.queue.map Entry.port).Nodup) ∧
    (∃ x ∈ (sweeping preparing started).queue, x.port = 0 ∧ x.state = .running) ∧
    ((withLane linked).lane 0).state = .up ∧ inPortSet ({ withLane linked with guards := 1 } : State).guards 0 = true ∧
    inPortSet (withLane linked).guards 0 = false ∧ (∀ x ∈ fullQueue.queue, x.port ≠ 0) ∧ 6 ≤ fullQueue.queue.length ∧
    running.queue.length < 6 ∧ ∃ x ∈ ({ running with queue := [entry] } : State).queue, x.port = 0 := by decide +kernel

theorem test_witness_CancelSweep : (1 : Byte).toNat = (0 : Port).val + 1 ∧
    (∀ s ∈ [running, { running with queue := [entry] }, sweeping preparing started, sweeping shooting started,
        sweeping (analysing .a) started, sweeping (analysing .a) { started with cancelPending := true }],
      s.decides = true ∧ s.present 0 = true ∧ (s.queue.map Entry.port).Nodup) ∧
    (∀ x ∈ running.queue, x.port ≠ 0) ∧ entry ∈ ({ running with queue := [entry] } : State).queue ∧ entry.state ≠ .running ∧
    started ∈ (sweeping preparing started).queue ∧ started.state = .running ∧ started.engine = some 0 ∧
    started.cancelPending = false ∧ ((sweeping preparing started).engine 0).state = .preparing ∧
    ((sweeping shooting started).engine 0).state = .shooting ∧ ((sweeping (analysing .a) started).engine 0).state = .analysing := by
  decide +kernel

/-- NOW at the edges of every range, and just outside one. -/
theorem test_witness_SetProfile :
    (let b : ProfileBytes := ⟨0x0FFF, 1, 15, 800, 63, 4, 40, 20, 31, 31, 6⟩
     let low : ProfileBytes := { b with nvp := 599 }
     running.decides = true ∧ b.mask.toNat < 2 ^ running.portCount ∧ b.apply.toNat < 2 ∧ b.advertised.toNat < 16 ∧
     b.optionSelect.toNat < 32 ∧ b.optionValue.toNat < 32 ∧ b.mask ≠ 0 ∧ b.advertised ≠ 0 ∧
     ({ b with mask := 0 } : ProfileBytes).mask = 0 ∧ (running.queue.map Entry.port).Nodup ∧
     (600 ≤ b.nvp.toNat ∧ b.nvp.toNat ≤ 800 ∧ b.slope.toNat ≤ 63 ∧ 1 ≤ b.attempts.toNat ∧ b.attempts.toNat ≤ 4 ∧
       5 ≤ b.negWindow.toNat ∧ b.negWindow.toNat ≤ 40 ∧ 2 ≤ b.trainWindow.toNat ∧ b.trainWindow.toNat ≤ 20 ∧ b.depth.toNat ≤ 6) ∧
     ¬600 ≤ low.nvp.toNat ∧ b.apply = 1 ∧ b.mask.getLsbD 0 = true ∧ ((withLane linked).lane 0).state = .up ∧
     ({ withLane linked with guards := 1 } : State).decides = true ∧
     inPortSet ({ withLane linked with guards := 1 } : State).guards 0 = true ∧
     ∀ p, inPortSet running.guards p = false) := by decide +kernel

theorem test_witness_SetGuard : running.decides = true ∧ (0x0FFF : BitVec 16).toNat < 2 ^ running.portCount ∧
    2 ^ running.portCount ≤ (0x1000 : BitVec 16).toNat := by decide +kernel

theorem test_witness_SetSurvey : running.decides = true ∧ (1 : Byte).toNat < 2 ∧
    (1 ≤ (5 : Byte).toNat ∧ (5 : Byte).toNat ≤ 5) ∧ 6 ≤ (6 : Byte).toNat := by decide +kernel

theorem test_witness_ClearCoupling : ({ running with coupling := [⟨0, 2, 6, 60, true, false, 0⟩] } : State).decides = true := by
  decide +kernel

theorem test_witness_Queries : running.decides = true ∧ (12 : Byte).toNat = (11 : Port).val + 1 ∧ running.present 11 = true := by
  decide +kernel

theorem test_witness_StationReset : (sweeping shooting started).decides = true ∧ (sweeping shooting started).present 0 = true := by
  decide +kernel

/-- Port 2's lane knows the asker at level 50, in ADVERTISE, with a record already, and in PARKED. -/
def coupled (l : Lane) : State := { withLane l with coupling := [⟨0, 2, 11, 50, true, false, 0⟩] }

theorem test_witness_QuietAsk : (coupled calm).coordinates = true ∧ (coupled calm).isPeer 2 = true ∧ 12 < (13 : Byte).toNat ∧
    (12 : Byte).toNat = (11 : Port).val + 1 ∧
    (∃ c ∈ (coupled calm).coupling, c.localPort = 0 ∧ c.station = 2 ∧ c.remotePort = 11 ∧ 50 ≤ c.level) ∧
    (∀ c ∈ (coupled calm).coupling, c.localPort ≠ 1) ∧ (coupled calm).present 0 = true ∧
    ((coupled calm).lane 0).active.honourQuiet = true ∧ ((coupled calm).lane 0).state = .advertise ∧
    ((coupled calm).lane 0).quiet = [] ∧ ((coupled calm).lane 0).hold.quiet = false ∧
    ((coupled (rested .parked)).lane 0).state = .parked ∧
    ((coupled { rested .held with quiet := [⟨3, 1, 9⟩], hold := ⟨false, false, true, false⟩ }).lane 0).quiet ≠ [] := by
  decide +kernel

/-- A list of four, whose second record expires first, and an ask of another key. -/
theorem test_witness_QuietAsk_placement :
    (let list : List QuietRecord := [⟨2, 0, 30⟩, ⟨3, 0, 20⟩, ⟨4, 0, 20⟩, ⟨5, 0, 30⟩]
     let ask : QuietRecord := ⟨6, 0, 21⟩
     let x : QuietRecord := ⟨3, 0, 20⟩
     x ∈ list ∧ (∀ y ∈ list, ¬(y.asker = ask.asker ∧ y.askerPort = ask.askerPort)) ∧ 4 ≤ list.length ∧ list.tail.length < 4 ∧
     (∃ y ∈ list, y.asker = x.asker ∧ y.askerPort = x.askerPort) ∧
     ∀ y ∈ list, y ≠ x → timeBetween 10 x.expiry < timeBetween 10 y.expiry ∨
       (timeBetween 10 x.expiry = timeBetween 10 y.expiry ∧
         (x.asker.toNat < y.asker.toNat ∨ (x.asker = y.asker ∧ x.askerPort < y.askerPort)))) := by decide +kernel

theorem test_witness_QuietEnds : running.coordinates = true ∧ running.isPeer 8 = true ∧ 12 < (13 : Byte).toNat ∧
    (12 : Byte).toNat = (11 : Port).val + 1 ∧
    (∀ e j, (running.engine e).job = some j → ¬(j.station = 8 ∧ j.port = 11)) ∧
    running.hears 0 = true ∧ (withLane { calm with quiet := [⟨2, 6, 0⟩] }).hears 0 = true ∧
    (∃ x ∈ ((withLane { calm with quiet := [⟨2, 6, 0⟩] }).lane 0).quiet,
      x.asker = 2 ∧ x.askerPort = 6 ∧ x.expiry = (withLane { calm with quiet := [⟨2, 6, 0⟩] }).ms) ∧
    ∀ x ∈ (running.lane 0).quiet, ¬(x.asker = 2 ∧ x.askerPort = 6 ∧ x.expiry = running.ms) := by
  refine ⟨by decide +kernel, by decide +kernel, by decide, by decide, fun e j h => ?_, by decide +kernel, by decide +kernel,
    by decide +kernel, by decide +kernel⟩
  rw [noJob e] at h
  cases h

/-- A job that starts on engine 0 with every lane eligible, one on engine 1, and none. -/
theorem test_witness_ListenJobStarts : running.coordinates = true ∧ running.isPeer 2 = true ∧
    12 < (13 : Byte).toNat ∧
    (12 : Byte).toNat = (11 : Port).val + 1 ∧ (running.engine 0).state = .idle ∧ running.allLanes Lane.holdSound = true ∧
    (running.present 0 && (running.lane 0).active.listenPeers && decide ((running.lane 0).state = .advertise) &&
      !(running.lane 0).hold.sweep && !(running.lane 0).energy) = true ∧
    (let s := running.setEngine 0 preparing
     s.coordinates = true ∧ (s.engine 1).state = .idle ∧ (s.engine 0).state ≠ .idle ∧
     ∀ e, ((s.setEngine 1 preparing).engine e).state ≠ .idle) := by decide +kernel

/-- A member at a reading of 320, the least that is learned, alone in its job, held by the engine and HELD for LISTEN only. -/
theorem test_witness_ListenJobEnds :
    (let s := listening 320
     let m : Member := ⟨0, 320, true⟩
     s.inReset = false ∧ (s.engine 0).job = some (job 320) ∧ (job 320).endTime = s.ms ∧ m ∈ (job 320).members ∧
     (∀ m ∈ (job 320).members, m.port ≠ 1) ∧ m.given = true ∧ ((job 320).members.map Member.port).Nodup ∧
     (s.lane 0).holder = .engine 0 ∧ (s.lane 0).state = .held ∧ (s.lane 0).hold = ⟨false, true, false, false⟩ ∧
     (s.lane 0).transferOwed = false ∧
     (s.lane 0).active.advertised &&& (s.record 0).allowed &&& gradesUpTo (s.lane 0).ceiling ≠ 0 ∧
     s.coordinates = true ∧ s.isPeer 2 = true ∧ (7 : Byte).toNat = (6 : Port).val + 1 ∧ (job 320).station = 2 ∧
     (job 320).port = 6 ∧ (s.engine 1).job = none) ∧
    (let both := (listening 320).setEngine 1 { (listening 320).engine 0 with job := some { job 0 with members := [⟨1, 0, false⟩] } }
     both.coordinates = true ∧ (both.engine 0).job = some (job 320) ∧
     ((both.engine 1).job.map fun j => (j.station, j.port)) = some (2, 6)) ∧
    (∀ e, (running.engine e).job = none) ∧ (job 320).endTime ≠ ({ listening 320 with ms := 1 } : State).ms := by decide +kernel

theorem test_witness_CouplingSeen : running.coordinates = true ∧ running.isPeer 2 = true ∧ (0 : Byte).toNat = 0 ∧
    running.portCount < (13 : Byte).toNat ∧ 12 < (13 : Byte).toNat ∧ (12 : Byte).toNat = (11 : Port).val + 1 ∧
    running.present 11 = true ∧ (19 : BitVec 16).toNat < 20 ∧ 20 ≤ (20 : BitVec 16).toNat ∧ (1000 : BitVec 16).toNat ≤ 1000 ∧
    1000 < (1001 : BitVec 16).toNat := by decide +kernel

/-- A table of 64: ports 1 to 8 of stations 2 to 9, the tenth entry the oldest. -/
def fullTable : List CouplingEntry :=
  (List.range 64).map fun n =>
    ⟨Fin.ofNat 12 (n / 8), BitVec.ofNat 4 (n % 8 + 2), 0, 60, true, false, if n = 9 then 3 else 2⟩

theorem test_witness_CouplingSeen_recording :
    (let k : CouplingKey := ⟨8, 2, 0⟩
     let old : CouplingEntry := ⟨1, 3, 0, 60, true, false, 3⟩
     fullTable = fullTable.take 9 ++ old :: fullTable.drop 10 ∧ fullTable.length = 64 ∧ couplingSorted fullTable = true ∧
     (∀ c ∈ fullTable, c.key ≠ k) ∧ (∀ c ∈ fullTable.take 9, c.age < old.age) ∧ (∀ c ∈ fullTable.drop 10, c.age < old.age) ∧
     (∃ c ∈ fullTable, c.key = old.key) ∧ fullTable.tail.length < 64 ∧ (∀ c ∈ fullTable.tail, c.key.before k = true)) := by
  decide +kernel

/-- A lane that commands nothing; one that issues; one an engine sweeps; one an engine only listens on. -/
theorem test_witness_LaneCommand : ((withLane linked).lane 0).state = .up ∧ (running.lane 0).state = .advertise ∧
    (running.lane 0).holder = .lane ∧ (((sweeping shooting started).setLane 0 captured).lane 0).holder = .engine 0 ∧
    (((sweeping shooting started).setLane 0 captured).engine 0).state ≠ .listening ∧
    (((listening 0).modifyLane 0 fun l => { l with state := .advertise }).lane 0).holder = .engine 0 ∧
    (((listening 0).modifyLane 0 fun l => { l with state := .advertise }).engine 0).state = .listening ∧
    TapCommand.sendWord 15 false ≠ .sendQuiet ∧ ((listening 0).engine 0).job = some (job 0) := by decide +kernel

theorem test_witness_CeilingRestore :
    (hasGrade (calm.active.advertised &&& 0b0011) .g2 = true ∧
      ∀ h ∈ [Grade.g1, .g2, .g3, .g4], hasGrade (calm.active.advertised &&& 0b0011) h = true → gradeBit h ≤ gradeBit .g2) ∧
    calm.active.advertised &&& 0 = 0 ∧ hasGrade calm.active.advertised .g4 = true := by decide

theorem test_witness_PowerDetect :
    (let s := running
     s.hears 0 = true ∧ (s.lane 0).power = false ∧ (s.lane 0).hold.power = false ∧ (s.queue.map Entry.port).Nodup ∧
     (∀ x ∈ s.queue, x.port ≠ 0)) ∧
    (let s := sweeping preparing started
     s.hears 0 = true ∧ started ∈ s.queue ∧ started.state = .running ∧ started.engine = some 0 ∧
     (s.engine 0).state = .preparing ∧ (s.lane 0).power = false ∧ (s.lane 0).hold.power = false) ∧
    (let s := withLane { linked with power := true }
     s.hears 0 = true ∧ (s.lane 0).power = true ∧ (s.lane 0).hold.power = false) ∧
    (let s := withLane { rested .held with power := true, hold := ⟨false, false, false, true⟩ }
     s.hears 0 = true ∧ (s.lane 0).power = true ∧ (s.lane 0).hold.power = true) := by decide +kernel

theorem test_witness_EnergyEvents :
    (running.hears 0 = true ∧ (running.lane 0).energy = false ∧ (running.queue.map Entry.port).Nodup) ∧
    (let s : State := { withLane (rested .sweepWait) with queue := [entry] }
     s.hears 0 = true ∧ (s.lane 0).energy = false ∧ (s.lane 0).state = .sweepWait ∧ ∃ x ∈ s.queue, x.port = 0 ∧ x.state ≠ .running) ∧
    (let s := sweeping shooting started
     s.hears 0 = true ∧ (s.lane 0).energy = false ∧ started ∈ s.queue ∧ started.force = false ∧ started.engine = some 0 ∧
     (s.engine 0).state = .shooting) ∧
    (let s := listening 0
     s.hears 0 = true ∧ (s.lane 0).energy = false ∧ (s.lane 0).holder = .engine 0 ∧ (s.engine 0).job = some (job 0) ∧
     (⟨0, 0, true⟩ : Member) ∈ (job 0).members ∧ (s.engine 1).job = none ∧ s.queue = [] ∧ (s.lane 0).state ≠ .sweepWait) ∧
    (let s : State := { (listening 0).setLane 0 { rested .sweepWait with holder := .engine 0 } with queue := [entry] }
     s.hears 0 = true ∧ (s.lane 0).energy = false ∧ (s.lane 0).holder = .engine 0 ∧ (s.engine 0).job = some (job 0) ∧
     (s.lane 0).state = .sweepWait ∧ (s.queue.map Entry.port).Nodup ∧ entry ∈ s.queue ∧ entry.port = 0 ∧
     entry.state ≠ .running) ∧
    (∀ l ∈ [negotiating .cleared, training, linked], (withLane l).hears 0 = true ∧ ((withLane l).lane 0).energy = true) ∧
    (negotiating .cleared).state = .negotiate ∧ training.state = .train ∧ linked.state = .up := by decide +kernel

theorem test_witness_EnergyEvents_no_job : ¬∃ e j, (running.engine e).job = some j ∧ ∃ m ∈ j.members, m.port = 0 := by
  rintro ⟨e, j, h, _⟩
  rw [noJob e] at h
  cases h

/-- The records at which each clause of the negotiation applies, to a word of {G2, G3} (and of {} and {G4} at its end). -/
theorem test_witness_PartnerWords :
    (∀ n ∈ [⟨some 1, 2, false, 0⟩, ⟨some 1, 3, true, 1⟩, ⟨some 6, 1, false, 0⟩, ⟨some 6, 2, false, 0⟩, ⟨some 6, 3, true, 0⟩,
        ⟨some 6, 3, true, 1⟩, (⟨some 0, 3, true, 1⟩ : NegRecord)],
      (withLane (negotiating n)).hears 0 = true ∧ ((withLane (negotiating n)).lane 0).state = .negotiate ∧
        ((withLane (negotiating n)).lane 0).neg = n) ∧
    (1 : Nat) + 1 < 3 ∧ 3 ≤ (2 : Nat) + 1 ∧ (0 : Nat) + 1 < 2 ∧ 2 ≤ (1 : Nat) + 1 ∧
    hasGrade (calm.offered &&& 6) .g3 = true ∧
    (∀ h ∈ [Grade.g1, .g2, .g3, .g4], hasGrade (calm.offered &&& 6) h = true → gradeBit h ≤ gradeBit .g3) ∧
    calm.offered &&& 0 = 0 ∧ (running.lane 0).state = .advertise ∧ (linked.state ≠ .advertise ∧ linked.state ≠ .negotiate) := by
  decide +kernel

/-- Intervals of 7, 8, 24 and 25 ms after a pulse at count 100. -/
theorem test_witness_PlainPulse :
    (let s : State := withLane { calm with pulseCount := 2, lastPulse := some 100 }
     s.hears 0 = true ∧ (s.lane 0).pulseCount ≤ 2 ∧ (s.lane 0).lastPulse = some 100 ∧ (running.lane 0).lastPulse = none ∧
     timeBetween 100 107 < 8 ∧ 8 ≤ timeBetween 100 108 ∧ timeBetween 100 124 ≤ 24 ∧ 24 < timeBetween 100 125 ∧
     (1 : Nat) + 1 < 3 ∧ (s.lane 0).pulseCount + 1 = 3 ∧ hasGrade (s.lane 0).offered .g1 = true ∧ hasGrade 0b1110 .g1 = false ∧
     linked.state ≠ .advertise) := by decide +kernel

theorem test_witness_TrainingEvents :
    (withLane training).hears 0 = true ∧ ((withLane training).lane 0).state = .train ∧
    ((withLane training).lane 0).training = some .g4 ∧ ((withLane training).queue.map Entry.port).Nodup ∧
    (∀ x ∈ (withLane training).queue, x.port ≠ 0) ∧
    (let s : State := { withLane training with queue := [entry] }
     s.hears 0 = true ∧ (s.queue.map Entry.port).Nodup ∧ ∃ x ∈ s.queue, x.port = 0 ∧ x.state ≠ .running ∧ x.force = false) ∧
    (running.lane 0).state ≠ .train ∧ TrainStage.aligned ≠ .locked ∧
    ((withLane { training with training := some .g2 }).lane 0).training = some .g2 ∧
    ¬(Pair.d = .a ∨ Pair.d = .b ∨ Grade.g2 = .g3 ∨ Grade.g2 = .g4) := by decide +kernel

theorem test_witness_LaneTimers :
    (withLane (negotiating .cleared)).hears 0 = true ∧ ((withLane (negotiating .cleared)).lane 0).timer = some (.negotiate, 0) ∧
    ((withLane training).lane 0).timer = some (.train, 0) ∧
    ((withLane { rested .backoff with timer := some (.backoff, 0) }).lane 0).timer = some (.backoff, 0) ∧ running.ms = 0 ∧
    (running.lane 0).timer = none := by decide +kernel

theorem test_witness_LinkLost : (withLane linked).hears 0 = true ∧ ((withLane linked).lane 0).state = .up ∧
    (running.lane 0).state ≠ .up ∧ timeBetween linked.upStart 1999 < 2000 ∧ 2000 ≤ timeBetween linked.upStart 2000 ∧
    timeBetween linked.upStart 59999 < 60000 ∧ 60000 ≤ timeBetween linked.upStart 60000 := by decide +kernel

/-- Engine 0 with a capture out on port 1: shooting, calibrating (State.reset) and listening, at each count that matters. -/
theorem test_witness_Captures :
    (∀ g ∈ [{ shooting with issued := 7 }, shooting, { shooting with failedRun := 2 }, { shooting with completed := 0 }],
      (let s := (sweeping g started).setLane 0 captured
       s.hears 0 = true ∧ (s.lane 0).outstanding = some 7 ∧ (s.lane 0).holder = .engine 0 ∧ (s.engine 0).state = .shooting ∧
       (s.engine 0).current = some .a ∧ s.entryOf 0 = some started ∧ (s.lane 0).captureDue = some s.ms)) ∧
    (7 : Nat) < 2 ^ started.depth ∧ 2 ^ started.depth ≤ shooting.issued ∧ (running.lane 0).outstanding ≠ some 7 ∧
    (running.lane 0).captureDue ≠ some running.ms ∧
    (State.reset.hears 0 = true ∧ (State.reset.lane 0).outstanding = some 0 ∧ (State.reset.lane 0).holder = .engine 0 ∧
      (State.reset.engine 0).state = .calibrating ∧ (State.reset.engine 0).cal = some ⟨0, 1, 0, clearedSums⟩) ∧
    (let s := State.reset.setEngine 0 { Engine.calibrating 0 with cal := some ⟨0, 16, 15, clearedSums⟩ }
     (s.engine 0).cal = some ⟨0, 16, 15, clearedSums⟩) ∧
    (({ State.reset with ms := 5 } : State).lane 0).captureDue = some 5 ∧
    ((listening 0).hears 0 = true ∧ ((listening 0).lane 0).outstanding = some 7 ∧ ((listening 0).lane 0).holder = .engine 0 ∧
      ((listening 0).engine 0).state = .listening ∧ ((listening 0).engine 0).job = some (job 0)) := by decide +kernel

theorem test_witness_Captures_shape : ∀ b, Capture.cal block ≠ .shoot b := fun _ h => by cases h

theorem test_witness_Passes :
    (let s := sweeping preparing started
     s.inReset = false ∧ (s.engine 0).state = .preparing ∧ (s.engine 0).timer = none ∧ (∀ f ∈ s.coordList, f.engine ≠ some 0) ∧
     (s.engine 0).bound = some 0 ∧ s.entryOf 0 = some started) ∧
    (let s := sweeping { preparing with passPairs := 0b1010, timer := some (.settle, 0) } started
     (s.engine 0).timer = some (.settle, s.ms) ∧ (s.engine 0).bound = some 0 ∧ s.entryOf 0 = some started ∧
     hasPair (s.engine 0).passPairs .b = true ∧
     ∀ r ∈ [Pair.a, .b, .c, .d], hasPair (s.engine 0).passPairs r = true → pairNumber .b ≤ pairNumber r) ∧
    ((sweeping { preparing with timer := some (.retryWait, 0) } started).engine 0).timer = some (.retryWait, 0) ∧
    (running.engine 0).state ≠ .preparing ∧ (running.engine 0).timer = none := by decide +kernel

/-- The end of an analysis; then what follows it, for each outcome. -/
theorem test_witness_AnalysisEnd :
    (let s := sweeping (analysing .a) started
     s.inReset = false ∧ (s.engine 0).timer = some (.analysis, s.ms) ∧ (s.engine 0).bound = some 0 ∧
     (s.engine 0).current = some .a ∧ s.entryOf 0 = some started ∧ started.snapshot = some ⟨690, 12, 24⟩ ∧ started.retries < 2 ∧
     2 ≤ ({ started with retries := 2 } : Entry).retries ∧ (running.engine 0).timer = none ∧
     (analysePair (pulseCode 1) ⟨690, 12, 24⟩ ⟨.a, Engine.idle.sums, List.replicate 8 5, false, 8⟩).noisy = false ∧
     (analysePair (pulseCode 1) ⟨690, 12, 24⟩ ⟨.a, Engine.idle.sums, List.replicate 8 97, false, 8⟩).noisy = true) ∧
    (let s := sweeping (analysing .d) { started with completed := 15, cancelPending := true }
     s.entryOf 0 = some { started with completed := 15, cancelPending := true } ∧
     started.mask &&& ~~~(15 : PairSet) = 0 ∧ (s.engine 0).heldBack = 0 ∧ started.mask &&& ~~~(7 : PairSet) ≠ 0) ∧
    (let s := (sweeping (analysing .a) started).modifyLane 0 fun l => { l with energy := true }
     started.force = false ∧ (s.lane 0).energy = true ∧ started.cancelPending = false ∧
     ¬∀ r ∈ [Pair.a, .b, .c, .d], hasPair (s.engine 0).passPairs r = true → pairNumber r ≤ pairNumber .a) ∧
    (let s := sweeping (analysing .a) started
     ¬((started.force = false ∧ (s.lane 0).energy = true) ∨ (s.lane 0).power = true) ∧
     hasPair (s.engine 0).passPairs .b = true ∧ pairNumber .a < pairNumber .b ∧
     ∀ y ∈ [Pair.a, .b, .c, .d], hasPair (s.engine 0).passPairs y = true → pairNumber .a < pairNumber y →
       pairNumber .b ≤ pairNumber y) ∧
    (let s := sweeping { analysing .d with heldBack := 2 } started
     (∀ r ∈ [Pair.a, .b, .c, .d], hasPair (s.engine 0).passPairs r = true → pairNumber r ≤ pairNumber .d) ∧
     (s.engine 0).heldBack ≠ 0 ∧ started.port = 0 ∧ ((sweeping (analysing .d) started).engine 0).heldBack = 0) := by
  decide +kernel

/-- Engine 0's computation due, with no shot completed, on lane 1: with lanes left; alone; and as the last engine at work. -/
theorem test_witness_CalibrationResult :
    (let work : CalWork := ⟨0, 16, 0, clearedSums⟩
     let g : Engine := { Engine.calibrating 0 with timer := some (.calibration, 0), cal := some work }
     let s := State.reset.setEngine 0 g
     let last : State := { s with calList := [] }
     s.inReset = false ∧ (s.engine 0).timer = some (.calibration, s.ms) ∧ (s.engine 1).timer ≠ some (.calibration, s.ms) ∧
     (s.engine 0).cal = some work ∧ work.completed = 0 ∧ s.calList = 2 :: [3, 4, 5, 6, 7, 8, 9, 10, 11] ∧ last.calList = [] ∧
     (∀ d, d ≠ 0 → (last.engine d).state ≠ .idle) ∧ (∀ d, d ≠ 0 → ((last.setEngine 1 .idle).engine d).state = .idle) ∧
     (last.setEngine 1 .idle).anyStarting = true ∧ ((s.setEngine 1 g).engine 1).timer = some (.calibration, s.ms) ∧
     (State.reset.engine 0).timer = none) := by decide +kernel

/-- Sums of 16 shots of station 1's code at index 3 give a reference delay of 24: a good result. -/
theorem test_witness_CalibrationResult_good :
    (let sums : List Int := List.replicate 3 0 ++ (pulseCode 1).map (· * 16000) ++ List.replicate 501 0
     (16 : Nat) ≠ 0 ∧ 8 ≤ referenceDelay (pulseCode 1) sums 16 ∧ referenceDelay (pulseCode 1) sums 16 ≤ 64) := by decide +kernel

theorem test_witness_AutomaticRequests : running.hears 0 = true ∧ running.holdoff 0 = none ∧
    (running.setHoldoff 0 (some 0)).holdoff 0 = some running.ms ∧ (running.lane 0).state = .advertise ∧
    (running.lane 0).energy = false ∧ (linked.state ≠ .advertise ∧ linked.state ≠ .held) ∧ running.surveyTimer = none ∧
    (let s : State := { running with surveyTimer := some 0 }
     s.surveyTimer = some s.ms ∧ (s.lane 0).active.surveyMember = true ∧ s.queue = [] ∧ (s.lane 0).power = false ∧
     inPortSet s.passSet 0 = false ∧ ∀ q, q ≠ 0 → (s.record q).status = (s.record 0).status ∧
       (s.record q).age = (s.record 0).age ∧ 0 < q) ∧
    (let s : State := { running with surveyTimer := some 0, passSet := 0xFFF }
     s.surveyContinuous = false ∧ ∀ p, inPortSet s.passSet p = true) ∧
    (let s : State := { running with surveyTimer := some 0, surveyContinuous := true, lanes := Vector.replicate 12 linked }
     s.surveyContinuous = true ∧ ∀ p, (s.lane p).state = .up) ∧
    (∀ x ∈ fullQueue.queue, x.port ≠ 0) ∧ 6 ≤ fullQueue.queue.length ∧ running.queue.length < 6 ∧
    (sweeping preparing started).queue = [started] ∧ started.port = 0 ∧ started.state = .running ∧ entry.state ≠ .running := by
  decide +kernel

/-- Old results and writes at the edges of "moved": 10 dm is not, 11 dm is. -/
theorem test_witness_PairWrite :
    (let good : PairResult := ⟨.good, false, false, false, none, 5, 0, .b, []⟩
     let short (d : Nat) : PairResult := ⟨.shorted, false, false, false, some d, 5, 0, .b, [⟨d, -900⟩]⟩
     let fault (v : Verdict) : Bool := v ≠ .good && v ≠ .untestable
     let blank := CableRecord.neverTested.pairs
     fault good.verdict = false ∧ fault (short 10).verdict = true ∧
     (atPair (putPair blank .a (short 10).record) .a).verdict = some .shorted ∧ ¬(10 + 10 < 20) ∧ 10 + 10 < 21 ∧
     (atPair blank .a).verdict = none ∧ allowedSet (putPair blank .a (short 10).record) = 0 ∧
     (allowedSet (putPair blank .a good.record) ≠ 0b0011 ∧ allowedSet (putPair blank .a good.record) &&& 0b0011 = 0b0011) ∧
     ((withLane (rested .parked)).lane 0).state = .parked) := by decide +kernel

/-- A waiting entry of the supervisor behind one of the survey; the same with no SUPERVISOR; a forced one of a guarded link. -/
theorem test_witness_StartChoice :
    (let survey : Entry := { entry with port := 1, origin := .survey }
     let s : State := { running with queue := [survey, entry] }
     let guarded : State := { withLane linked with guards := 1, queue := [{ entry with force := true }] }
     (s.engine 0).state = .idle ∧ (∀ y ∈ s.queue, s.guardBlocked y = false) ∧ (s.queue.map Entry.port).Nodup ∧
     s.queue = [survey] ++ entry :: [] ∧ s.startable entry = true ∧ entry.origin = .supervisor ∧
     (∀ y ∈ [survey], s.startable y = true → y.origin ≠ .supervisor) ∧ (s.lane entry.port).hold.sweep = false ∧
     (∀ d, (s.engine d).job = none) ∧ s.startable survey = true ∧
     (let member : State := { listening 0 with queue := [entry] }
      (member.engine 1).state = .idle ∧ (member.engine 0).job = some (job 0) ∧ (⟨0, 0, true⟩ : Member) ∈ (job 0).members ∧
      ((job 0).members.map Member.port).Nodup ∧ member.startable entry = true ∧ (member.lane 0).hold.sweep = false ∧
      (∀ y ∈ member.queue, member.guardBlocked y = false)) ∧
     (∀ y ∈ ({ s with queue := [survey] } : State).queue, y.origin ≠ .supervisor) ∧
     guarded.guardBlocked { entry with force := true } = true ∧ (State.reset.engine 0).state ≠ .idle ∧
     (∀ x ∈ ({ withLane linked with queue := [entry] } : State).queue, (withLane linked).startable x = false)) := by decide +kernel

/-- 60 samples in which the code of station 1 begins at each place with its weight. -/
def echoes (places : List (Nat × Int)) : List Int :=
  (List.range 60).map fun i => (places.map fun (j, w) => if j ≤ i then w * (pulseCode 1).getD (i - j) 0 else 0).sum

/-- Pair A shot once, its launch at 1600 and those echoes after it; pairs C and D silent. -/
def shot (own b : List (Nat × Int)) : PairCapture := ⟨.a, ⟨echoes ((0, 200) :: own), echoes b, echoes [], echoes []⟩, [10], false, 1⟩

def shotResult (own b : List (Nat × Int)) : PairResult := analysePair (pulseCode 1) ⟨690, 0, 16⟩ (shot own b)

def shotLaunch (c : PairCapture) : Nat :=
  (((correlate (pulseCode 1) ((atPair c.sums .a).map fun x => roundHalfAway x c.completed)).take 16).map Int.natAbs).foldl max 0

def shotCross (c : PairCapture) (q : Pair) : Nat :=
  crossLevel (shotLaunch c) (correlate (pulseCode 1) ((atPair c.sums q).map fun x => roundHalfAway x c.completed))

/-- A weak launch; and launches of 1600 with no event; with an open echo alone; with one nearer than pair B's (CROSSED) event;
with pair B's event the nearest and nothing close behind it, or an open echo 4 dm behind it; and with one 1 dm behind it. -/
theorem test_witness_AnalysedPair : (-3 : Int) ≠ 0 ∧ 0 + 7 < (echoes []).length ∧ 52 + 7 < (echoes []).length ∧
    [(97 : Nat)] ≠ [] ∧
    (((correlate (pulseCode 1) (average (atPair Engine.idle.sums .a) 8)).take 16).map Int.natAbs).foldl max 0 < 512 ∧
    shotLaunch (shot [] []) = 1600 ∧ (shotResult [] []).verdict = .good ∧ (∀ q ∈ [Pair.b, .c, .d], shotCross (shot [] []) q < 400) ∧
    (shotResult [(40, 150)] []).verdict = .opened ∧ (shotResult [(40, 150)] []).reflections.length = 1 ∧
    (shotResult [(24, 150)] [(40, 100)]).verdict = .opened ∧ shotCross (shot [(24, 150)] [(40, 100)]) .b = 500 ∧
    (shotResult [(48, 150)] [(30, 100)]).verdict = .crossed .b ∧ (shotResult [(48, 150)] [(30, 100)]).reflections.length = 1 ∧
    (shotResult [(40, 150)] [(39, 100)]).verdict = .crossed .b ∧
    (let r := shotResult [(40, 150), (41, 100)] [(40, 100)]
     r.reflections.map Reflection.distance = [158] ∧ r.verdict = .opened ∧
       (crossView ⟨690, 0, 16⟩ 1600 .b (correlate (pulseCode 1) (echoes [(40, 100)]))).distance = 157) := by
  decide +kernel

end Sys2Proof.Tests
end

section
/-! SUPPORT. Ports and engines as lists, folds over the present ports, and the millisecond count: no operation on lanes,
queue, records, engines or lists moves it (R1). -/

namespace Sys2Proof.Machine

/-! ## The lists of ports and engines -/

@[simp] theorem mem_allPorts (p : Port) : p ∈ allPorts := by revert p; decide

@[simp] theorem mem_allEngines (e : EngineId) : e ∈ allEngines := by revert e; decide

@[simp] theorem State.mem_presentPorts {s : State} {p : Port} : p ∈ s.presentPorts ↔ s.present p = true := by
  simp [State.presentPorts]

theorem State.presentPorts_nodup (s : State) : s.presentPorts.Nodup :=
  List.Nodup.filter _ (by decide)

/-! ## Folds that write records -/

/-- The records of these ports changed one after the other. -/
def State.modifyRecords (s : State) (f : CableRecord → CableRecord) (l : List Port) : State :=
  l.foldl (fun t p => t.setRecord p (f (t.record p))) s

@[simp] theorem State.modifyRecords_cons (s : State) (f : CableRecord → CableRecord) (p : Port) (l : List Port) :
    s.modifyRecords f (p :: l) = (s.setRecord p (f (s.record p))).modifyRecords f l := rfl

theorem State.modifyRecords_rest (s : State) (f : CableRecord → CableRecord) (l : List Port) :
    s.modifyRecords f l = { s with records := (s.modifyRecords f l).records } := by
  induction l generalizing s with
  | nil => rfl
  | cons p l ih => rw [State.modifyRecords_cons, ih]; rfl

/-- Each port of a list without repetition has its record changed once; the others keep theirs. -/
theorem State.record_modifyRecords (s : State) (f : CableRecord → CableRecord) {l : List Port} (h : l.Nodup) (q : Port) :
    (s.modifyRecords f l).record q = if q ∈ l then f (s.record q) else s.record q := by
  induction l generalizing s with
  | nil => rfl
  | cons p l ih =>
    obtain ⟨fresh, h⟩ := List.nodup_cons.1 h
    rw [State.modifyRecords_cons, ih _ h]
    by_cases e : q = p
    · subst e; simp [fresh]
    · simp [e, State.record_setRecord_ne]

/-! ## The millisecond count under the shared operations -/

theorem Serves.ms {p : Port} {s t : State} (a : Serves p s t) : t.ms = s.ms := by
  obtain ⟨_, _, _, _, h⟩ := a.rest; rw [h]

theorem ServesQueue.ms {s t : State} (a : ServesQueue s t) : t.ms = s.ms := by
  obtain ⟨_, _, _, _, h⟩ := a.rest; rw [h]

theorem foldl_ms {α : Type} (f : State → α → State) (h : ∀ t x, (f t x).ms = t.ms) (l : List α) (s : State) :
    (l.foldl f s).ms = s.ms := by
  induction l generalizing s with
  | nil => rfl
  | cons x l ih => rw [List.foldl_cons, ih, h]

variable (s : State) (p : Port) (e : EngineId)

@[simp] theorem State.enterAdvertise_ms (b : Bool) : (s.enterAdvertise p b).ms = s.ms :=
  (Touches.enterAdvertise (p := p) b).ms

@[simp] theorem State.enterParked_ms : (s.enterParked p).ms = s.ms := (Touches.enterParked (p := p)).ms

@[simp] theorem State.enterBackoff_ms : (s.enterBackoff p).ms = s.ms := (Touches.enterBackoff (p := p)).ms

@[simp] theorem State.enterSweepWait_ms : (s.enterSweepWait p).ms = s.ms := (Touches.enterSweepWait (p := p)).ms

@[simp] theorem State.enterDisabled_ms : (s.enterDisabled p).ms = s.ms := (Touches.enterDisabled (p := p)).ms

@[simp] theorem State.quietEndLane_ms (st : Station) (port : Port) : (s.quietEndLane p st port).ms = s.ms :=
  (Touches.quietEndLane (p := p) st port).ms

@[simp] theorem State.dropReason_ms (r : HoldReason) : (s.dropReason p r).ms = s.ms :=
  (Touches.dropReason (p := p) r).ms

@[simp] theorem State.releasePort_ms : (s.releasePort e p).ms = s.ms := (Touches.releasePort (p := p) e).ms

@[simp] theorem State.freeEngine_ms : (s.freeEngine e p).ms = s.ms := (Touches.freeEngine (p := p) e).ms

@[simp] theorem State.fireShot_ms (q : Pair) : (s.fireShot e p q).ms = s.ms := rfl

@[simp] theorem State.beginPair_ms (q : Pair) : (s.beginPair e p q).ms = s.ms := rfl

@[simp] theorem State.laneEntrySuspended_ms : (s.laneEntrySuspended p).ms = s.ms :=
  (Touches.laneEntrySuspended (p := p)).ms

@[simp] theorem State.removeEntry_ms (o : RemovalOutcome) : (s.removeEntry p o).ms = s.ms :=
  (Serves.removeEntry (p := p) o).ms

@[simp] theorem State.startChoice_ms : s.startChoice.ms = s.ms := (ServesQueue.startChoice s).ms

@[simp] theorem State.requestSweep_ms (r : SweepRequest) : (s.requestSweep r).ms = s.ms := by
  unfold State.requestSweep
  split <;> rfl

@[simp] theorem State.postCoord_ms (f : Frame) (x : Option EngineId) : (s.postCoord f x).ms = s.ms := by
  unfold State.postCoord
  split
  · rfl
  · split
    · rfl
    · split <;> rfl

/-! ## Failures, pair writes and the course of a sweep -/

@[simp] theorem State.afterFailure_ms (b : Bool) (o : LadderOutcome) : (s.afterFailure p b o).ms = s.ms := by
  cases o <;> cases b <;> simp [State.afterFailure]

@[simp] theorem State.failLane_ms (r : LastFailure) (b : Bool) : (s.failLane p r b).ms = s.ms := by
  unfold State.failLane
  simp only [State.afterFailure_ms, State.setLane_ms]
  split <;> simp

@[simp] theorem State.pairWrite_ms (q : Pair) (x : PairResult) (o : Origin) (c : Bool) :
    (s.pairWrite p q x o c).ms = s.ms := by
  have handOver (t : State) (old new : GradeSet) : (t.handOver p old new).ms = t.ms := by
    unfold State.handOver
    split
    · exact (Touches.unparkByRecord (p := p)).ms
    · rfl
  have postOption (t : State) (f : Option ChangeFlag) : (t.postOption p f).ms = t.ms := by cases f <;> rfl
  unfold State.pairWrite
  simp only [postOption, handOver, State.setRecord_ms]

@[simp] theorem State.postEndFrame_ms : (s.postEndFrame e p).ms = s.ms := by
  unfold State.postEndFrame
  simp only [State.modifyEngine_ms]
  split <;> simp

@[simp] theorem State.completeSweep_ms : (s.completeSweep e p).ms = s.ms := by simp [State.completeSweep]

@[simp] theorem State.cancelStop_ms : (s.cancelStop e p).ms = s.ms := by simp [State.cancelStop]

@[simp] theorem State.suspendSweep_ms : (s.suspendSweep e p).ms = s.ms := by simp [State.suspendSweep]

@[simp] theorem State.passEnd_ms (x : Entry) : (s.passEnd e x).ms = s.ms := by
  unfold State.passEnd
  split
  · simp
  · split <;> simp

@[simp] theorem State.afterPair_ms (q : Pair) : (s.afterPair e p q).ms = s.ms := by
  unfold State.afterPair
  split
  · rfl
  · split
    · split <;> simp
    · split
      · split <;> simp
      · simp

@[simp] theorem State.writePair_ms (q : Pair) (r : PairResult) : (s.writePair e p q r).ms = s.ms := by
  unfold State.writePair
  split <;> simp

@[simp] theorem State.afterShot_ms (q : Pair) (d : Nat) : (s.afterShot e p q d).ms = s.ms := by
  unfold State.afterShot
  simp only
  split
  · simp
  · split
    · simp
    · split <;> simp

@[simp] theorem State.endAnalysis_ms (q : Pair) : (s.endAnalysis e p q).ms = s.ms := by
  unfold State.endAnalysis
  split
  · rfl
  · simp only
    split <;> simp

@[simp] theorem State.preparePass_ms (x : Entry) : (s.preparePass e x).ms = s.ms := by simp [State.preparePass]

@[simp] theorem State.settled_ms (x : Entry) : (s.settled e x).ms = s.ms := by
  unfold State.settled
  simp only
  split <;> simp

/-! ## Calibration, captures, listen jobs, survey, holdoffs, minutes -/

@[simp] theorem State.fireCal_ms : (s.fireCal e p).ms = s.ms := rfl

@[simp] theorem State.takeCalibration_ms : (s.takeCalibration e).ms = s.ms := by
  unfold State.takeCalibration
  split <;> rfl

@[simp] theorem State.finishCalibration_ms : (s.finishCalibration e).ms = s.ms := by
  unfold State.finishCalibration
  split <;> simp

@[simp] theorem State.leaveStarting_ms : (s.leaveStarting p).ms = s.ms := by
  unfold State.leaveStarting
  simp only
  split <;> simp [State.transferAndRestore]

@[simp] theorem State.startupEnd_ms : s.startupEnd.ms = s.ms := by
  unfold State.startupEnd
  split
  · simp [foldl_ms _ State.leaveStarting_ms]
  · rfl

@[simp] theorem State.afterCalShot_ms : (s.afterCalShot e).ms = s.ms := by
  unfold State.afterCalShot
  split
  · rfl
  · split <;> simp

@[simp] theorem State.shotFailed_ms : (s.shotFailed p).ms = s.ms := by
  unfold State.shotFailed
  simp only
  split
  · simp
  · split
    · simp
    · split <;> simp
    all_goals simp

@[simp] theorem State.recordMember_ms (j : ListenJob) (m : Member) : (s.recordMember j m).ms = s.ms := by
  unfold State.recordMember
  simp only
  split <;> simp

@[simp] theorem State.endListenJob_ms : (s.endListenJob e).ms = s.ms := by
  unfold State.endListenJob
  split
  · rfl
  · simp [foldl_ms]

@[simp] theorem State.expireSurvey_ms : s.expireSurvey.ms = s.ms := by
  unfold State.expireSurvey State.restartSurvey
  split
  · simp only
    split <;> simp
  · split <;> simp

@[simp] theorem State.expireHoldoff_ms : (s.expireHoldoff p).ms = s.ms := by
  unfold State.expireHoldoff
  simp only
  split <;> simp

theorem State.ageRecords_eq : s.ageRecords = s.modifyRecords CableRecord.ageMinute s.presentPorts := rfl

@[simp] theorem State.advanceMinute_ms : s.advanceMinute.ms = s.ms := by
  unfold State.advanceMinute
  simp only [State.ageRecords_eq]
  rw [State.modifyRecords_rest]

end Sys2Proof.Machine
end

section
/-! SUPPORT. The events of the part's own: which are due (R1), that the command of one keeps the millisecond count, and what
the step on an empty queue takes (logs 1 and 3). -/

namespace Sys2Proof.Machine

/-! ## The tests that the lists of due events make -/

variable {s : State} {p : Port} {e : EngineId} {c : Instr}

@[simp] theorem State.laneTimerDue_iff {k : LaneTimer} :
    s.laneTimerDue p k = true ↔ (s.lane p).timer = some (k, s.ms) := by simp [State.laneTimerDue]

@[simp] theorem State.captureTimeoutDue_iff : s.captureTimeoutDue p = true ↔ (s.lane p).captureDue = some s.ms := by
  simp [State.captureTimeoutDue]

@[simp] theorem State.holdoffDue_iff : s.holdoffDue p = true ↔ s.holdoff p = some s.ms := by simp [State.holdoffDue]

@[simp] theorem State.surveyDue_iff : s.surveyDue = true ↔ s.surveyTimer = some s.ms := by simp [State.surveyDue]

@[simp] theorem State.minuteDue_iff : s.minuteDue = true ↔ timeBetween s.minuteMark s.ms = 60000 :=
  decide_eq_true_iff

@[simp] theorem State.engineTimerDue_iff {k : EngineTimer} :
    s.engineTimerDue e k = true ↔ (s.engine e).timer = some (k, s.ms) := by simp [State.engineTimerDue]

@[simp] theorem State.jobDue_iff : s.jobDue e = true ↔ ∃ j, (s.engine e).job = some j ∧ j.endTime = s.ms := by
  unfold State.jobDue
  split <;> simp [*]

@[simp] theorem State.passReady_iff : s.passReady e = true ↔
    (s.engine e).state = .preparing ∧ (s.engine e).timer = none ∧ ∀ f ∈ s.coordList, f.engine ≠ some e := by
  simp [State.passReady, State.framesOutstanding, and_assoc]

theorem State.boundEntry_isSome_iff :
    (s.boundEntry e).isSome = true ↔ ∃ p, (s.engine e).bound = some p ∧ ∃ x ∈ s.queue, x.port = p := by
  unfold State.boundEntry State.entryOf
  cases (s.engine e).bound with
  | none => simp
  | some p => simp only [Option.bind_some, List.find?_isSome, decide_eq_true_eq, Option.some.injEq, exists_eq_left']

/-! ## The due events -/

theorem State.mem_portEvents : c ∈ s.portEvents p ↔
    (c = .negWindowExpiry p ∧ (s.lane p).timer = some (.negotiate, s.ms)) ∨
    (c = .trainWindowExpiry p ∧ (s.lane p).timer = some (.train, s.ms)) ∨
    (c = .backoffExpiry p ∧ (s.lane p).timer = some (.backoff, s.ms)) ∨
    (∃ q ∈ (s.lane p).quiet, c = .quietRecordExpiry p q.asker q.askerPort ∧ q.expiry = s.ms) ∨
    (c = .captureTimeout p ∧ (s.lane p).captureDue = some s.ms) ∨
    (c = .holdoffExpiry p ∧ s.holdoff p = some s.ms) := by
  have quiet : (∃ q, (q ∈ (s.lane p).quiet ∧ q.expiry = s.ms) ∧ Instr.quietRecordExpiry p q.asker q.askerPort = c) ↔
      ∃ q ∈ (s.lane p).quiet, c = .quietRecordExpiry p q.asker q.askerPort ∧ q.expiry = s.ms :=
    ⟨fun ⟨q, ⟨mem, due⟩, h⟩ => ⟨q, mem, h.symm, due⟩, fun ⟨q, mem, h, due⟩ => ⟨q, ⟨mem, due⟩, h.symm⟩⟩
  simp only [State.portEvents, List.mem_append, mem_ifDue, List.mem_map, List.mem_filter, decide_eq_true_eq,
    State.laneTimerDue_iff, State.captureTimeoutDue_iff, State.holdoffDue_iff, quiet, or_assoc, and_comm (b := c = _)]

theorem State.mem_engineEvents : c ∈ s.engineEvents e ↔
    (c = .settleExpiry e ∧ (s.engine e).timer = some (.settle, s.ms)) ∨
    (c = .retryWaitExpiry e ∧ (s.engine e).timer = some (.retryWait, s.ms)) ∨
    (c = .analysisEnd e ∧ (s.engine e).timer = some (.analysis, s.ms)) ∨
    (c = .calibrationResult e ∧ (s.engine e).timer = some (.calibration, s.ms)) ∨
    (c = .listenJobEnd e ∧ ∃ j, (s.engine e).job = some j ∧ j.endTime = s.ms) ∨
    (c = .preparePass e ∧ (s.engine e).state = .preparing ∧ (s.engine e).timer = none ∧
      (∀ f ∈ s.coordList, f.engine ≠ some e) ∧ ∃ p, (s.engine e).bound = some p ∧ ∃ x ∈ s.queue, x.port = p) := by
  simp only [State.engineEvents, List.mem_append, mem_ifDue, Bool.and_eq_true, State.engineTimerDue_iff,
    State.jobDue_iff, State.passReady_iff, State.boundEntry_isSome_iff, and_assoc, or_assoc, and_comm (b := c = _)]

theorem State.mem_dueEvents_iff_isDue : c ∈ s.dueEvents ↔ s.isDue c := by
  simp only [State.dueEvents, State.isDue, List.mem_append, List.mem_flatMap, mem_ifDue, State.minuteDue_iff,
    State.surveyDue_iff, State.mem_presentPorts, mem_allEngines, true_and, State.mem_portEvents,
    State.mem_engineEvents, or_assoc, and_comm (b := c = _)]

/-! ## The command of a due event keeps the millisecond count -/

/-- The outcome is at the millisecond count of s, where it is a state. -/
def KeepsTime (s : State) (o : Host.Outcome State Fault Refusal) : Prop := ∀ t, o = .next t → t.ms = s.ms

theorem perform_keepsTime {f : State → State} (h : (f s).ms = s.ms) : KeepsTime s (s.perform f) := by
  intro t ht
  unfold State.perform at ht
  split at ht <;> cases ht
  · rfl
  · rw [State.settle_ms, h]

theorem tapEvent_keepsTime {f : State → State} (h : (f s).ms = s.ms) : KeepsTime s (s.tapEvent p f) := by
  refine perform_keepsTime ?_
  split
  · exact h
  · rfl

theorem execMinuteAdvance_keepsTime : KeepsTime s (execMinuteAdvance s) :=
  perform_keepsTime (by split <;> simp)

theorem execSurveyExpiry_keepsTime : KeepsTime s (execSurveyExpiry s) :=
  perform_keepsTime (by split <;> simp)

theorem execNegWindowExpiry_keepsTime : KeepsTime s (execNegWindowExpiry p s) :=
  tapEvent_keepsTime (by split <;> simp)

theorem execTrainWindowExpiry_keepsTime : KeepsTime s (execTrainWindowExpiry p s) :=
  tapEvent_keepsTime (by split <;> simp)

theorem execBackoffExpiry_keepsTime : KeepsTime s (execBackoffExpiry p s) :=
  tapEvent_keepsTime (by split <;> simp)

theorem execQuietRecordExpiry_keepsTime {st : Station} {q : Port} : KeepsTime s (execQuietRecordExpiry p st q s) :=
  tapEvent_keepsTime (by split <;> simp)

theorem execCaptureTimeout_keepsTime : KeepsTime s (execCaptureTimeout p s) :=
  tapEvent_keepsTime (by split <;> simp)

theorem execHoldoffExpiry_keepsTime : KeepsTime s (execHoldoffExpiry p s) :=
  tapEvent_keepsTime (by split <;> simp)

theorem execSettleExpiry_keepsTime : KeepsTime s (execSettleExpiry e s) := by
  refine perform_keepsTime ?_
  split
  · split <;> simp
  · rfl

theorem execRetryWaitExpiry_keepsTime : KeepsTime s (execRetryWaitExpiry e s) :=
  perform_keepsTime (by split <;> simp)

theorem execPreparePass_keepsTime : KeepsTime s (execPreparePass e s) := by
  refine perform_keepsTime ?_
  split
  · split <;> simp
  · rfl

theorem execAnalysisEnd_keepsTime : KeepsTime s (execAnalysisEnd e s) := by
  refine perform_keepsTime ?_
  split
  · simp only
    split <;> simp
  · rfl

theorem execCalibrationResult_keepsTime : KeepsTime s (execCalibrationResult e s) := by
  refine perform_keepsTime ?_
  split
  · split <;> simp
  · rfl

theorem execListenJobEnd_keepsTime : KeepsTime s (execListenJobEnd e s) :=
  perform_keepsTime (by split <;> simp)

theorem exec_keepsTime_of_isDue (h : s.isDue c) : KeepsTime s (exec c s) := by
  rcases h with ⟨rfl, -⟩ | ⟨rfl, -⟩ | ⟨p, -, hp⟩ | ⟨e, he⟩
  · exact execMinuteAdvance_keepsTime
  · exact execSurveyExpiry_keepsTime
  · rcases hp with ⟨rfl, -⟩ | ⟨rfl, -⟩ | ⟨rfl, -⟩ | ⟨q, -, rfl, -⟩ | ⟨rfl, -⟩ | ⟨rfl, -⟩
    · exact execNegWindowExpiry_keepsTime
    · exact execTrainWindowExpiry_keepsTime
    · exact execBackoffExpiry_keepsTime
    · exact execQuietRecordExpiry_keepsTime
    · exact execCaptureTimeout_keepsTime
    · exact execHoldoffExpiry_keepsTime
  · rcases he with ⟨rfl, -⟩ | ⟨rfl, -⟩ | ⟨rfl, -⟩ | ⟨rfl, -⟩ | ⟨rfl, -⟩ | ⟨rfl, -⟩
    · exact execSettleExpiry_keepsTime
    · exact execRetryWaitExpiry_keepsTime
    · exact execAnalysisEnd_keepsTime
    · exact execCalibrationResult_keepsTime
    · exact execListenJobEnd_keepsTime
    · exact execPreparePass_keepsTime

/-! ## The step on an empty queue -/

theorem step_of_pending_nil (h : s.pending = []) : step s = idleStep s := by simp [step, h]

theorem idleStep_inReset (r : s.inReset = true) : idleStep s = .next s := by simp [idleStep, r]

theorem idleStep_nothingDue (r : s.inReset = false) (h : s.dueEvents = []) : idleStep s = .next s.tick := by
  simp [idleStep, State.ownAct, ownAct, r, h]

theorem idleStep_oneDue (r : s.inReset = false) (h : s.dueEvents = [c]) : idleStep s = exec c s := by
  simp [idleStep, State.ownAct, ownAct, r, h]

/-- Of two or more due events the choice is one of them, whatever the free value. -/
theorem ownAct_picked (n : Nat) {l : List Instr} (h : 2 ≤ l.length) : ∃ c ∈ l, ownAct n l = .picked c := by
  match l, h with
  | c :: d :: rest, _ =>
    have lt : n % (rest.length + 2) < (c :: d :: rest).length := Nat.mod_lt _ (by omega)
    refine ⟨(c :: d :: rest)[n % (rest.length + 2)], List.getElem_mem lt, ?_⟩
    rw [ownAct, List.getD_eq_getElem _ _ lt]

theorem idleStep_severalDue (r : s.inReset = false) (h : 2 ≤ s.dueEvents.length) :
    ∃ c ∈ s.dueEvents, idleStep s = exec c s.countChoice := by
  obtain ⟨c, mem, hc⟩ := ownAct_picked (Config.dueChoice s.freeCount) h
  exact ⟨c, mem, by simp [idleStep, State.ownAct, r, hc]⟩

/-- With an event due, one that is due is taken. -/
theorem idleStep_takes_due (r : s.inReset = false) (h : s.dueEvents ≠ []) :
    ∃ d ∈ s.dueEvents, idleStep s = exec d s ∨ idleStep s = exec d s.countChoice := by
  match due : s.dueEvents, h with
  | [d], _ => exact ⟨d, by simp, .inl (idleStep_oneDue r due)⟩
  | c :: d :: rest, _ =>
    obtain ⟨x, mem, hx⟩ := idleStep_severalDue r (by simp [due])
    exact ⟨x, due ▸ mem, .inr hx⟩

end Sys2Proof.Machine
end

section
/-! SUPPORT. What the state after reset holds at each port and engine. -/

namespace Sys2Proof.Machine

/-- A lane after reset is at its power-on values, or those with the first CAL_SHOOT issued (R36, R37). -/
theorem State.reset_lane (p : Port) :
    State.reset.lane p = .powerOn ∨ ∃ e, State.reset.lane p = .powerOnCalibrating e := by
  by_cases h0 : p = 0
  · subst h0; exact .inr ⟨0, rfl⟩
  · by_cases h1 : p = 1
    · subst h1; exact .inr ⟨1, rfl⟩
    · have n0 : ¬ 0 = p.val := fun x => h0 (Fin.ext x.symm)
      have n1 : ¬ 1 = p.val := fun x => h1 (Fin.ext x.symm)
      exact .inl (by simp [State.lane, State.reset, n0, n1])

/-- Both engines are calibrating after reset (R37). -/
theorem State.reset_engine (e : EngineId) : ∃ p, State.reset.engine e = .calibrating p := by
  match e with
  | 0 => exact ⟨0, rfl⟩
  | 1 => exact ⟨1, rfl⟩

@[simp] theorem State.reset_flagsOf (p : Port) : State.reset.flagsOf p = 0 := by simp [State.flagsOf, State.reset]

@[simp] theorem State.reset_record (p : Port) : State.reset.record p = .neverTested := by
  simp [State.record, State.reset]

@[simp] theorem State.reset_holdoff (p : Port) : State.reset.holdoff p = none := by
  simp [State.holdoff, State.reset]

/-- A property of every lane holds after reset where it holds of a lane at power-on and of one in calibration. -/
theorem State.reset_allLanes {f : Lane → Bool} (off : f .powerOn = true) (cal : ∀ e, f (.powerOnCalibrating e) = true) :
    State.reset.allLanes f = true := by
  refine List.all_eq_true.2 fun p _ => ?_
  rcases State.reset_lane p with h | ⟨e, h⟩
  · rw [h, off]
  · rw [h, cal]

/-- Every invariant holds after reset: those of lanes and records port by port, the others of the fixed state. -/
theorem State.reset_safe : State.reset.safe = true := by
  have state : State.reset.allLanes Lane.stateSound = true := reset_allLanes (by decide) (by decide)
  have hold : State.reset.allLanes Lane.holdSound = true := reset_allLanes (by decide) (by decide)
  have ladder : State.reset.allLanes Lane.ladderSound = true := reset_allLanes (by decide) (by decide)
  have coupling : State.reset.couplingSound = true := rfl
  have records : State.reset.recordsSound = true := List.all_eq_true.2 fun p _ => by simp
  have line : State.reset.lineSound = true := by decide
  have queue : State.reset.queueSound = true := Bool.and_eq_true_iff.2 ⟨by decide, reset_allLanes (by decide) (by decide)⟩
  have binding : State.reset.bindingSound = true := by decide +kernel
  have choice : State.reset.choiceMade = true := by decide
  simp only [State.safe, state, hold, ladder, coupling, records, line, queue, binding, choice, Bool.and_self]

end Sys2Proof.Machine
end

section
/-! The statements on the step, time and reset. -/

open Sys2Proof Sys2Proof.Machine

/-- Settles O3: the due events are read off the lists, one of them is taken by the step, and no command of one moves the
count. -/
theorem expiryTakenBeforeTimePasses : Obligations.ExpiryTakenBeforeTimePasses := by
  refine ⟨fun s c => State.mem_dueEvents_iff_isDue, fun s c idle up due => ?_,
    fun s t c due h => exec_keepsTime_of_isDue due t h⟩
  have some_due : s.dueEvents ≠ [] := List.ne_nil_of_mem (State.mem_dueEvents_iff_isDue.2 due)
  obtain ⟨d, mem, taken⟩ := idleStep_takes_due up some_due
  exact ⟨d, State.mem_dueEvents_iff_isDue.1 mem, by rw [step_of_pending_nil idle]; exact taken⟩

/-- Settles O6: the fold over the present ports writes each record once. -/
theorem minuteAdvance : Obligations.MinuteAdvance := by
  refine fun s up => ⟨fun due => ⟨s.advanceMinute, ?_, ?_, fun p => ?_⟩, fun early => ?_⟩
  · show execMinuteAdvance s = _
    rw [execMinuteAdvance, State.perform_taken _ up, if_pos (State.minuteDue_iff.2 due)]
  · unfold State.advanceMinute
    rw [State.ageRecords_eq, State.modifyRecords_rest]
    rfl
  · have aged := s.record_modifyRecords CableRecord.ageMinute s.presentPorts_nodup p
    simp only [State.mem_presentPorts] at aged
    exact aged
  · show execMinuteAdvance s = _
    rw [execMinuteAdvance, State.perform_taken _ up, if_neg (mt State.minuteDue_iff.1 early)]

/-- Settles O2, by the number of due events. -/
theorem stepWithoutCommand : Obligations.StepWithoutCommand := by
  intro s idle
  rw [step_of_pending_nil idle]
  exact ⟨idleStep_inReset, fun up => ⟨idleStep_nothingDue up, fun _ => idleStep_oneDue up, idleStep_severalDue up⟩⟩

/-- Settles O5: the invariants are those of `State.reset_safe`; lanes and engines are read by the two forms they have. -/
theorem resetState : Obligations.ResetState := by
  refine ⟨State.reset_safe, ⟨rfl, rfl⟩,
    ⟨rfl, rfl, State.reset_flagsOf, rfl, rfl, rfl, rfl, rfl, rfl, rfl⟩, rfl, fun p => ?lane, ⟨rfl, fun e => ?engine⟩,
    State.reset_record, rfl, rfl, rfl, rfl, rfl, rfl, State.reset_holdoff⟩
  case lane =>
    rcases State.reset_lane p with h | ⟨e, h⟩ <;> rw [h] <;> simp [Lane.powerOn, Lane.powerOnCalibrating]
  case engine =>
    obtain ⟨p, h⟩ := State.reset_engine e
    rw [h]
    simp [Engine.calibrating, Engine.idle]

end

section
/-! SUPPORT. What the operations behind the Line Interface can change of it: nothing but the frames they post into the
coordination list, which stays within its 8 places (R11). -/

namespace Sys2Proof.Machine

/-- From s to t the reply list, the station counters and the count of consecutive collision errors are as they were, and the
coordination list stays within its places. -/
structure LineKept (s t : State) : Prop where
  replies : t.replyList = s.replyList
  check : t.checkFailures = s.checkFailures
  collision : t.collisionErrors = s.collisionErrors
  discarded : t.requestsDiscarded = s.requestsDiscarded
  run : t.collisionRun = s.collisionRun
  coord : s.coordList.length ≤ 8 → t.coordList.length ≤ 8

/-! ## The coordination list (R11) -/

theorem dropOldestSeen_length {l l' : List CoordFrame} (h : dropOldestSeen l = some l') : l.length = l'.length + 1 := by
  induction l generalizing l' with
  | nil => simp [dropOldestSeen] at h
  | cons x rest ih =>
    unfold dropOldestSeen at h
    split at h
    · simp only [Option.some.injEq] at h
      simp [h]
    · obtain ⟨m, hm, rfl⟩ := Option.map_eq_some_iff.1 h
      simp [ih hm]

theorem State.evictSeen_length {s : State} {l : List CoordFrame} (h : s.evictSeen = some l) :
    s.coordList.length = l.length + 1 := by
  unfold State.evictSeen at h
  split at h
  next x rest list =>
    obtain ⟨m, hm, rfl⟩ := Option.map_eq_some_iff.1 h
    simp [list, dropOldestSeen_length hm]
  next => exact dropOldestSeen_length h

namespace LineKept

variable {s t : State}

theorem refl (s : State) : LineKept s s := ⟨rfl, rfl, rfl, rfl, rfl, id⟩

theorem trans {u : State} (a : LineKept s t) (b : LineKept t u) : LineKept s u :=
  ⟨b.replies.trans a.replies, b.check.trans a.check, b.collision.trans a.collision, b.discarded.trans a.discarded,
    b.run.trans a.run, fun h => b.coord (a.coord h)⟩

theorem ofTouches {p : Port} (a : Touches p s t) : LineKept s t := by
  obtain ⟨_, _, _, h⟩ := a.rest; subst h; exact ⟨rfl, rfl, rfl, rfl, rfl, id⟩

theorem ofServes {p : Port} (a : Serves p s t) : LineKept s t := by
  obtain ⟨_, _, _, _, h⟩ := a.rest; subst h; exact ⟨rfl, rfl, rfl, rfl, rfl, id⟩

theorem ofServesQueue (a : ServesQueue s t) : LineKept s t := by
  obtain ⟨_, _, _, _, h⟩ := a.rest; subst h; exact ⟨rfl, rfl, rfl, rfl, rfl, id⟩

theorem foldl {α : Type} {f : State → α → State} (k : ∀ t x, LineKept t (f t x)) (l : List α) (h : LineKept s t) :
    LineKept s (l.foldl f t) := by
  induction l generalizing t with
  | nil => exact h
  | cons x l ih => exact ih (h.trans (k t x))

/-- Where a test decides between two operations. -/
theorem ite {c : Prop} [Decidable c] {u v : State} (a : LineKept s u) (b : LineKept s v) :
    LineKept s (if c then u else v) := by
  split
  · exact a
  · exact b

/-! ## After a further operation -/

section After

variable (h : LineKept s t)
include h

theorem lane_op {p : Port} {u : State} (a : Touches p t u) : LineKept s u := h.trans (ofTouches a)

theorem setLane (p : Port) (l : Lane) : LineKept s (t.setLane p l) := h.lane_op (Touches.setLane l)

theorem modifyLane (p : Port) (f : Lane → Lane) : LineKept s (t.modifyLane p f) := h.lane_op (Touches.modifyLane f)

theorem setEngine (e : EngineId) (g : Engine) : LineKept s (t.setEngine e g) :=
  h.lane_op (p := 0) (Touches.setEngine e g)

theorem modifyEngine (e : EngineId) (f : Engine → Engine) : LineKept s (t.modifyEngine e f) := h.setEngine e _

theorem post (p : Port) (f : ChangeFlag) : LineKept s (t.post p f) := h.lane_op (Touches.post f)

theorem postStation (r : StationNotice) : LineKept s (t.postStation r) := h.trans ⟨rfl, rfl, rfl, rfl, rfl, id⟩

theorem setRecord (p : Port) (r : CableRecord) : LineKept s (t.setRecord p r) := h.trans ⟨rfl, rfl, rfl, rfl, rfl, id⟩

theorem setHoldoff (p : Port) (x : Option Ms) : LineKept s (t.setHoldoff p x) := h.trans ⟨rfl, rfl, rfl, rfl, rfl, id⟩

theorem learn (k : CouplingKey) (level : Nat) (src : CouplingSource) : LineKept s (t.learn k level src) :=
  h.trans ⟨rfl, rfl, rfl, rfl, rfl, id⟩

theorem modifyEntry (p : Port) (f : Entry → Entry) : LineKept s (t.modifyEntry p f) :=
  h.trans ⟨rfl, rfl, rfl, rfl, rfl, id⟩

theorem postCoord (f : Frame) (e : Option EngineId) : LineKept s (t.postCoord f e) := by
  refine h.trans ?_
  unfold State.postCoord
  split
  next room =>
    refine ⟨rfl, rfl, rfl, rfl, rfl, fun _ => ?_⟩
    simpa [Config.coordCapacity] using room
  next =>
    split
    next => exact refl t
    next =>
      split
      next => exact refl t
      next l evicted =>
        refine ⟨rfl, rfl, rfl, rfl, rfl, fun bound => ?_⟩
        rw [State.evictSeen_length evicted] at bound
        simpa using bound

/-! ## Lanes and their entries -/

theorem restIn (p : Port) (st : LaneState) : LineKept s (t.restIn p st) := h.lane_op (Touches.restIn st)

theorem enterParked (p : Port) : LineKept s (t.enterParked p) := h.lane_op Touches.enterParked

theorem enterBackoff (p : Port) : LineKept s (t.enterBackoff p) := h.lane_op Touches.enterBackoff

theorem enterAdvertise (p : Port) (b : Bool) : LineKept s (t.enterAdvertise p b) := h.lane_op (Touches.enterAdvertise b)

theorem enterNegotiate (p : Port) : LineKept s (t.enterNegotiate p) := h.lane_op Touches.enterNegotiate

theorem enterTrain (p : Port) (g : Grade) : LineKept s (t.enterTrain p g) := h.lane_op (Touches.enterTrain g)

theorem enterSweepWait (p : Port) : LineKept s (t.enterSweepWait p) := h.lane_op Touches.enterSweepWait

theorem laneIssue (p : Port) (c : TapCommand) : LineKept s (t.laneIssue p c) := h.lane_op (Touches.laneIssue c)

theorem transferAndRestore (p : Port) : LineKept s (t.transferAndRestore p) := h.lane_op Touches.transferAndRestore

theorem transferInPlace (p : Port) : LineKept s (t.transferInPlace p) := h.lane_op Touches.transferInPlace

theorem leaveUp (p : Port) : LineKept s (t.leaveUp p) := h.lane_op Touches.leaveUp

theorem addReason (p : Port) (r : HoldReason) : LineKept s (t.addReason p r) := h.lane_op (Touches.addReason r)

theorem dropReason (p : Port) (r : HoldReason) : LineKept s (t.dropReason p r) := h.lane_op (Touches.dropReason r)

theorem releasePort (e : EngineId) (p : Port) : LineKept s (t.releasePort e p) := h.lane_op (Touches.releasePort e)

theorem shootPort (e : EngineId) (p : Port) (c : Byte → TapCommand) : LineKept s (t.shootPort e p c) :=
  h.lane_op (Touches.shootPort e c)

theorem listenDrop (p : Port) : LineKept s (t.listenDrop p) := h.lane_op Touches.listenDrop

theorem sweepWaitTest (p : Port) : LineKept s (t.sweepWaitTest p) := h.lane_op Touches.sweepWaitTest

theorem laneEntrySuspended (p : Port) : LineKept s (t.laneEntrySuspended p) := h.lane_op Touches.laneEntrySuspended

theorem quietEndLane (p : Port) (st : Station) (port : Port) : LineKept s (t.quietEndLane p st port) :=
  h.lane_op (Touches.quietEndLane st port)

theorem fireShot (e : EngineId) (p : Port) (q : Pair) : LineKept s (t.fireShot e p q) := h.lane_op (Touches.fireShot e q)

theorem beginPair (e : EngineId) (p : Port) (q : Pair) : LineKept s (t.beginPair e p q) :=
  h.lane_op (Touches.beginPair e q)

theorem freeEngine (e : EngineId) (p : Port) : LineKept s (t.freeEngine e p) := h.lane_op (Touches.freeEngine e)

theorem removeEntry (p : Port) (o : RemovalOutcome) : LineKept s (t.removeEntry p o) :=
  h.trans (ofServes (Serves.removeEntry o))

theorem startChoice : LineKept s t.startChoice := h.trans (ofServesQueue (ServesQueue.startChoice t))

theorem requestSweep (r : SweepRequest) : LineKept s (t.requestSweep r) := by
  unfold State.requestSweep
  split
  · exact h.trans ⟨rfl, rfl, rfl, rfl, rfl, id⟩
  · exact h.modifyEntry _ _
  · exact h
  · exact h

theorem afterFailure (p : Port) (queued : Bool) (o : LadderOutcome) : LineKept s (t.afterFailure p queued o) := by
  cases o with
  | park => exact h.enterParked p
  | retry => exact ite (h.enterSweepWait p) (h.enterBackoff p)
  | downshift => exact ite (h.enterSweepWait p) (h.enterBackoff p)

theorem failLane (p : Port) (r : LastFailure) (cable : Bool) : LineKept s (t.failLane p r cable) := by
  have counted := h.modifyLane p (·.countFailure r)
  unfold State.failLane
  exact ((ite (counted.requestSweep _) counted).setLane p _).afterFailure p _ _

theorem preempt (p : Port) : LineKept s (t.preempt p) := by
  unfold State.preempt
  split
  · exact ite (h.removeEntry p _) h
  · exact h

theorem enterUp (p : Port) : LineKept s (t.enterUp p) := ((h.modifyLane p _).post p _).preempt p

/-! ## The course of a sweep -/

theorem handOver (p : Port) (old new : GradeSet) : LineKept s (t.handOver p old new) :=
  ite (h.lane_op Touches.unparkByRecord) h

theorem pairWrite (p : Port) (q : Pair) (x : PairResult) (o : Origin) (c : Bool) :
    LineKept s (t.pairWrite p q x o c) := by
  have written := h.setRecord p ((t.record p).write q x o c)
  have handed := written.handOver p (t.record p).allowed ((t.record p).write q x o c).allowed
  unfold State.pairWrite State.postOption
  simp only
  split
  · exact handed.post p _
  · exact handed

theorem postEndFrame (e : EngineId) (p : Port) : LineKept s (t.postEndFrame e p) := by
  unfold State.postEndFrame
  refine LineKept.modifyEngine ?_ e _
  split
  · exact h
  · exact h.postCoord _ _
  · exact h.postCoord _ _

theorem completeSweep (e : EngineId) (p : Port) : LineKept s (t.completeSweep e p) :=
  (((h.postCoord _ _).modifyEngine e _).freeEngine e p).removeEntry p _

theorem cancelStop (e : EngineId) (p : Port) : LineKept s (t.cancelStop e p) :=
  ((h.postEndFrame e p).freeEngine e p).removeEntry p _

theorem suspendSweep (e : EngineId) (p : Port) : LineKept s (t.suspendSweep e p) :=
  (((h.postEndFrame e p).freeEngine e p).modifyEntry p _).laneEntrySuspended p

theorem suspendOn (p : Port) (b : Bool) : LineKept s (t.suspendOn p b) := by
  unfold State.suspendOn
  split
  · split
    · exact ite (h.suspendSweep _ p) h
    · exact h
  · exact h

theorem passEnd (e : EngineId) (x : Entry) : LineKept s (t.passEnd e x) := by
  unfold State.passEnd
  split
  · exact h.completeSweep e x.port
  · exact ite (h.suspendSweep e x.port) (((h.postCoord _ _).modifyEntry x.port _).modifyEngine e _)

theorem afterPair (e : EngineId) (p : Port) (q : Pair) : LineKept s (t.afterPair e p q) := by
  unfold State.afterPair
  split
  · exact h
  · split
    · exact ite (h.completeSweep e p) (h.cancelStop e p)
    · split
      · exact ite (h.suspendSweep e p) (h.beginPair e p _)
      · exact h.passEnd e _

theorem writePair (e : EngineId) (p : Port) (q : Pair) (r : PairResult) : LineKept s (t.writePair e p q r) := by
  unfold State.writePair
  split
  · exact h
  · exact (((h.modifyEntry p _).modifyEngine e _).pairWrite p q r _ _).afterPair e p q

theorem afterShot (e : EngineId) (p : Port) (q : Pair) (d : Nat) : LineKept s (t.afterShot e p q d) := by
  unfold State.afterShot
  simp only
  split
  · exact h.writePair e p q _
  · split
    · exact h.fireShot e p q
    · exact ite (h.writePair e p q _) (h.modifyEngine e _)

theorem endAnalysis (e : EngineId) (p : Port) (q : Pair) : LineKept s (t.endAnalysis e p q) := by
  unfold State.endAnalysis
  split
  · exact h
  · exact ite ((h.modifyEngine e _).afterPair e p q) (h.writePair e p q _)

theorem preparePass (e : EngineId) (x : Entry) : LineKept s (t.preparePass e x) := by
  unfold State.preparePass
  exact (h.postCoord _ _).modifyEngine e _

theorem settled (e : EngineId) (x : Entry) : LineKept s (t.settled e x) := by
  have announced := (h.postCoord (sweepStartFrame x.port (t.engine e).passPairs
    (listenUnits (pairsOf (t.engine e).passPairs).length x.depth)) (some e)).modifyEngine e
      fun g => { g.stopTimer with announcement := .started }
  unfold State.settled
  simp only
  split
  · exact announced.beginPair e x.port _
  · exact announced

theorem shotCompleted (e : EngineId) (p : Port) (b : Four ShotBlock) : LineKept s (t.shotCompleted e p b) := by
  unfold State.shotCompleted
  split
  · exact ((h.modifyLane p _).modifyEngine e _).afterShot e p _ _
  · exact h.modifyLane p _

/-! ## Calibration and start-up -/

theorem fireCal (e : EngineId) (p : Port) : LineKept s (t.fireCal e p) := (h.modifyEngine e _).shootPort e p _

theorem takeCalibration (e : EngineId) : LineKept s (t.takeCalibration e) := by
  unfold State.takeCalibration
  split
  next => exact h.setEngine e _
  next p rest _ =>
    have shorter : LineKept s { t with calList := rest } := h.trans ⟨rfl, rfl, rfl, rfl, rfl, id⟩
    exact (shorter.setEngine e _).fireCal e p

theorem afterCalShot (e : EngineId) : LineKept s (t.afterCalShot e) := by
  unfold State.afterCalShot
  split
  · exact h
  · exact ite (h.fireCal e _) (h.modifyEngine e _)

theorem calShotCompleted (e : EngineId) (p : Port) (b : ShotBlock) : LineKept s (t.calShotCompleted e p b) :=
  ((h.modifyLane p _).modifyEngine e _).afterCalShot e

theorem shotFailed (p : Port) : LineKept s (t.shotFailed p) := by
  have closed := h.modifyLane p Lane.closeCapture
  unfold State.shotFailed
  simp only
  split
  next => exact closed
  next e _ =>
    split
    case h_1 => exact closed.afterCalShot e
    case h_2 =>
      split
      · exact (closed.modifyEngine e _).afterShot e p _ _
      · exact closed
    all_goals exact closed

theorem finishCalibration (e : EngineId) : LineKept s (t.finishCalibration e) := by
  unfold State.finishCalibration
  split
  · exact h
  · exact ((h.modifyLane _ _).releasePort e _).takeCalibration e

theorem leaveStarting (p : Port) : LineKept s (t.leaveStarting p) :=
  ite ((h.transferAndRestore p).enterAdvertise p true) ((h.transferAndRestore p).restIn p .disabled)

theorem startupEnd : LineKept s t.startupEnd :=
  ite ((h.foldl (fun u p => (refl u).leaveStarting p) t.presentPorts).postStation _) h

/-! ## Listen jobs and the frames of peers -/

theorem takeQuietAsk (st : Station) (port : Port) (units : Byte) : LineKept s (t.takeQuietAsk st port units) :=
  h.foldl (fun _ p => ofTouches (Touches.quietAskLane (p := p) _)) _

theorem endQuiet (st : Station) (port : Port) : LineKept s (t.endQuiet st port) :=
  h.foldl (fun u p => (refl u).quietEndLane p st port) _

theorem takeSweepStart (st : Station) (port : Port) (units : Byte) : LineKept s (t.takeSweepStart st port units) := by
  unfold State.takeSweepStart
  simp only
  split
  · exact h
  · exact ite h (LineKept.foldl (fun u p => ofTouches (Touches.listenPort (p := p) _)) _
      (LineKept.foldl (fun u m => (refl u).addReason _ _) _ (h.setEngine _ _)))

theorem foldBlock (e : EngineId) (p : Port) (b : Four (Vector Sample 512)) : LineKept s (t.foldBlock e p b) :=
  h.modifyEngine e _

theorem recordMember (j : ListenJob) (m : Member) : LineKept s (t.recordMember j m) :=
  ite ((h.learn _ _ _).postCoord _ _) h

theorem endListenJob (e : EngineId) : LineKept s (t.endListenJob e) := by
  unfold State.endListenJob
  split
  · exact h
  next j _ =>
    have recorded := h.foldl (fun u m => (refl u).recordMember j m) j.members
    have released := (recorded.setEngine e .idle).foldl (fun u m => (refl u).releasePort e (Member.port m)) j.members
    exact (released.foldl (fun u m => (refl u).dropReason (Member.port m) .listen) _).startChoice

theorem endJobOf (e : EngineId) (st : Station) (port : Port) : LineKept s (t.endJobOf e st port) :=
  ite (h.endListenJob e) h

theorem takeSweepEnd (st : Station) (port : Port) : LineKept s (t.takeSweepEnd st port) :=
  ((h.endQuiet st port).endJobOf 0 st port).endJobOf 1 st port

theorem takeCouplingSeen (st : Station) (p q : Port) (level : Nat) : LineKept s (t.takeCouplingSeen st p q level) :=
  ite h (h.learn _ _ _)

theorem fromPeer (st : Station) {f : State → State} (k : LineKept s (f t)) : LineKept s (t.fromPeer st f) :=
  ite h (ite k h)

theorem withPeerPort (b : Byte) {f : Port → State} (k : ∀ p, LineKept s (f p)) : LineKept s (t.withPeerPort b f) := by
  unfold State.withPeerPort
  split
  · exact k _
  · exact h

theorem quietAskFrom (st : Station) (port units : Byte) : LineKept s (t.quietAskFrom st port units) :=
  h.fromPeer st (h.withPeerPort port fun p => h.takeQuietAsk st p units)

theorem sweepStartFrom (st : Station) (port units : Byte) : LineKept s (t.sweepStartFrom st port units) :=
  h.fromPeer st (h.withPeerPort port fun p => h.takeSweepStart st p units)

theorem sweepEndFrom (st : Station) (port : Byte) : LineKept s (t.sweepEndFrom st port) :=
  h.fromPeer st (h.withPeerPort port fun p => h.takeSweepEnd st p)

theorem quietEndFrom (st : Station) (port : Byte) : LineKept s (t.quietEndFrom st port) :=
  h.fromPeer st (h.withPeerPort port fun p => h.endQuiet st p)

theorem couplingSeenFrom (st : Station) (swept port : Byte) (level : BitVec 16) :
    LineKept s (t.couplingSeenFrom st swept port level) := by
  refine h.fromPeer st ?_
  split
  · exact h.takeCouplingSeen st _ _ _
  · exact h

theorem takeCoordination (kind : Byte) (st : Station) (payload : List Byte) :
    LineKept s (t.takeCoordination kind st payload) := by
  unfold State.takeCoordination
  split
  · exact h.quietAskFrom st _ _
  · exact h.sweepStartFrom st _ _
  · exact h.sweepEndFrom st _
  · exact h.quietEndFrom st _
  · exact h.couplingSeenFrom st _ _ _
  · exact h

/-! ## The survey, holdoffs and the minute -/

theorem setPassSet (ports : PortSet) : LineKept s { t with passSet := ports } := h.trans ⟨rfl, rfl, rfl, rfl, rfl, id⟩

theorem restartSurvey : LineKept s t.restartSurvey := h.trans ⟨rfl, rfl, rfl, rfl, rfl, id⟩

theorem expireSurvey : LineKept s t.expireSurvey := by
  unfold State.expireSurvey
  split
  next p _ =>
    have asked := h.requestSweep (t.automaticRequest p .survey)
    exact (ite (asked.setPassSet _) asked).restartSurvey
  next => exact ite h.restartSurvey (h.trans ⟨rfl, rfl, rfl, rfl, rfl, id⟩)

theorem expireHoldoff (p : Port) : LineKept s (t.expireHoldoff p) :=
  ite ((h.setHoldoff p none).requestSweep _) (h.setHoldoff p none)

theorem advanceMinute : LineKept s t.advanceMinute := by
  unfold State.advanceMinute
  exact (h.foldl (fun u p => (refl u).setRecord p _) t.presentPorts).trans ⟨rfl, rfl, rfl, rfl, rfl, id⟩

/-! ## The events of the taps -/

theorem energyRises (p : Port) : LineKept s (t.energyRises p) :=
  ((((h.modifyLane p _).suspendOn p true).listenDrop p).setHoldoff p none).sweepWaitTest p

theorem energyFalls (p : Port) : LineKept s (t.energyFalls p) := by
  have off := h.modifyLane p fun l => { l with energy := false }
  unfold State.energyFalls
  simp only
  split
  · exact off.enterAdvertise p false
  · exact ite (off.failLane p _ _) off

theorem firstWord (p : Port) (offer : GradeSet) (fault : Bool) : LineKept s (t.firstWord p offer fault) :=
  ite ((h.enterNegotiate p).failLane p _ _) ((h.enterNegotiate p).modifyLane p _)

theorem completeNegotiation (p : Port) : LineKept s (t.completeNegotiation p) := by
  unfold State.completeNegotiation
  simp only
  split
  · exact h.enterTrain p _
  · exact h.failLane p _ _

theorem nextWord (p : Port) (offer : GradeSet) (ack fault : Bool) : LineKept s (t.nextWord p offer ack fault) := by
  unfold State.nextWord
  split
  · exact h.failLane p _ _
  · have noted := h.setLane p { t.lane p with neg := (t.lane p).neg.word offer ack }
    simp only
    split
    · exact noted.laneIssue p _
    · exact ite (noted.completeNegotiation p) noted

theorem legacyDetected (p : Port) : LineKept s (t.legacyDetected p) :=
  ite (h.enterTrain p _) (h.failLane p _ _)

theorem loseLink (p : Port) : LineKept s (t.loseLink p) := by
  have dropped := (h.leaveUp p).modifyLane p fun x => { x with transferOwed := true, grade := none }
  have heldOff (u : State) (k : LineKept s u) : LineKept s
      (if (t.lane p).active.autoSweep then u.setHoldoff p (some (u.after Config.holdoffMs)) else u) :=
    ite (k.setHoldoff p _) k
  have ready := heldOff _ dropped
  unfold State.loseLink
  exact ite (ready.failLane p _ _) (ite (ready.enterAdvertise p false) ((ready.modifyLane p _).enterAdvertise p false))

/-! ## The owners' decisions on a request -/

theorem enableLane (p : Port) : LineKept s (t.enableLane p) :=
  ite ((h.transferAndRestore p).enterAdvertise p true) h

theorem disableLane (p : Port) : LineKept s (t.disableLane p) := by
  have quieted {u : State} (k : LineKept s u) := k.modifyLane p Lane.clearQuiet
  have disabled {u : State} (k : LineKept s u) : LineKept s (if (t.lane p).state = .disabled
      then u.modifyLane p Lane.clearQuiet else (u.modifyLane p Lane.clearQuiet).enterDisabled p) :=
    ite (quieted k) ((quieted k).restIn p .disabled)
  exact disabled (ite ((h.leaveUp p).modifyLane p _) h)

theorem carryOutRetrain (p : Port) : LineKept s (t.carryOutRetrain p) :=
  ((ite (h.leaveUp p) h).transferAndRestore p).enterAdvertise p true

theorem retrainLane (p : Port) : LineKept s (t.retrainLane p).1 := by
  unfold State.retrainLane
  split
  · exact h
  · split
    · exact h
    · exact h.carryOutRetrain p

theorem unparkLane (p : Port) : LineKept s (t.unparkLane p).1 := by
  unfold State.unparkLane
  split
  · exact h.retrainLane p
  · exact h

theorem sweepDecision (p : Port) (mask : PairSet) (depth : Nat) (force : Bool) :
    LineKept s (t.sweepDecision p mask depth force).1 := by
  unfold State.sweepDecision
  simp only
  repeat (split; exact h)
  exact h.requestSweep _

theorem cancelDecision (p : Port) : LineKept s (t.cancelDecision p) := by
  unfold State.cancelDecision
  split
  · exact h
  · split
    · exact ite h (ite ((h.modifyEntry p _).cancelStop _ p) (h.modifyEntry p _))
    · exact h
    · exact h.removeEntry p _

theorem applyProfile (p : Port) (now : Bool) : LineKept s (t.applyProfile p now) := by
  unfold State.applyProfile
  split
  case h_1 | h_4 => exact h.transferInPlace p
  case h_2 | h_3 | h_5 | h_7 | h_8 => exact h.enterAdvertise p true
  case h_6 => exact ite (h.transferInPlace p) (h.enterAdvertise p true)
  case h_9 => exact ite h ((h.leaveUp p).enterAdvertise p true)
  all_goals exact h

theorem profileDecision (b : ProfileBytes) : LineKept s (t.profileDecision b).1 := by
  unfold State.profileDecision
  simp only
  repeat (split; exact h)
  exact LineKept.foldl (fun u p => (refl u).applyProfile p _) _ (h.foldl (fun u p => (refl u).modifyLane p _) _)

theorem surveyDecision (interval : Nat) (continuous : Bool) : LineKept s (t.surveyDecision interval continuous).1 :=
  h.trans (ite ⟨rfl, rfl, rfl, rfl, rfl, id⟩ ⟨rfl, rfl, rfl, rfl, rfl, id⟩)

end After

end LineKept

end Sys2Proof.Machine
end

section
/-! SUPPORT. Every request places one reply (R18), and every command but a reset keeps the lists of the Line Interface within
their places (R9, R11, R12) and lowers no counter (R10). -/

namespace Sys2Proof.Machine

/-! ## Requests place one reply -/

/-- From s to t exactly one reply joins the reply list, at its tail; of the rest of the line only coordination frames move. -/
def Answered (s t : State) : Prop := ∃ u r, LineKept s u ∧ t = u.place r

theorem State.place_replyList (s : State) (r : ReplyEntry) : (s.place r).replyList = s.replyList ++ [r] := rfl

theorem LineKept.placed {s t : State} (h : LineKept s t) (r : ReplyEntry) : Answered s (t.place r) := ⟨t, r, h, rfl⟩

theorem LineKept.answered {s t : State} (h : LineKept s t) (k : RequestKind) (v : Decision) : Answered s (t.answer k v) :=
  h.placed _

namespace Answered

variable {s t : State}

theorem withPort {k : RequestKind} {b : Byte} {f : Port → State} (h : ∀ p, Answered s (f p)) :
    Answered s (s.withPort k b f) := by
  unfold State.withPort
  split
  · exact h _
  · exact (LineKept.refl s).answered _ _

theorem ite {c : Prop} [Decidable c] {u v : State} (a : Answered s u) (b : Answered s v) :
    Answered s (if c then u else v) := by
  split
  · exact a
  · exact b

theorem laneControl (s : State) (port action : Byte) : Answered s (s.laneControl port action) := by
  refine withPort fun p => ?_
  split
  · exact ((LineKept.refl s).enableLane p).answered _ _
  · exact ((LineKept.refl s).disableLane p).answered _ _
  · exact ((LineKept.refl s).retrainLane p).answered _ _
  · exact ((LineKept.refl s).unparkLane p).answered _ _
  · exact (LineKept.refl s).answered _ _

theorem sweepRequest (s : State) (port mask depth flags : Byte) : Answered s (s.sweepRequest port mask depth flags) :=
  withPort fun p => ite ((LineKept.refl s).answered _ _) (((LineKept.refl s).sweepDecision p _ _ _).answered _ _)

theorem cancelRequest (s : State) (port : Byte) : Answered s (s.cancelRequest port) :=
  withPort fun p => ((LineKept.refl s).cancelDecision p).answered _ _

theorem profileRequest (s : State) (b : ProfileBytes) : Answered s (s.profileRequest b) :=
  ite ((LineKept.refl s).answered _ _)
    (ite ((LineKept.refl s).answered _ _) (((LineKept.refl s).profileDecision b).answered _ _))

theorem guardRequest (s : State) (mask : BitVec 16) : Answered s (s.guardRequest mask) :=
  have guarded : LineKept s { s with guards := mask.setWidth 12 } := ⟨rfl, rfl, rfl, rfl, rfl, id⟩
  ite ((LineKept.refl s).answered _ _) (guarded.answered _ _)

theorem surveyRequest (s : State) (interval mode : Byte) : Answered s (s.surveyRequest interval mode) :=
  ite ((LineKept.refl s).answered _ _) (((LineKept.refl s).surveyDecision _ _).answered _ _)

theorem portQuery (s : State) (port : Byte) : Answered s (s.portQuery port) :=
  withPort fun _ => (LineKept.refl s).placed _

theorem recordRead (s : State) (port : Byte) : Answered s (s.recordRead port) :=
  withPort fun _ => (LineKept.refl s).placed _

theorem couplingClear (s : State) : Answered s s.couplingClear :=
  have emptied : LineKept s { s with coupling := [] } := ⟨rfl, rfl, rfl, rfl, rfl, id⟩
  emptied.answered _ _

end Answered

/-- A request that a frame hands on is the reset, or places one reply. -/
theorem decideRequest_answers {k : RequestKind} {payload : List Byte} {f : State → State}
    (h : decideRequest k payload = some f) (s : State) :
    k = .stationReset ∧ f = State.stationReset ∨ Answered s (f s) := by
  cases k with
  | stationReset => match payload, h with | [], rfl => exact .inl ⟨rfl, rfl⟩
  | laneControl => match payload, h with | [_, _], rfl => exact .inr (Answered.laneControl s _ _)
  | sweep => match payload, h with | [_, _, _, _], rfl => exact .inr (Answered.sweepRequest s _ _ _ _)
  | cancelSweep => match payload, h with | [_], rfl => exact .inr (Answered.cancelRequest s _)
  | setProfile =>
    match payload, h with
    | [_, _, _, _, _, _, _, _, _, _, _, _, _], rfl => exact .inr (Answered.profileRequest s _)
  | setGuard => match payload, h with | [_, _], rfl => exact .inr (Answered.guardRequest s _)
  | setSurvey => match payload, h with | [_, _], rfl => exact .inr (Answered.surveyRequest s _ _)
  | queryStation => match payload, h with | [], rfl => exact .inr ((LineKept.refl s).placed _)
  | queryPort => match payload, h with | [_], rfl => exact .inr (Answered.portQuery s _)
  | readRecord => match payload, h with | [_], rfl => exact .inr (Answered.recordRead s _)
  | readCoupling => match payload, h with | [_], rfl => exact .inr ((LineKept.refl s).placed _)
  | clearCoupling => match payload, h with | [], rfl => exact .inr (Answered.couplingClear s)

/-! ## The bounds of the line -/

/-- A count goes on from m to n within the limit of the counters (R10). -/
def RisesTo (m n : Nat) : Prop := m ≤ 255 → m ≤ n ∧ n ≤ 255

theorem RisesTo.of_eq {m n : Nat} (h : n = m) : RisesTo m n := fun b => ⟨h.ge, h.trans_le b⟩

theorem RisesTo.trans {k m n : Nat} (a : RisesTo k m) (b : RisesTo m n) : RisesTo k n := fun h =>
  ⟨(a h).1.trans (b (a h).2).1, (b (a h).2).2⟩

theorem RisesTo.countUp (n : Nat) : RisesTo n (countUp 255 n) := by
  intro h
  unfold Machine.countUp
  omega

/-- From s to t the lists of the Line Interface stay within their places, no counter falls, and each stays in its bound. -/
structure LineRises (s t : State) : Prop where
  coord : s.coordList.length ≤ 8 → t.coordList.length ≤ 8
  replies : s.replyList.length ≤ 4 → t.replyList.length ≤ 4
  check : RisesTo s.checkFailures t.checkFailures
  collision : RisesTo s.collisionErrors t.collisionErrors
  discarded : RisesTo s.requestsDiscarded t.requestsDiscarded
  run : s.collisionRun < 8 → t.collisionRun < 8

theorem State.lineSound_iff {s : State} : s.lineSound = true ↔
    s.coordList.length ≤ 8 ∧ s.replyList.length ≤ 4 ∧ s.checkFailures ≤ 255 ∧ s.collisionErrors ≤ 255 ∧
      s.requestsDiscarded ≤ 255 ∧ s.collisionRun < 8 := by
  simp only [State.lineSound, Bool.and_eq_true, decide_eq_true_eq, and_assoc]
  exact Iff.rfl

theorem State.leaveQueue_reply_nil {s : State} (h : s.replyList = []) : s.leaveQueue .reply = s := by
  simp [State.leaveQueue, h]

/-- The head of the reply list goes on to its next piece, or leaves (R12). -/
theorem State.leaveQueue_reply_cons {s : State} {r : ReplyEntry} {rest : List ReplyEntry} (h : s.replyList = r :: rest) :
    s.leaveQueue .reply = { s with replyList := r.advance.toList ++ rest } := by
  simp only [State.leaveQueue, h]
  cases r.advance <;> rfl

/-- The sender that a collision error has stopped, before its frame may be dropped (R7). -/
def State.collided (s : State) : State :=
  { s.countCollisionError with tx := none, rx := .waitIdle, collisionRun := s.collisionRun + 1 }

theorem State.collide_few {s : State} {t : TxFrame} (h : s.collisionRun + 1 < 8) : s.collide t = s.collided :=
  if_neg (Nat.not_le.2 h)

theorem State.collide_eighth {s : State} {t : TxFrame} (h : 8 ≤ s.collisionRun + 1) :
    s.collide t = { s.collided.leaveQueue t.place with collisionRun := 0, lastOpened := none } :=
  if_pos h

namespace LineRises

variable {s t u : State}

theorem lineSound (a : LineRises s t) (h : s.lineSound = true) : t.lineSound = true := by
  obtain ⟨coord, replies, check, collision, discarded, run⟩ := State.lineSound_iff.1 h
  exact State.lineSound_iff.2 ⟨a.coord coord, a.replies replies, (a.check check).2, (a.collision collision).2,
    (a.discarded discarded).2, a.run run⟩

theorem trans (a : LineRises s t) (b : LineRises t u) : LineRises s u :=
  ⟨b.coord ∘ a.coord, b.replies ∘ a.replies, a.check.trans b.check, a.collision.trans b.collision,
    a.discarded.trans b.discarded, b.run ∘ a.run⟩

theorem ofKept (a : LineKept s t) : LineRises s t :=
  ⟨a.coord, a.replies ▸ id, .of_eq a.check, .of_eq a.collision, .of_eq a.discarded, a.run ▸ id⟩

theorem refl (s : State) : LineRises s s := ofKept (LineKept.refl s)

theorem ite {c : Prop} [Decidable c] {u v : State} (a : LineRises s u) (b : LineRises s v) :
    LineRises s (if c then u else v) := by
  split
  · exact a
  · exact b

theorem setRx (s : State) (r : RxState) : LineRises s { s with rx := r } := ofKept ⟨rfl, rfl, rfl, rfl, rfl, id⟩

theorem countCheckFailure (s : State) : LineRises s s.countCheckFailure :=
  ⟨id, id, .countUp _, .of_eq rfl, .of_eq rfl, id⟩

theorem countCollisionError (s : State) : LineRises s s.countCollisionError :=
  ⟨id, id, .of_eq rfl, .countUp _, .of_eq rfl, id⟩

theorem countDiscard (s : State) : LineRises s s.countDiscard := ⟨id, id, .of_eq rfl, .of_eq rfl, .countUp _, id⟩

/-! ## The transmitter -/

theorem transmitChoice (s : State) : LineRises s s.transmitChoice := by
  have opened (f : TxFrame) : LineRises s (s.openFrame f) := by
    refine ⟨id, id, .of_eq rfl, .of_eq rfl, .of_eq rfl, fun bound => ?_⟩
    unfold State.openFrame
    split
    · split
      · exact bound
      · exact Nat.zero_lt_succ _
    · exact Nat.zero_lt_succ _
  refine ite ?_ (refl s)
  split
  · exact opened _
  · exact refl s

theorem settle (s : State) : LineRises s s.settle :=
  (ofKept (LineKept.refl s).startChoice).trans (transmitChoice _)

/-- A frame that leaves its place shortens its list, if any (R11 to R13). -/
theorem leaveQueue (s : State) (place : TxPlace) : LineRises s (s.leaveQueue place) := by
  cases place with
  | coordination =>
    have shorter : s.coordList.tail.length ≤ s.coordList.length := by simp
    exact ⟨shorter.trans, id, .of_eq rfl, .of_eq rfl, .of_eq rfl, id⟩
  | reply =>
    cases list : s.replyList with
    | nil => rw [State.leaveQueue_reply_nil list]; exact refl s
    | cons r rest =>
      have shorter : (r.advance.toList ++ rest).length ≤ s.replyList.length := by
        rw [list]
        cases r.advance <;> simp
      rw [State.leaveQueue_reply_cons list]
      exact ⟨id, shorter.trans, .of_eq rfl, .of_eq rfl, .of_eq rfl, id⟩
  | stationNotice r => exact ite (ofKept ⟨rfl, rfl, rfl, rfl, rfl, id⟩) (refl s)
  | portNotice p carried => exact ofKept ⟨rfl, rfl, rfl, rfl, rfl, id⟩

theorem sent (s : State) (t : TxFrame) : LineRises s (s.sent t) :=
  have left := leaveQueue s t.place
  ⟨left.coord, left.replies, left.check, left.collision, left.discarded, fun _ => Nat.zero_lt_succ _⟩

theorem collide (s : State) (t : TxFrame) : LineRises s (s.collide t) := by
  have counted := countCollisionError s
  rcases Nat.lt_or_ge (s.collisionRun + 1) 8 with few | eighth
  · rw [State.collide_few few]
    exact ⟨id, id, counted.check, counted.collision, counted.discarded, fun _ => few⟩
  · have left := leaveQueue s.collided t.place
    rw [State.collide_eighth eighth]
    exact ⟨left.coord, left.replies, counted.check.trans left.check, counted.collision.trans left.collision,
      counted.discarded.trans left.discarded, fun _ => Nat.zero_lt_succ _⟩

/-! ## Requests and received frames -/

theorem takeRequest {f : State → State} (h : Answered s (f s)) : LineRises s (s.takeRequest f) := by
  unfold State.takeRequest
  split
  next => exact countDiscard s
  next room =>
    split
    next => exact countDiscard s
    next =>
      obtain ⟨u, r, kept, placed⟩ := h
      have fits : (u.place r).replyList.length ≤ 4 := by
        rw [State.place_replyList, kept.replies, List.length_append]
        exact Nat.lt_of_not_le room
      have raised := ofKept kept
      rw [placed]
      exact ⟨raised.coord, fun _ => fits, raised.check, raised.collision, raised.discarded, raised.run⟩

end LineRises

/-- What becomes of a frame that passes its check, by the steps of R8. -/
theorem State.accept_cases (s : State) (kind : Byte) (originator target : Station) (payload : List Byte) :
    let t := s.accept kind originator target payload
    t = s ∨ t = s.countCollisionError ∨ t = s.countDiscard ∨
      (∃ k f, classifyKind kind = .request k ∧ decideRequest k payload = some f ∧ t = s.takeRequest f) ∨
      t = s.takeCoordination kind originator payload := by
  unfold State.accept
  split
  · exact .inr (.inl rfl)
  · split
    · exact .inl rfl
    · split
      next => exact .inr (.inr (.inl rfl))
      next k request =>
        split
        · exact .inr (.inr (.inl rfl))
        · split
          next f decided => exact .inr (.inr (.inr (.inl ⟨k, f, request, decided, rfl⟩)))
          next => exact .inr (.inr (.inl rfl))
      next =>
        split
        · exact .inr (.inr (.inr (.inr rfl)))
        · exact .inl rfl
      next => exact .inl rfl

theorem classifyKind_stationReset {kind : Byte} (h : classifyKind kind = .request .stationReset) : kind = 0x01 := by
  revert kind; decide

/-- A frame that passes its check lowers no counter, unless it is a STATION_RESET that is decided. -/
theorem State.accept_rises_or_resets (s : State) (kind : Byte) (originator target : Station) (payload : List Byte) :
    LineRises s (s.accept kind originator target payload) ∨
      kind = 0x01 ∧ s.accept kind originator target payload = s.takeRequest State.stationReset := by
  rcases s.accept_cases kind originator target payload with h | h | h | ⟨k, f, request, decided, h⟩ | h <;> rw [h]
  · exact .inl (.refl s)
  · exact .inl (.countCollisionError s)
  · exact .inl (.countDiscard s)
  · rcases decideRequest_answers decided s with ⟨rfl, rfl⟩ | answered
    · exact .inr ⟨classifyKind_stationReset request, rfl⟩
    · exact .inl (.takeRequest answered)
  · exact .inl (.ofKept ((LineKept.refl s).takeCoordination _ _ _))

end Sys2Proof.Machine
end

section
/-! SUPPORT. Every command but a reset keeps the lists of the Line Interface in their places and lowers no counter. -/

namespace Sys2Proof.Machine

/-! ## The forms of a command -/

/-- Where the outcome is a state, the line has risen to it from s. -/
def LineRisesTo (s : State) (o : Host.Outcome State Fault Refusal) : Prop := ∀ t, o = .next t → LineRises s t

variable {s : State}

theorem perform_rises {f : State → State} (h : LineRises s (f s)) : LineRisesTo s (s.perform f) := by
  intro t ht
  unfold State.perform at ht
  split at ht <;> cases ht
  · exact .refl s
  · exact h.trans (.settle _)

theorem perform_kept {f : State → State} (h : LineKept s (f s)) : LineRisesTo s (s.perform f) :=
  perform_rises (.ofKept h)

theorem tapEvent_kept {p : Port} {f : State → State} (h : LineKept s (f s)) : LineRisesTo s (s.tapEvent p f) :=
  perform_kept (.ite h (.refl s))

theorem request_rises {f : State → State} (h : Answered s (f s)) : LineRisesTo s (s.perform fun t => t.takeRequest f) :=
  perform_rises (.takeRequest h)

/-! ## The events of the line -/

theorem State.lengthOverflow_rises (s : State) : LineRises s s.lengthOverflow :=
  (LineRises.countCheckFailure s).trans (.setRx _ _)

/-- A complete frame lowers no counter, unless it is a STATION_RESET that is decided. -/
theorem State.takeFrame_rises_or_resets (s : State) (kind header : Byte) (payload : List Byte) (check : Byte) :
    LineRises s (s.takeFrame kind header payload check) ∨
      kind = 0x01 ∧ s.takeFrame kind header payload check =
        { s with rx := .afterFrame }.takeRequest State.stationReset := by
  have after := LineRises.setRx s .afterFrame
  unfold State.takeFrame
  split
  · exact .inl s.lengthOverflow_rises
  · simp only
    split
    · rcases State.accept_rises_or_resets { s with rx := .afterFrame } kind (header.extractLsb' 4 4)
        (header.extractLsb' 0 4) payload with rises | resets
      · exact .inl (after.trans rises)
      · exact .inr resets
    · exact .inl (after.trans (.countCheckFailure _))

theorem execFrameReceived_rises {kind : Byte} (header : Byte) (payload : List Byte) (check : Byte) (h : kind ≠ 0x01) :
    LineRisesTo s (execFrameReceived kind header payload check s) := by
  refine perform_rises (.ite ?_ (.refl s))
  rcases s.takeFrame_rises_or_resets kind header payload check with rises | ⟨reset, -⟩
  · exact rises
  · exact absurd reset h

theorem execFrameBreak_rises : LineRisesTo s (execFrameBreak s) :=
  perform_rises (.ite ((LineRises.countCheckFailure s).trans (.setRx _ _)) (.refl s))

theorem execFrameLengthOverflow_rises {len : Byte} : LineRisesTo s (execFrameLengthOverflow len s) :=
  perform_rises (.ite s.lengthOverflow_rises (.refl s))

theorem execTrailingCell_rises : LineRisesTo s (execTrailingCell s) :=
  perform_rises (.ite ((LineRises.countCheckFailure s).trans (.setRx _ _)) (.refl s))

theorem execLineIdle_rises : LineRisesTo s (execLineIdle s) := perform_rises (.ite (.setRx s _) (.refl s))

theorem execNewFrame_rises : LineRisesTo s (execNewFrame s) := perform_rises (.ite (.setRx s _) (.refl s))

theorem execArbitrationLost_rises : LineRisesTo s (execArbitrationLost s) :=
  perform_kept (.ite ⟨rfl, rfl, rfl, rfl, rfl, id⟩ (.refl s))

theorem execCollisionError_rises : LineRisesTo s (execCollisionError s) := by
  refine perform_rises ?_
  split
  · exact .collide s _
  · exact .refl s

theorem execFrameSent_rises : LineRisesTo s (execFrameSent s) := by
  refine perform_rises ?_
  split
  · exact .sent s _
  · exact .refl s

/-! ## The requests -/

section Requests

variable {port : Byte}

theorem execEnable_rises : LineRisesTo s (execEnable port s) := request_rises (.laneControl s port 1)

theorem execDisable_rises : LineRisesTo s (execDisable port s) := request_rises (.laneControl s port 2)

theorem execRetrain_rises : LineRisesTo s (execRetrain port s) := request_rises (.laneControl s port 3)

theorem execUnpark_rises : LineRisesTo s (execUnpark port s) := request_rises (.laneControl s port 4)

theorem execSweep_rises {mask depth flags : Byte} : LineRisesTo s (execSweep port mask depth flags s) :=
  request_rises (.sweepRequest s port mask depth flags)

theorem execCancelSweep_rises : LineRisesTo s (execCancelSweep port s) := request_rises (.cancelRequest s port)

theorem execSetProfile_rises {b : ProfileBytes} : LineRisesTo s (execSetProfile b s) :=
  request_rises (.profileRequest s b)

theorem execSetGuard_rises {mask : BitVec 16} : LineRisesTo s (execSetGuard mask s) :=
  request_rises (.guardRequest s mask)

theorem execSetSurvey_rises {interval mode : Byte} : LineRisesTo s (execSetSurvey interval mode s) :=
  request_rises (.surveyRequest s interval mode)

theorem execQueryStation_rises : LineRisesTo s (execQueryStation s) := request_rises ((LineKept.refl s).placed _)

theorem execQueryPort_rises : LineRisesTo s (execQueryPort port s) := request_rises (.portQuery s port)

theorem execReadRecord_rises : LineRisesTo s (execReadRecord port s) := request_rises (.recordRead s port)

theorem execReadCoupling_rises : LineRisesTo s (execReadCoupling port s) := request_rises ((LineKept.refl s).placed _)

theorem execClearCoupling_rises : LineRisesTo s (execClearCoupling s) := request_rises (.couplingClear s)

end Requests

/-! ## The frames of peers -/

section Peers

variable {st : Station} {port units : Byte}

theorem execQuietAsk_rises : LineRisesTo s (execQuietAsk st port units s) :=
  perform_kept ((LineKept.refl s).quietAskFrom st port units)

theorem execQuietEnd_rises : LineRisesTo s (execQuietEnd st port s) :=
  perform_kept ((LineKept.refl s).quietEndFrom st port)

theorem execSweepStart_rises (mask : Byte) : LineRisesTo s (execSweepStart st port mask units s) :=
  perform_kept ((LineKept.refl s).sweepStartFrom st port units)

theorem execSweepEnd_rises : LineRisesTo s (execSweepEnd st port s) :=
  perform_kept ((LineKept.refl s).sweepEndFrom st port)

theorem execCouplingSeen_rises {swept : Byte} {level : BitVec 16} :
    LineRisesTo s (execCouplingSeen st swept port level s) :=
  perform_kept ((LineKept.refl s).couplingSeenFrom st swept port level)

end Peers

/-! ## The events of taps and timers -/

section Ports

variable {p : Port}

theorem execEnergyOn_rises : LineRisesTo s (execEnergyOn p s) :=
  tapEvent_kept (.ite (.refl s) ((LineKept.refl s).energyRises p))

theorem execEnergyOff_rises : LineRisesTo s (execEnergyOff p s) :=
  tapEvent_kept (.ite ((LineKept.refl s).energyFalls p) (.refl s))

theorem execTrainProgress_rises {stage : TrainStage} : LineRisesTo s (execTrainProgress p stage s) :=
  tapEvent_kept (.ite ((LineKept.refl s).enterUp p) (.refl s))

theorem execLinkLost_rises : LineRisesTo s (execLinkLost p s) :=
  tapEvent_kept (.ite ((LineKept.refl s).loseLink p) (.refl s))

theorem execPowerDetectBegin_rises : LineRisesTo s (execPowerDetectBegin p s) :=
  tapEvent_kept (.ite (.refl s) ((((LineKept.refl s).modifyLane p _).addReason p _).suspendOn p _))

theorem execPowerDetectEnd_rises : LineRisesTo s (execPowerDetectEnd p s) :=
  tapEvent_kept (.ite (((LineKept.refl s).modifyLane p _).dropReason p _) (.refl s))

theorem execCaptureTimeout_rises : LineRisesTo s (execCaptureTimeout p s) :=
  tapEvent_kept (.ite ((LineKept.refl s).shotFailed p) (.refl s))

theorem execNegWindowExpiry_rises : LineRisesTo s (execNegWindowExpiry p s) :=
  tapEvent_kept (.ite ((LineKept.refl s).failLane p _ _) (.refl s))

theorem execTrainWindowExpiry_rises : LineRisesTo s (execTrainWindowExpiry p s) :=
  tapEvent_kept (.ite ((LineKept.refl s).failLane p _ _) (.refl s))

theorem execBackoffExpiry_rises : LineRisesTo s (execBackoffExpiry p s) :=
  tapEvent_kept (.ite ((LineKept.refl s).enterAdvertise p _) (.refl s))

theorem execQuietRecordExpiry_rises {st : Station} {q : Port} : LineRisesTo s (execQuietRecordExpiry p st q s) :=
  tapEvent_kept (.ite ((LineKept.refl s).quietEndLane p st q) (.refl s))

theorem execHoldoffExpiry_rises : LineRisesTo s (execHoldoffExpiry p s) :=
  tapEvent_kept (.ite ((LineKept.refl s).expireHoldoff p) (.refl s))

theorem execBurst_rises {offer : GradeSet} {ack fault : Bool} :
    LineRisesTo s (execBurst p offer ack fault s) := by
  refine tapEvent_kept ?_
  split
  · exact (LineKept.refl s).firstWord p offer fault
  · exact (LineKept.refl s).nextWord p offer ack fault
  all_goals exact .refl s

theorem execPlainPulse_rises : LineRisesTo s (execPlainPulse p s) :=
  tapEvent_kept (.ite (.ite (((LineKept.refl s).setLane p _).legacyDetected p) ((LineKept.refl s).setLane p _))
    (.refl s))

theorem execTrainFault_rises {kind : TrainFaultKind} {q : Pair} :
    LineRisesTo s (execTrainFault p kind q s) := by
  refine tapEvent_kept ?_
  split
  · exact .ite ((LineKept.refl s).failLane p _ _) (.refl s)
  · exact .refl s

theorem execCaptureDone_rises {tag : Byte} {data : Capture} :
    LineRisesTo s (execCaptureDone p tag data s) := by
  have ignored : LineRisesTo s (s.perform id) := perform_kept (.refl s)
  unfold execCaptureDone
  split
  next => exact ignored
  next =>
    split
    next => exact ignored
    next e _ =>
      split
      case h_1 => exact perform_kept ((LineKept.refl s).shotCompleted e p _)
      case h_2 => exact perform_kept ((LineKept.refl s).calShotCompleted e p _)
      case h_3 => exact perform_kept ((LineKept.refl s).foldBlock e p _)
      case h_10 | h_11 | h_12 => exact ignored
      all_goals exact fun _ stopped => nomatch stopped

end Ports

/-! ## The events of the clock and of the engines -/

section Engines

theorem execMinuteAdvance_rises : LineRisesTo s (execMinuteAdvance s) :=
  perform_kept (.ite (LineKept.refl s).advanceMinute (.refl s))

theorem execSurveyExpiry_rises : LineRisesTo s (execSurveyExpiry s) :=
  perform_kept (.ite (LineKept.refl s).expireSurvey (.refl s))

variable {e : EngineId}

theorem execRetryWaitExpiry_rises : LineRisesTo s (execRetryWaitExpiry e s) :=
  perform_kept (.ite ((LineKept.refl s).modifyEngine e _) (.refl s))

theorem execListenJobEnd_rises : LineRisesTo s (execListenJobEnd e s) :=
  perform_kept (.ite ((LineKept.refl s).endListenJob e) (.refl s))

theorem execPreparePass_rises : LineRisesTo s (execPreparePass e s) := by
  refine perform_kept (.ite ?_ (.refl s))
  split
  · exact (LineKept.refl s).preparePass e _
  · exact .refl s

theorem execSettleExpiry_rises : LineRisesTo s (execSettleExpiry e s) := by
  refine perform_kept (.ite ?_ (.refl s))
  split
  · exact (LineKept.refl s).settled e _
  · exact (LineKept.refl s).modifyEngine e _

theorem execAnalysisEnd_rises : LineRisesTo s (execAnalysisEnd e s) := by
  have stopped := (LineKept.refl s).modifyEngine e Engine.stopTimer
  refine perform_kept (.ite ?_ (.refl s))
  simp only
  split
  · exact stopped.endAnalysis e _ _
  · exact stopped

theorem execCalibrationResult_rises : LineRisesTo s (execCalibrationResult e s) :=
  perform_kept (.ite (.ite (((LineKept.refl s).finishCalibration 0).finishCalibration 1).startupEnd
    ((LineKept.refl s).finishCalibration e).startupEnd) (.refl s))

end Engines

/-! ## Every command -/

/-- The commands that clear the counters: power-on reset and STATION_RESET, as a command or in a frame (R10, R16). -/
def Instr.ClearsLine (c : Instr) : Prop :=
  c = .resetAssert ∨ (∃ sta pcs aut, c = .resetRelease sta pcs aut) ∨ c = .stationReset ∨
    ∃ header payload check, c = .frameReceived 0x01 header payload check

theorem exec_lineRises {c : Instr} (s : State) (h : ¬ Instr.ClearsLine c) : LineRisesTo s (exec c s) := by
  cases c with
  | resetAssert => exact absurd (.inl rfl) h
  | resetRelease => exact absurd (.inr (.inl ⟨_, _, _, rfl⟩)) h
  | stationReset => exact absurd (.inr (.inr (.inl rfl))) h
  | frameReceived kind header payload check =>
    exact execFrameReceived_rises header payload check fun reset =>
      h (.inr (.inr (.inr ⟨header, payload, check, by rw [reset]⟩)))
  | minuteAdvance => exact execMinuteAdvance_rises
  | frameBreak => exact execFrameBreak_rises
  | frameLengthOverflow => exact execFrameLengthOverflow_rises
  | trailingCell => exact execTrailingCell_rises
  | lineIdle => exact execLineIdle_rises
  | arbitrationLost => exact execArbitrationLost_rises
  | collisionError => exact execCollisionError_rises
  | frameSent => exact execFrameSent_rises
  | newFrame => exact execNewFrame_rises
  | enable => exact execEnable_rises
  | disable => exact execDisable_rises
  | retrain => exact execRetrain_rises
  | unpark => exact execUnpark_rises
  | sweep => exact execSweep_rises
  | cancelSweep => exact execCancelSweep_rises
  | setProfile => exact execSetProfile_rises
  | setGuard => exact execSetGuard_rises
  | setSurvey => exact execSetSurvey_rises
  | queryStation => exact execQueryStation_rises
  | queryPort => exact execQueryPort_rises
  | readRecord => exact execReadRecord_rises
  | readCoupling => exact execReadCoupling_rises
  | clearCoupling => exact execClearCoupling_rises
  | quietAsk => exact execQuietAsk_rises
  | quietEnd => exact execQuietEnd_rises
  | sweepStart _ _ mask => exact execSweepStart_rises mask
  | sweepEnd => exact execSweepEnd_rises
  | couplingSeen => exact execCouplingSeen_rises
  | energyOn => exact execEnergyOn_rises
  | energyOff => exact execEnergyOff_rises
  | burst => exact execBurst_rises
  | plainPulse => exact execPlainPulse_rises
  | trainProgress => exact execTrainProgress_rises
  | trainFault => exact execTrainFault_rises
  | linkLost => exact execLinkLost_rises
  | powerDetectBegin => exact execPowerDetectBegin_rises
  | powerDetectEnd => exact execPowerDetectEnd_rises
  | captureDone => exact execCaptureDone_rises
  | captureTimeout => exact execCaptureTimeout_rises
  | calibrationResult => exact execCalibrationResult_rises
  | negWindowExpiry => exact execNegWindowExpiry_rises
  | trainWindowExpiry => exact execTrainWindowExpiry_rises
  | backoffExpiry => exact execBackoffExpiry_rises
  | quietRecordExpiry => exact execQuietRecordExpiry_rises
  | settleExpiry => exact execSettleExpiry_rises
  | retryWaitExpiry => exact execRetryWaitExpiry_rises
  | preparePass => exact execPreparePass_rises
  | analysisEnd => exact execAnalysisEnd_rises
  | listenJobEnd => exact execListenJobEnd_rises
  | holdoffExpiry => exact execHoldoffExpiry_rises
  | surveyExpiry => exact execSurveyExpiry_rises

/-! ## The resets -/

theorem State.stationReset_lineSound (s : State) : s.stationReset.lineSound = true := rfl

theorem State.powerOnValues_lineSound (s : State) (station : Station) (twelve aut : Bool) :
    (s.powerOnValues station twelve aut).lineSound = true := rfl

theorem LineKept.beginCalibration (s : State) : LineKept s s.beginCalibration := by
  have listed : LineKept s { s with calList := s.presentPorts } := ⟨rfl, rfl, rfl, rfl, rfl, id⟩
  exact (listed.takeCalibration 0).takeCalibration 1

theorem execResetAssert_lineSound {s t : State} (ht : execResetAssert s = .next t) : t.lineSound = true := by
  cases ht; rfl

theorem execResetRelease_lineSound {s t : State} {sta : BitVec 3} {pcs aut : Bool}
    (ht : execResetRelease sta pcs aut s = .next t) : t.lineSound = true := by
  cases ht
  exact (LineRises.ofKept (LineKept.beginCalibration _)).lineSound (State.powerOnValues_lineSound _ _ _ _)

/-- A STATION_RESET that is handed on leaves the line sound, decided or not. -/
theorem State.takeRequest_stationReset_lineSound {s : State} (h : s.lineSound = true) :
    (s.takeRequest State.stationReset).lineSound = true := by
  unfold State.takeRequest
  split
  · exact (LineRises.countDiscard s).lineSound h
  · split
    · exact (LineRises.countDiscard s).lineSound h
    · exact s.stationReset_lineSound

theorem perform_lineSound {s t : State} {f : State → State} (h : s.lineSound = true)
    (after : (f s).lineSound = true) (ht : s.perform f = .next t) : t.lineSound = true := by
  unfold State.perform at ht
  split at ht <;> cases ht
  · exact h
  · exact (LineRises.settle _).lineSound after

theorem execFrameReceived_lineSound {s t : State} {kind header : Byte} {payload : List Byte} {check : Byte}
    (h : s.lineSound = true) (ht : execFrameReceived kind header payload check s = .next t) : t.lineSound = true := by
  refine perform_lineSound h ?_ ht
  split
  · rcases s.takeFrame_rises_or_resets kind header payload check with rises | ⟨-, resets⟩
    · exact rises.lineSound h
    · rw [resets]
      exact State.takeRequest_stationReset_lineSound ((LineRises.setRx s _).lineSound h)
  · exact h

theorem execStationReset_lineSound {s t : State} (h : s.lineSound = true) (ht : execStationReset s = .next t) :
    t.lineSound = true :=
  perform_lineSound (f := fun u => u.takeRequest State.stationReset) h (State.takeRequest_stationReset_lineSound h) ht

theorem exec_lineSound {c : Instr} {s t : State} (h : s.lineSound = true) (ht : exec c s = .next t) :
    t.lineSound = true := by
  by_cases clears : Instr.ClearsLine c
  · rcases clears with rfl | ⟨sta, pcs, aut, rfl⟩ | rfl | ⟨header, payload, check, rfl⟩
    · exact execResetAssert_lineSound ht
    · exact execResetRelease_lineSound ht
    · exact execStationReset_lineSound h ht
    · exact execFrameReceived_lineSound h ht
  · exact (exec_lineRises s clears t ht).lineSound h

theorem step_lineSound {s t : State} (h : s.lineSound = true) (ht : step s = .next t) : t.lineSound = true := by
  unfold step at ht
  split at ht
  next c rest _ =>
    have waiting : State.lineSound { s with pending := rest } = true := h
    exact exec_lineSound waiting ht
  next =>
    unfold idleStep at ht
    split at ht
    next => cases ht; exact h
    next =>
      split at ht
      next => cases ht; exact h
      next => exact exec_lineSound h ht
      next => exact exec_lineSound (s := s.countChoice) h ht

end Sys2Proof.Machine
end

section
/-! The statements on the bounds of the line, its counters and the end of a command. -/

open Sys2Proof Sys2Proof.Machine

/-- Settles O13: every command but a reset rises (`exec_lineRises`), and the resets leave the line at its reset values. -/
theorem stepKeepsLine : Obligations.StepKeepsLine := fun _ _ sound next => step_lineSound sound next

/-- Settles O23: the commands that clear the counters are the four that the statement excludes. -/
theorem countersOnlyRise : Obligations.CountersOnlyRise := by
  intro c s t sound next notAssert notRelease notReset notFrame
  have rises : LineRises s t := by
    refine exec_lineRises s ?_ t next
    rintro (h | ⟨_, _, _, h⟩ | h | ⟨_, _, _, h⟩)
    · exact notAssert h
    · exact notRelease _ _ _ h
    · exact notReset h
    · exact notFrame _ _ _ h
  obtain ⟨-, -, check, collision, discarded, -⟩ := State.lineSound_iff.1 sound
  exact ⟨(rises.check check).1, (rises.collision collision).1, (rises.discarded discarded).1⟩

/-- Settles O7: an engine with nothing to take chooses nothing, and what the choices change is that of `ServesQueue` and of
the transmitter. -/
theorem endOfCommand : Obligations.EndOfCommand := by
  refine ⟨fun s => ⟨rfl, rfl⟩, fun s nothing => ?_, fun s => ⟨?_, fun p absent => ?_⟩⟩
  · have chooses (e : EngineId) : s.engineChooses e = s := State.engineChooses_none (nothing e)
    have noStart : s.startChoice = s := by
      unfold State.startChoice
      rw [chooses 0, chooses 1, chooses 0]
    show s.startChoice.transmitChoice = s.transmitChoice
    rw [noStart]
  · obtain ⟨_, _, _, _, _, _, _, _, h⟩ := s.settle_rest
    exact ⟨s.settle, by rw [h]⟩
  · have serves := ServesQueue.startChoice s
    obtain ⟨_, _, _, _, opens⟩ := s.startChoice.transmitChoice_rest
    have lanes : s.settle.lanes = s.startChoice.lanes := by rw [State.settle, opens]
    have flags : s.settle.noticeFlags = s.startChoice.noticeFlags := by rw [State.settle, opens]
    exact ⟨(State.lane_of_lanes lanes p).trans (serves.lane p absent),
      (State.flagsOf_of_flags flags p).trans (serves.flags p absent)⟩

end

section
/-! SUPPORT. The receiver, the transmitter and the Outbound Queue: what each event of the line comes to where it is taken
(R3 to R14). -/

namespace Sys2Proof.Machine

/-! ## Events that are taken under a condition -/

theorem State.perform_if {s : State} {c : State → Prop} [DecidablePred c] (f : State → State) (up : s.inReset = false)
    (h : c s) : (s.perform fun t => if c t then f t else t) = .next (f s).settle := by
  rw [State.perform_taken _ up, if_pos h]

theorem State.receiving_iff {s : State} : s.receiving = true ↔ s.rx = .inFrame ∧ s.tx = none := by
  simp [State.receiving]

/-- The receiver that a broken frame leaves: one check failure more, waiting for idle (R3, R5, R10). -/
def State.brokeFrame (s : State) : State := { s.countCheckFailure with rx := .waitIdle }

theorem execFrameBreak_receiving {s : State} (up : s.inReset = false) (rx : s.rx = .inFrame) (tx : s.tx = none) :
    execFrameBreak s = .next s.brokeFrame.settle :=
  State.perform_if (c := fun t => t.receiving = true) State.brokeFrame up (State.receiving_iff.2 ⟨rx, tx⟩)

theorem execFrameLengthOverflow_receiving {s : State} {len : Byte} (up : s.inReset = false) (rx : s.rx = .inFrame)
    (tx : s.tx = none) (long : 16 < len.toNat) : execFrameLengthOverflow len s = .next s.brokeFrame.settle :=
  State.perform_if (c := fun t => t.receiving = true ∧ 16 < len.toNat) State.brokeFrame up
    ⟨State.receiving_iff.2 ⟨rx, tx⟩, long⟩

theorem execTrailingCell_afterFrame {s : State} (up : s.inReset = false) (rx : s.rx = .afterFrame) :
    execTrailingCell s = .next s.brokeFrame.settle :=
  State.perform_if (c := fun t => t.rx = .afterFrame) State.brokeFrame up rx

theorem execLineIdle_waiting {s : State} (up : s.inReset = false) (rx : s.rx = .waitIdle ∨ s.rx = .afterFrame) :
    execLineIdle s = .next { s with rx := .idle }.settle :=
  State.perform_if (c := fun t => t.rx = .waitIdle ∨ t.rx = .afterFrame) (fun t => { t with rx := .idle }) up rx

theorem execNewFrame_idle {s : State} (up : s.inReset = false) (rx : s.rx = .idle) :
    execNewFrame s = .next { s with rx := .inFrame }.settle :=
  State.perform_if (c := fun t => t.rx = .idle) (fun t => { t with rx := .inFrame }) up rx

theorem execArbitrationLost_of_tx {s : State} {f : TxFrame} (up : s.inReset = false) (tx : s.tx = some f) :
    execArbitrationLost s = .next { s with tx := none }.settle :=
  State.perform_if (c := fun t => t.tx.isSome = true) (fun t => { t with tx := none }) up (by rw [tx]; rfl)

theorem execFrameSent_of_tx {s : State} {f : TxFrame} (up : s.inReset = false) (tx : s.tx = some f) :
    execFrameSent s = .next (s.sent f).settle := by
  simp [execFrameSent, State.perform_taken _ up, tx]

theorem execCollisionError_of_tx {s : State} {f : TxFrame} (up : s.inReset = false) (tx : s.tx = some f) :
    execCollisionError s = .next (s.collide f).settle := by
  simp [execCollisionError, State.perform_taken _ up, tx]

/-! ## A reply list after its head has been sent or dropped (R12) -/

section Trains

variable (rest : List ReplyEntry)

theorem ReplyEntry.advance_single (f : Frame) : (ReplyEntry.single f).advance.toList ++ rest = rest := rfl

theorem ReplyEntry.advance_recordTrain (p : Port) (r : CableRecord) (n : Nat) :
    (ReplyEntry.recordTrain p r n).advance.toList ++ rest =
      if n + 1 < (recordPieces p r).length then .recordTrain p r (n + 1) :: rest else rest := by
  unfold ReplyEntry.advance
  exact (apply_ite (fun r : Option ReplyEntry => r.toList ++ rest) _ _ _)

theorem ReplyEntry.advance_couplingTrain (start : Byte) (total : Nat) (es : List CouplingEntry) (n : Nat) :
    (ReplyEntry.couplingTrain start total es n).advance.toList ++ rest =
      if n + 1 < (couplingPieces start total es).length then .couplingTrain start total es (n + 1) :: rest else rest := by
  unfold ReplyEntry.advance
  exact (apply_ite (fun r : Option ReplyEntry => r.toList ++ rest) _ _ _)

end Trains

/-- The frame leaves the Outbound Queue alike, whether it was sent or is dropped at a collision (R7). -/
theorem State.collided_leaveQueue (s : State) (place : TxPlace) :
    s.collided.leaveQueue place =
      { s.leaveQueue place with
        collisionErrors := countUp 255 s.collisionErrors, tx := none, rx := .waitIdle
        collisionRun := s.collisionRun + 1 } := by
  cases place with
  | coordination => rfl
  | reply =>
    cases list : s.replyList with
    | nil => rw [State.leaveQueue_reply_nil list, State.leaveQueue_reply_nil (s := s.collided) list]; rfl
    | cons r rest => rw [State.leaveQueue_reply_cons list, State.leaveQueue_reply_cons (s := s.collided) list]; rfl
  | stationNotice r =>
    by_cases carried : s.stationNotice = some r
    · exact (if_pos carried).trans (by rw [State.leaveQueue, if_pos carried]; rfl)
    · exact (if_neg carried).trans (by rw [State.leaveQueue, if_neg carried]; rfl)
  | portNotice p carried => rfl

/-! ## The transmit choice (R14, R7) -/

theorem State.transmitChoice_busy {s : State} (h : s.rx ≠ .idle ∨ s.tx ≠ none) : s.transmitChoice = s :=
  if_neg fun ⟨idle, free⟩ => h.elim (absurd idle) (absurd free)

theorem State.transmitChoice_none {s : State} (h : s.firstFrame = none) : s.transmitChoice = s := by
  simp [State.transmitChoice, h]

theorem State.transmitChoice_some {s : State} {t : TxFrame} (idle : s.rx = .idle) (free : s.tx = none)
    (h : s.firstFrame = some t) : s.transmitChoice = s.openFrame t := by
  simp [State.transmitChoice, idle, free, h]

/-- The frame that is opened keeps the count of collision errors exactly where it comes from the place last opened. -/
theorem State.openFrame_eq {s : State} {t : TxFrame} {again : Bool}
    (h : again = true ↔ ∃ l, s.lastOpened = some l ∧ l.same t.place = true) :
    s.openFrame t = { s with
      tx := some t, rx := .inFrame, lastOpened := some t.place
      collisionRun := if again then s.collisionRun else 0 } := by
  unfold State.openFrame
  cases last : s.lastOpened with
  | none =>
    obtain rfl : again = false := by simpa [last] using h
    rfl
  | some l =>
    obtain rfl : again = l.same t.place := Bool.eq_iff_iff.2 (by simpa [last] using h)
    rfl

/-- The transmit choice opens the first frame in the order of R14. -/
theorem State.transmitChoice_opens {s : State} {t : TxFrame} {again : Bool} (idle : s.rx = .idle) (free : s.tx = none)
    (first : s.firstFrame = some t) (h : again = true ↔ ∃ l, s.lastOpened = some l ∧ l.same t.place = true) :
    s.transmitChoice = { s with
      tx := some t, rx := .inFrame, lastOpened := some t.place
      collisionRun := if again then s.collisionRun else 0 } :=
  (State.transmitChoice_some idle free first).trans (State.openFrame_eq h)

@[simp] theorem TxPlace.same_coordination {l : TxPlace} : l.same .coordination = true ↔ l = .coordination := by
  cases l <;> simp [TxPlace.same]

@[simp] theorem TxPlace.same_reply {l : TxPlace} : l.same .reply = true ↔ l = .reply := by
  cases l <;> simp [TxPlace.same]

@[simp] theorem TxPlace.same_stationNotice {l : TxPlace} {r : StationNotice} :
    l.same (.stationNotice r) = true ↔ ∃ q, l = .stationNotice q := by
  cases l <;> simp [TxPlace.same]

@[simp] theorem TxPlace.same_portNotice {l : TxPlace} {p : Port} {carried : Byte} :
    l.same (.portNotice p carried) = true ↔ ∃ c, l = .portNotice p c := by
  cases l <;> simp [TxPlace.same]

/-! ## The first frame of the Outbound Queue (R14) -/

theorem State.firstFrame_coordination {s : State} {x : CoordFrame} {rest : List CoordFrame} (h : s.coordList = x :: rest) :
    s.firstFrame = some ⟨x.frame, .coordination⟩ := by
  simp [State.firstFrame, h]

theorem State.firstFrame_reply {s : State} {r : ReplyEntry} {rest : List ReplyEntry} {f : Frame} (c : s.coordList = [])
    (h : s.replyList = r :: rest) (next : r.nextFrame = some f) : s.firstFrame = some ⟨f, .reply⟩ := by
  simp [State.firstFrame, c, h, next]

theorem State.firstFrame_stationNotice {s : State} {r : StationNotice} (c : s.coordList = []) (l : s.replyList = [])
    (h : s.stationNotice = some r) : s.firstFrame = some ⟨stationNoticeFrame r, .stationNotice r⟩ := by
  simp [State.firstFrame, c, l, h]

theorem State.firstFrame_portNotice {s : State} (c : s.coordList = []) (l : s.replyList = [])
    (n : s.stationNotice = none) :
    s.firstFrame = s.noticePort.map fun p => ⟨s.portNoticeFrame p, .portNotice p (s.flagsOf p)⟩ := by
  simp [State.firstFrame, c, l, n]

theorem allPorts_eq_finRange : allPorts = List.finRange 12 := by decide

/-- The lowest-numbered port with a flag, among the present ones. -/
theorem State.noticePort_eq_some {s : State} {p : Port} (present : s.present p = true) (flagged : s.flagsOf p ≠ 0)
    (lower : ∀ q, q < p → s.flagsOf q = 0) : s.noticePort = some p := by
  unfold State.noticePort State.presentPorts
  rw [List.find?_filter, allPorts_eq_finRange, List.find?_eq_some_iff_getElem]
  refine ⟨by simpa [present] using flagged, p.val, by simp, by simp, fun j before => ?_⟩
  have clear := lower ⟨j, before.trans p.isLt⟩ before
  simp [clear]

theorem State.noticePort_eq_none {s : State} (clear : ∀ q, s.present q = true → s.flagsOf q = 0) :
    s.noticePort = none := by
  simpa [State.noticePort] using clear

/-! ## Notices byte for byte (R17, R33, R34) -/

theorem stationNoticeFrame_eq (r : StationNotice) :
    stationNoticeFrame r = ⟨0x31, 0, [if r = .started then 1 else 2]⟩ := by
  cases r <;> rfl

/-- The grade of a lane in UP, else 0 (R25, R33). -/
theorem byteOf_gradeField (l : Lane) : byteOf (gradeField l) =
    match l.state, l.grade with
    | .up, some g => BitVec.ofNat 8 (gradeNumber g)
    | _, _ => 0 := by
  unfold gradeField
  split
  next up => rw [up]; cases l.grade <;> rfl
  next => split <;> first | rfl | contradiction

theorem State.portNoticeFrame_eq (s : State) (p : Port) : s.portNoticeFrame p =
    ⟨0x30, 0, [BitVec.ofNat 8 (p.val + 1), s.flagsOf p, BitVec.ofNat 8 (laneStateCode (s.lane p).state),
      (match (s.lane p).state, (s.lane p).grade with
       | .up, some g => BitVec.ofNat 8 (gradeNumber g)
       | _, _ => 0),
      BitVec.ofNat 8 (overallCode (s.record p).overall)]⟩ := by
  rw [← byteOf_gradeField]
  rfl

/-! ## The coordination list (R11) -/

theorem State.coordHeadOpen_iff {s : State} : s.coordHeadOpen = true ↔ ∃ g, s.tx = some ⟨g, .coordination⟩ := by
  unfold State.coordHeadOpen
  split
  next g open_ => simp [open_]
  next other => simpa using fun g open_ => other g open_

theorem State.evictSeen_open {s : State} {x : CoordFrame} {rest : List CoordFrame} (h : s.coordHeadOpen = true)
    (list : s.coordList = x :: rest) : s.evictSeen = (dropOldestSeen rest).map (x :: ·) := by
  simp [State.evictSeen, h, list]

theorem State.evictSeen_closed {s : State} (h : s.coordHeadOpen = false) :
    s.evictSeen = dropOldestSeen s.coordList := by
  simp [State.evictSeen, h]

/-- The oldest COUPLING_SEEN leaves its place between the older frames and the newer ones. -/
theorem dropOldestSeen_append {older newer : List CoordFrame} {x : CoordFrame} (seen : x.frame.kind = couplingSeenCode)
    (others : ∀ y ∈ older, y.frame.kind ≠ couplingSeenCode) :
    dropOldestSeen (older ++ x :: newer) = some (older ++ newer) := by
  induction older with
  | nil => simp [dropOldestSeen, seen]
  | cons y older ih =>
    obtain ⟨other, others⟩ := List.forall_mem_cons.1 others
    simp [dropOldestSeen, other, ih others]

/-- The oldest COUPLING_SEEN that the transmitter has not open leaves (R11). -/
theorem State.evictSeen_append {s : State} {older newer : List CoordFrame} {x : CoordFrame}
    (list : s.coordList = older ++ x :: newer) (seen : x.frame.kind = couplingSeenCode)
    (closed : (∀ g, s.tx ≠ some ⟨g, .coordination⟩) → ∀ y ∈ older, y.frame.kind ≠ couplingSeenCode)
    (open_ : (∃ g, s.tx = some ⟨g, .coordination⟩) → older ≠ [] ∧ ∀ y ∈ older.tail, y.frame.kind ≠ couplingSeenCode) :
    s.evictSeen = some (older ++ newer) := by
  cases head : s.coordHeadOpen with
  | false =>
    have none_open : ∀ g, s.tx ≠ some ⟨g, .coordination⟩ := fun g h =>
      Bool.false_ne_true (head ▸ State.coordHeadOpen_iff.2 ⟨g, h⟩)
    rw [State.evictSeen_closed head, list, dropOldestSeen_append seen (closed none_open)]
  | true =>
    obtain ⟨nonempty, others⟩ := open_ (State.coordHeadOpen_iff.1 head)
    obtain ⟨y, older, rfl⟩ := List.exists_cons_of_ne_nil nonempty
    rw [List.tail_cons] at others
    rw [State.evictSeen_open head (list.trans (List.cons_append ..)), dropOldestSeen_append seen others]
    rfl

theorem State.postCoord_room {s : State} (f : Frame) (e : Option EngineId) (h : s.coordList.length < 8) :
    s.postCoord f e = { s with coordList := s.coordList ++ [⟨f, e⟩] } :=
  if_pos h

theorem State.postCoord_seen {s : State} {f : Frame} (e : Option EngineId) (full : 8 ≤ s.coordList.length)
    (seen : f.kind = couplingSeenCode) : s.postCoord f e = s :=
  (if_neg (Nat.not_lt.2 full)).trans (if_pos seen)

theorem State.postCoord_evicts {s : State} {f : Frame} (e : Option EngineId) {l : List CoordFrame}
    (full : 8 ≤ s.coordList.length) (other : f.kind ≠ couplingSeenCode) (evicted : s.evictSeen = some l) :
    s.postCoord f e =
      { s with coordList := l ++ [⟨f, e⟩], lastOpened := (s.postCoord f e).lastOpened } := by
  have noRoom : ¬ s.coordList.length < Config.coordCapacity := Nat.not_lt.2 full
  unfold State.postCoord
  simp only [noRoom, other, evicted, if_false]

end Sys2Proof.Machine
end

section
/-! The statements on the events of the line, the transmitter and the coordination list. -/

open Sys2Proof Sys2Proof.Machine

/-- Settles O24: the frames before the one evicted are those that R11 passes over. -/
theorem coordinationPost : Obligations.CoordinationPost := by
  refine fun s f e => ⟨State.postCoord_room f e, fun full seen => State.postCoord_seen e full seen, ?_⟩
  intro full other older x newer list seen closed open_
  exact State.postCoord_evicts e full other (State.evictSeen_append list seen closed open_)

/-- Settles O17: each event is taken in the state of receiver and transmitter that can see it. -/
theorem lineEvents : Obligations.LineEvents := by
  intro s up
  exact ⟨execFrameBreak_receiving up, fun rx tx _ long => execFrameLengthOverflow_receiving up rx tx long,
    execTrailingCell_afterFrame up, execLineIdle_waiting up, execNewFrame_idle up,
    fun _ tx => execArbitrationLost_of_tx up tx⟩

/-- Settles O18: the first frame of the Outbound Queue by the list that holds it. -/
theorem transmitOrder : Obligations.TransmitOrder := by
  intro s opened notice
  refine ⟨State.transmitChoice_busy, fun idle free => ⟨fun x rest list => ?_, fun r rest f c list next => ?_,
    fun r c l reason => ?_, fun p c l n present flagged lower => ?_, fun c l n clear => ?_⟩⟩
  · exact State.transmitChoice_opens idle free (State.firstFrame_coordination list) (by simp)
  · exact State.transmitChoice_opens idle free (State.firstFrame_reply c list next) (by simp)
  · have first := State.firstFrame_stationNotice c l reason
    rw [stationNoticeFrame_eq] at first
    refine State.transmitChoice_opens idle free first ?_
    cases s.lastOpened with
    | none => simp
    | some place => cases place <;> simp
  · have first := State.firstFrame_portNotice c l n
    have content : s.portNoticeFrame p = notice p := s.portNoticeFrame_eq p
    rw [State.noticePort_eq_some present flagged lower, Option.map_some, content] at first
    refine State.transmitChoice_opens idle free first ?_
    cases s.lastOpened with
    | none => simp
    | some place => cases place <;> simp
  · refine State.transmitChoice_none ?_
    rw [State.firstFrame_portNotice c l n, State.noticePort_eq_none clear]
    rfl

/-- Settles O19, by the place the frame was opened from. -/
theorem frameSent : Obligations.FrameSent := by
  intro s f place up tx free
  have sent : exec .frameSent s = .next (s.sent ⟨f, place⟩).settle := execFrameSent_of_tx up tx
  rw [sent]
  refine ⟨?_, ?_, ?_, ?_⟩
  · rintro rfl
    rfl
  · rintro rfl rest
    refine ⟨fun g list => ?_, fun p r n list => ?_, fun a k es n list => ?_⟩
    · rw [State.sent, State.leaveQueue_reply_cons list, ReplyEntry.advance_single]
    · rw [State.sent, State.leaveQueue_reply_cons list, ReplyEntry.advance_recordTrain]
    · rw [State.sent, State.leaveQueue_reply_cons list, ReplyEntry.advance_couplingTrain]
  · rintro r rfl
    by_cases carried : s.stationNotice = some r
    · rw [State.sent, State.leaveQueue, if_pos carried, if_pos carried]
    · rw [State.sent, State.leaveQueue, if_neg carried, if_neg carried]
  · rintro p carried rfl
    rfl

/-- Settles O20: the eighth collision error takes the frame out of the Outbound Queue as FRAME_SENT does. -/
theorem collisionError : Obligations.CollisionError := by
  intro s f place up tx
  refine ⟨fun few => ?_, fun eighth u v hu hv => ⟨?_, ?_⟩⟩
  · refine (execCollisionError_of_tx up tx).trans ?_
    rw [State.collide_few few]
    rfl
  · refine (execFrameSent_of_tx up tx).trans ?_
    rw [hv, hu]
    rfl
  · refine (execCollisionError_of_tx up tx).trans ?_
    rw [State.collide_eighth eighth, State.collided_leaveQueue, hv, hu]
    rfl

end

section
/-! SUPPORT. The steps of R8 on a complete frame, one lemma for each way they can end, and the command that a frame hands
on. -/

namespace Sys2Proof.Machine

/-! ## The kinds (R17) -/

theorem classifyKind_unlisted {kind : Byte} (none_ : kindLength kind.toNat = none)
    (other : isReplyKind kind.toNat = false) : classifyKind kind = .unlisted := by
  revert kind; decide

theorem classifyKind_request {kind : Byte} (h : 1 ≤ kind.toNat ∧ kind.toNat ≤ 12) :
    ∃ k, classifyKind kind = .request k ∧ (requestCode k).toNat = kind.toNat := by
  unfold classifyKind
  generalize kind.toNat = n at h ⊢
  match n, h with
  | 1, _ | 2, _ | 3, _ | 4, _ | 5, _ | 6, _ | 7, _ | 8, _ | 9, _ | 10, _ | 11, _ | 12, _ => exact ⟨_, rfl, rfl⟩
  | _ + 13, h => omega

theorem classifyKind_coordination {kind : Byte} (h : 0x10 ≤ kind.toNat ∧ kind.toNat ≤ 0x14) :
    classifyKind kind = .coordination := by
  revert kind; decide

theorem classifyKind_replyOrNotice {kind : Byte} (h : isReplyKind kind.toNat = true) :
    classifyKind kind = .replyOrNotice := by
  revert kind; decide

/-- A request is decided only where its payload has the length of its kind (R8 step 7). -/
theorem decideRequest_length {k : RequestKind} {payload : List Byte} {f : State → State}
    (h : decideRequest k payload = some f) : kindLength (requestCode k).toNat = some payload.length := by
  cases k with
  | stationReset | queryStation | clearCoupling => match payload, h with | [], _ => rfl
  | laneControl | setGuard | setSurvey => match payload, h with | [_, _], _ => rfl
  | cancelSweep | queryPort | readRecord | readCoupling => match payload, h with | [_], _ => rfl
  | sweep => match payload, h with | [_, _, _, _], _ => rfl
  | setProfile => match payload, h with | [_, _, _, _, _, _, _, _, _, _, _, _, _], _ => rfl

/-- A coordination frame whose length is not its kind's is ignored (R8 step 7). -/
theorem State.takeCoordination_badLength {s : State} {kind : Byte} {st : Station} {payload : List Byte}
    (h : kindLength kind.toNat ≠ some payload.length) : s.takeCoordination kind st payload = s := by
  unfold State.takeCoordination
  split
  case h_6 => rfl
  all_goals
    next k => exact absurd (by rw [k]; rfl) h

theorem not_peerStation {st : Station} (h : peerStation st = false) : st = 0 ∨ 8 < st.toNat := by
  revert st; decide

/-! ## The steps of R8 -/

section Accept

variable {s : State} {kind : Byte} {originator target : Station} {payload : List Byte}

theorem State.accept_own (own : originator = s.station) :
    s.accept kind originator target payload = s.countCollisionError :=
  if_pos own

theorem State.accept_otherTarget (other : originator ≠ s.station) (h : target ≠ s.station) (all : target ≠ 15) :
    s.accept kind originator target payload = s :=
  (if_neg other).trans (if_pos ⟨h, all⟩)

theorem not_otherTarget (addressed : target = s.station ∨ target = 15) :
    ¬ (target ≠ s.station ∧ target ≠ allStations) := fun ⟨a, b⟩ => addressed.elim a b

variable (other : originator ≠ s.station) (addressed : target = s.station ∨ target = 15)
include other addressed

theorem State.accept_unlisted (h : classifyKind kind = .unlisted) :
    s.accept kind originator target payload = s.countDiscard := by
  unfold State.accept
  rw [if_neg other, if_neg (not_otherTarget addressed), h]

theorem State.accept_replyOrNotice (h : classifyKind kind = .replyOrNotice) :
    s.accept kind originator target payload = s := by
  unfold State.accept
  rw [if_neg other, if_neg (not_otherTarget addressed), h]

theorem State.accept_notSupervisor {k : RequestKind} (h : classifyKind kind = .request k) (peer : originator ≠ 0) :
    s.accept kind originator target payload = s.countDiscard := by
  unfold State.accept
  rw [if_neg other, if_neg (not_otherTarget addressed), h]
  exact if_pos peer

theorem State.accept_badLength {k : RequestKind} (h : classifyKind kind = .request k)
    (undecided : decideRequest k payload = none) : s.accept kind originator target payload = s.countDiscard := by
  unfold State.accept
  rw [if_neg other, if_neg (not_otherTarget addressed), h]
  simp [undecided]

theorem State.accept_request {k : RequestKind} {f : State → State} (h : classifyKind kind = .request k)
    (supervisor : originator = 0) (decided : decideRequest k payload = some f) :
    s.accept kind originator target payload = s.takeRequest f := by
  unfold State.accept
  rw [if_neg other, if_neg (not_otherTarget addressed), h]
  simp [supervisor, supervisorStation, decided]

theorem State.accept_notPeer (h : classifyKind kind = .coordination) (notPeer : originator = 0 ∨ 8 < originator.toNat) :
    s.accept kind originator target payload = s := by
  unfold State.accept
  rw [if_neg other, if_neg (not_otherTarget addressed), h]
  refine if_neg fun ⟨lo, hi⟩ => ?_
  rcases notPeer with rfl | high
  · exact absurd lo (by decide)
  · omega

theorem State.accept_peer (h : classifyKind kind = .coordination) (peer : peerStation originator = true) :
    s.accept kind originator target payload = s.takeCoordination kind originator payload := by
  unfold State.accept
  rw [if_neg other, if_neg (not_otherTarget addressed), h]
  exact if_pos (by simpa [peerStation] using peer)

end Accept

/-! ## A complete frame (R5) -/

section Frame

variable {s : State} {kind header : Byte} {payload : List Byte} {check : Byte}

/-- The receiver after a complete frame: it waits for idle (R3). -/
abbrev State.frameDone (s : State) : State := { s with rx := .afterFrame }

theorem State.takeFrame_badCheck (short : payload.length ≤ 16)
    (sum : kind + header + BitVec.ofNat 8 payload.length + payload.sum + check ≠ 0) :
    s.takeFrame kind header payload check = s.frameDone.countCheckFailure := by
  unfold State.takeFrame
  rw [if_neg (Nat.not_lt.2 short)]
  exact if_neg fun passes => sum (of_decide_eq_true passes)

theorem State.takeFrame_checked (short : payload.length ≤ 16)
    (sum : kind + header + BitVec.ofNat 8 payload.length + payload.sum + check = 0) :
    s.takeFrame kind header payload check =
      s.frameDone.accept kind (header.extractLsb' 4 4) (header.extractLsb' 0 4) payload := by
  unfold State.takeFrame
  rw [if_neg (Nat.not_lt.2 short)]
  exact if_pos (decide_eq_true sum)

theorem execFrameReceived_receiving (up : s.inReset = false) (rx : s.rx = .inFrame) (tx : s.tx = none) :
    execFrameReceived kind header payload check s = .next (s.takeFrame kind header payload check).settle :=
  State.perform_if (c := fun t => t.receiving = true) (fun t => t.takeFrame kind header payload check) up
    (State.receiving_iff.2 ⟨rx, tx⟩)

theorem execFrameReceived_checked (up : s.inReset = false) (rx : s.rx = .inFrame) (tx : s.tx = none)
    (short : payload.length ≤ 16)
    (sum : kind + header + BitVec.ofNat 8 payload.length + payload.sum + check = 0) :
    execFrameReceived kind header payload check s =
      .next (s.frameDone.accept kind (header.extractLsb' 4 4) (header.extractLsb' 0 4) payload).settle := by
  rw [execFrameReceived_receiving up rx tx, State.takeFrame_checked short sum]

end Frame

/-! ## The command a frame hands on (R8 steps 8 and 9, R17) -/

/-- The four defined actions of LANE_CONTROL (R86 to R89). -/
theorem requestCommand_laneControl {port action : Byte} {c : Instr}
    (h : requestCommand 2 [port, action] = some c) (s : State) :
    exec c s = s.perform fun t => t.takeRequest fun u => u.laneControl port action := by
  replace h : (match action.toNat with
    | 1 => some (.enable port)
    | 2 => some (.disable port)
    | 3 => some (.retrain port)
    | 4 => some (.unpark port)
    | _ => none) = some c := h
  have byte {n : Nat} (k : action.toNat = n) : action = BitVec.ofNat 8 n := by rw [← k]; simp
  split at h
  case h_5 => cases h
  all_goals
    next k => cases h; rw [byte k]; rfl

/-- A request's frame is decided by the owner of its command's row. -/
theorem requestCommand_decided {kind : Byte} {payload : List Byte} {c : Instr}
    (h : requestCommand kind.toNat payload = some c) :
    ∃ k f, classifyKind kind = .request k ∧ decideRequest k payload = some f ∧
      ∀ s, exec c s = s.perform fun t => t.takeRequest f := by
  unfold classifyKind
  generalize kind.toNat = n at h ⊢
  match n, payload, h with
  | 2, [_, _], h => exact ⟨_, _, rfl, rfl, requestCommand_laneControl h⟩
  | 1, [], rfl | 3, [_, _, _, _], rfl | 4, [_], rfl | 5, [_, _, _, _, _, _, _, _, _, _, _, _, _], rfl
  | 6, [_, _], rfl | 7, [_, _], rfl | 8, [], rfl | 9, [_], rfl | 10, [_], rfl | 11, [_], rfl | 12, [], rfl =>
    exact ⟨_, _, rfl, rfl, fun _ => rfl⟩
  | _ + 13, _, h => exact nomatch h

/-- A peer's frame is taken as the row of its command is. -/
theorem peerCommand_taken {st : Station} {kind : Byte} {payload : List Byte} {c : Instr}
    (h : peerCommand st kind.toNat payload = some c) :
    classifyKind kind = .coordination ∧ ∀ s, exec c s = s.perform fun t => t.takeCoordination kind st payload := by
  unfold classifyKind State.takeCoordination
  generalize kind.toNat = n at h ⊢
  match n, payload, h with
  | 16, [_, _], rfl | 17, [_, _, _], rfl | 18, [_], rfl | 19, [_], rfl | 20, [_, _, _, _], rfl =>
    exact ⟨rfl, fun _ => rfl⟩
  | _ + 21, _, h => exact nomatch h

end Sys2Proof.Machine
end

section
/-! SUPPORT. The rows of the supervisor requests: what each runs where it is decided, and the checks of R20 that refuse it. -/

namespace Sys2Proof.Machine

/-- A row of a request runs one owner's decision, which is the reset or places one reply (R18, R23). -/
theorem exec_request {c : Instr} (h : (requestOf c).isSome = true) :
    ∃ f, (∀ s, exec c s = s.perform fun t => t.takeRequest f) ∧
      (c = .stationReset ∧ f = State.stationReset ∨ c ≠ .stationReset ∧ ∀ s, Answered s (f s)) := by
  cases c with
  | stationReset => exact ⟨_, fun _ => rfl, .inl ⟨rfl, rfl⟩⟩
  | enable port | disable port | retrain port | unpark port =>
    exact ⟨_, fun _ => rfl, .inr ⟨nofun, fun s => .laneControl s port _⟩⟩
  | sweep port mask depth flags => exact ⟨_, fun _ => rfl, .inr ⟨nofun, fun s => .sweepRequest s port mask depth flags⟩⟩
  | cancelSweep port => exact ⟨_, fun _ => rfl, .inr ⟨nofun, fun s => .cancelRequest s port⟩⟩
  | setProfile b => exact ⟨_, fun _ => rfl, .inr ⟨nofun, fun s => .profileRequest s b⟩⟩
  | setGuard mask => exact ⟨_, fun _ => rfl, .inr ⟨nofun, fun s => .guardRequest s mask⟩⟩
  | setSurvey interval mode => exact ⟨_, fun _ => rfl, .inr ⟨nofun, fun s => .surveyRequest s interval mode⟩⟩
  | queryStation => exact ⟨_, fun _ => rfl, .inr ⟨nofun, fun s => (LineKept.refl s).placed _⟩⟩
  | queryPort port => exact ⟨_, fun _ => rfl, .inr ⟨nofun, fun s => .portQuery s port⟩⟩
  | readRecord port => exact ⟨_, fun _ => rfl, .inr ⟨nofun, fun s => .recordRead s port⟩⟩
  | readCoupling start => exact ⟨_, fun _ => rfl, .inr ⟨nofun, fun s => (LineKept.refl s).placed _⟩⟩
  | clearCoupling => exact ⟨_, fun _ => rfl, .inr ⟨nofun, .couplingClear⟩⟩
  | _ => cases h

theorem Answered.replyList {s t : State} (h : Answered s t) : ∃ r, t.replyList = s.replyList ++ [r] := by
  obtain ⟨u, r, kept, rfl⟩ := h
  exact ⟨r, by rw [State.place_replyList, kept.replies]⟩

/-- A request that finds no place, or start-up not over, is discarded and counted (R9, R19). -/
theorem State.takeRequest_undecided {s : State} (f : State → State) (up : s.inReset = false) (h : s.decides = false) :
    s.takeRequest f = s.countDiscard := by
  unfold State.takeRequest
  split
  next => rfl
  next room =>
    split
    next => rfl
    next started =>
      have decided : s.decides = true :=
        State.decides_iff.2 ⟨up, Nat.lt_of_not_le room, Bool.eq_false_iff.2 started⟩
      exact absurd (decided.symm.trans h) (by decide)

/-! ## The checks of R20 -/

theorem State.answer_refused (s : State) (k : RequestKind) (r : RefuseReason) :
    s.answer k (.refused r) = s.reply (refusedReply (requestCode k) (reasonCode r)) := rfl

theorem State.portField_absent {s : State} {b : Byte} (h : b.toNat = 0 ∨ s.portCount < b.toNat) :
    s.portField b = none := by
  unfold State.portField State.present
  split
  next inRange => simp; omega
  next => rfl

theorem State.withPort_absent {s : State} {k : RequestKind} {b : Byte} {f : Port → State}
    (h : b.toNat = 0 ∨ s.portCount < b.toNat) : s.withPort k b f = s.reply (refusedReply (requestCode k) 1) := by
  unfold State.withPort
  rw [State.portField_absent h]
  rfl

theorem State.withPort_present {s : State} {k : RequestKind} {b : Byte} {f : Port → State} {p : Port}
    (h : b.toNat = p.val + 1) (here : s.present p = true) : s.withPort k b f = f p := by
  unfold State.withPort
  rw [State.portField_present h here]

/-- An absent port is refused before anything else (R20 step 2, R21). -/
theorem State.request_badPort {s : State} {k : RequestKind} {b : Byte} {g : State → Port → State}
    (d : s.decides = true) (h : b.toNat = 0 ∨ s.portCount < b.toNat) :
    (s.perform fun t => t.takeRequest fun u => u.withPort k b (g u)) =
      .next (s.reply (refusedReply (requestCode k) 1)).settle := by
  rw [State.request_decided _ d, State.withPort_absent h]

/-- Every row that names a port checks it first (R20 step 2). -/
theorem exec_badPort {s : State} {c : Instr} {k : RequestKind} {b : Byte} (d : s.decides = true)
    (row : requestOf c = some k) (field : portFieldOf c = some b) (h : b.toNat = 0 ∨ s.portCount < b.toNat) :
    exec c s = .next (s.reply (refusedReply (requestCode k) 1)).settle := by
  cases c with
  | enable | disable | retrain | unpark | sweep | cancelSweep | queryPort | readRecord =>
    cases row; cases field; exact State.request_badPort d h
  | _ => cases field

theorem State.maskPasses_false {s : State} {m : BitVec 16} (h : 2 ^ s.portCount ≤ m.toNat) : s.maskPasses m = false :=
  decide_eq_false (Nat.not_lt.2 h)

theorem State.guardRequest_badPort {s : State} {m : BitVec 16} (h : 2 ^ s.portCount ≤ m.toNat) :
    s.guardRequest m = s.reply (refusedReply 0x06 1) :=
  if_pos (State.maskPasses_false h)

theorem State.profileRequest_badPort {s : State} {b : ProfileBytes} (h : 2 ^ s.portCount ≤ b.mask.toNat) :
    s.profileRequest b = s.reply (refusedReply 0x05 1) :=
  if_pos (State.maskPasses_false h)

theorem State.profileRequest_badValue {s : State} {b : ProfileBytes} (passes : b.mask.toNat < 2 ^ s.portCount)
    (h : 2 ≤ b.apply.toNat ∨ 16 ≤ b.advertised.toNat ∨ 32 ≤ b.optionSelect.toNat ∨ 32 ≤ b.optionValue.toNat) :
    s.profileRequest b = s.reply (refusedReply 0x05 2) :=
  (if_neg (by simpa [State.maskPasses] using passes)).trans (if_pos h)

theorem State.sweepRequest_badValue {s : State} {p : Port} {b mask depth flags : Byte} (named : b.toNat = p.val + 1)
    (here : s.present p = true) (h : 16 ≤ mask.toNat ∨ 2 ≤ flags.toNat) :
    s.sweepRequest b mask depth flags = s.reply (refusedReply 0x03 2) :=
  (State.withPort_present named here).trans (if_pos h)

theorem State.surveyRequest_badValue {s : State} {interval mode : Byte} (h : 2 ≤ mode.toNat) :
    s.surveyRequest interval mode = s.reply (refusedReply 0x07 2) :=
  if_pos h

/-- An undefined action of LANE_CONTROL on a present port (R22). -/
theorem State.laneControl_undefined {s : State} {p : Port} {b action : Byte} (named : b.toNat = p.val + 1)
    (here : s.present p = true) (h : action = 0 ∨ 4 < action.toNat) :
    s.laneControl b action = s.reply (refusedReply 0x02 2) := by
  have undefined : action.toNat = 0 ∨ 4 < action.toNat := h.imp_left fun zero => by rw [zero]; rfl
  refine (State.withPort_present named here).trans ?_
  split
  case h_5 => rfl
  all_goals omega

theorem State.laneControl_absent {s : State} {b action : Byte} (h : b.toNat = 0 ∨ s.portCount < b.toNat) :
    s.laneControl b action = s.reply (refusedReply 0x02 1) :=
  State.withPort_absent h

/-- A port field from 1 to the strapped port count names a present port (R21, R35). -/
theorem State.exists_present {s : State} {b : Byte} (h : 1 ≤ b.toNat ∧ b.toNat ≤ s.portCount) :
    ∃ p : Port, b.toNat = p.val + 1 ∧ s.present p = true := by
  have atMost : s.portCount ≤ 12 := by unfold State.portCount; split <;> omega
  exact ⟨⟨b.toNat - 1, by omega⟩, by simp; omega, by simp [State.present]; omega⟩

end Sys2Proof.Machine
end

section
/-! The statements on received frames and on the handing-on and checking of requests. -/

open Sys2Proof Sys2Proof.Machine

/-- Settles O21: the steps of R8 up to step 7, one lemma for each. -/
theorem frameDecided : Obligations.FrameDecided := by
  intro kind header payload check s up rx tx short sum originator target k s' discarded out
  have taken : out = .next (s.takeFrame kind header payload check).settle := execFrameReceived_receiving up rx tx
  have accepted (passes : sum = 0) {t : State} (h : s.frameDone.accept kind originator target payload = t) :
      out = .next t.settle :=
    h ▸ execFrameReceived_checked up rx tx short passes
  refine ⟨fun fails => ?_, fun passes own => accepted passes (State.accept_own own),
    fun passes other elsewhere notAll => accepted passes (State.accept_otherTarget other elsewhere notAll),
    fun passes other addressed => ⟨fun noLength noReply => accepted passes ?_, fun request peer => accepted passes ?_,
      fun coordination notPeer => accepted passes ?_, fun reply => accepted passes ?_,
      fun request supervisor length => accepted passes ?_, fun coordination length => ?_⟩⟩
  · rw [taken, State.takeFrame_badCheck short fails]
    rfl
  · exact State.accept_unlisted other addressed (classifyKind_unlisted noLength noReply)
  · obtain ⟨r, isRequest, -⟩ := classifyKind_request request
    exact State.accept_notSupervisor other addressed isRequest peer
  · exact State.accept_notPeer other addressed (classifyKind_coordination coordination) notPeer
  · exact State.accept_replyOrNotice other addressed (classifyKind_replyOrNotice reply)
  · obtain ⟨r, isRequest, code⟩ := classifyKind_request request
    refine State.accept_badLength other addressed isRequest ?_
    rw [Option.eq_none_iff_forall_ne_some]
    intro f decided
    have fits := decideRequest_length decided
    rw [code] at fits
    exact length fits
  · have isCoordination := classifyKind_coordination coordination
    cases peer : peerStation originator with
    | true =>
      exact accepted passes ((State.accept_peer (s := s.frameDone) other addressed isCoordination peer).trans
        (State.takeCoordination_badLength length))
    | false => exact accepted passes (State.accept_notPeer other addressed isCoordination (not_peerStation peer))

/-- Settles O22: a request's frame and a peer's frame each run what their row runs. -/
theorem frameHandedOn : Obligations.FrameHandedOn := by
  intro kind header payload check s c up rx tx short sum other addressed named
  refine ⟨_, execFrameReceived_checked up rx tx short sum, ?_⟩
  rcases named with ⟨supervisor, request⟩ | ⟨peer, coordination⟩
  · obtain ⟨k, f, isRequest, decided, runs⟩ := requestCommand_decided request
    rw [runs, State.perform_taken (s := s.frameDone) _ up,
      State.accept_request (s := s.frameDone) other addressed isRequest supervisor decided]
  · obtain ⟨isCoordination, runs⟩ := peerCommand_taken coordination
    rw [runs, State.perform_taken (s := s.frameDone) _ up,
      State.accept_peer (s := s.frameDone) other addressed isCoordination peer]

/-- Settles O26: a request that is decided places one reply (`Answered`), or is the reset. -/
theorem requestPlaces : Obligations.RequestPlaces := by
  intro c s row up
  obtain ⟨f, runs, answers⟩ := exec_request row
  refine ⟨fun full => ?_, fun room started => ?_⟩
  · rw [runs, State.request_full f up full]
    rfl
  · have decided : s.decides = true := State.decides_iff.2 ⟨up, room, started⟩
    rw [runs, State.request_decided f decided]
    rcases answers with ⟨reset, rfl⟩ | ⟨notReset, answers⟩
    · exact ⟨s.stationReset, _, rfl, by rw [if_pos reset]; rfl⟩
    · obtain ⟨r, placed⟩ := (answers s).replyList
      exact ⟨f s, r, rfl, by rw [if_neg notReset, placed]⟩

/-- Settles O27: the port first, then the codes; an undefined action of LANE_CONTROL comes only in a frame. -/
theorem fieldChecks : Obligations.FieldChecks := by
  refine ⟨fun s d => ⟨fun c k b row field absent => exec_badPort d row field absent, fun m absent => ⟨?_, ?_⟩,
    fun p b mask depth flags named here undefined => ?_, fun b passes undefined => ?_, fun interval mode undefined => ?_,
    fun p b action named here undefined => State.laneControl_undefined named here undefined⟩,
    ?_⟩
  · exact (State.request_decided _ d).trans (by rw [State.guardRequest_badPort absent])
  · rintro b rfl
    exact (State.request_decided _ d).trans (by rw [State.profileRequest_badPort absent])
  · exact (State.request_decided _ d).trans (by rw [State.sweepRequest_badValue named here undefined])
  · exact (State.request_decided _ d).trans (by rw [State.profileRequest_badValue passes undefined])
  · exact (State.request_decided _ d).trans (by rw [State.surveyRequest_badValue undefined])
  · intro s header b action check up rx tx notZero supervisor addressed undefined sum t out
    have checked : 0x02 + header + BitVec.ofNat 8 [b, action].length + [b, action].sum + check = 0 := by
      simpa using sum
    have other : header.extractLsb' 4 4 ≠ s.station := fun own => notZero (own ▸ supervisor)
    have taken : out = .next (t.takeRequest fun u => u.laneControl b action).settle := by
      rw [← State.accept_request (s := t) (kind := 0x02) (payload := [b, action]) other addressed rfl supervisor rfl]
      exact execFrameReceived_checked up rx tx (by simp) checked
    refine ⟨fun undecided => ?_, fun d absent => ?_, fun d inRange => ?_⟩
    · rw [taken, State.takeRequest_undecided (s := t) _ up undecided]
      rfl
    · rw [taken, State.takeRequest_decided (s := t) _ d, State.laneControl_absent (s := t) absent]
    · obtain ⟨p, named, here⟩ := State.exists_present inRange
      rw [taken, State.takeRequest_decided (s := t) _ d, State.laneControl_undefined (s := t) named here undefined]

end

section
/-! SUPPORT. The queries: status replies byte for byte, and the pieces that the trains of a record and of the Coupling Table are
built into (R24 to R28, R17). -/

namespace Sys2Proof.Machine

/-! ## Bytes (R17) -/

theorem twoBytesOf_eq (n : Nat) : twoBytesOf n = [BitVec.ofNat 8 (n / 256), BitVec.ofNat 8 n] := by
  have high : (BitVec.ofNat 16 n).extractLsb' 8 8 = BitVec.ofNat 8 (n / 256) := by
    apply BitVec.eq_of_toNat_eq
    simp [Nat.shiftRight_eq_div_pow]
    omega
  have low : (BitVec.ofNat 16 n).extractLsb' 0 8 = BitVec.ofNat 8 n := by
    apply BitVec.eq_of_toNat_eq
    simp
  rw [twoBytesOf, twoBytes, high, low]

theorem twoBytes_eq (w : BitVec 16) : twoBytes w = [BitVec.ofNat 8 (w.toNat / 256), BitVec.ofNat 8 w.toNat] := by
  rw [← twoBytesOf_eq, twoBytesOf, BitVec.ofNat_toNat, BitVec.setWidth_eq]

theorem twoBytes_ofInt (i : Int) : twoBytes (BitVec.ofInt 16 i) =
    [BitVec.ofNat 8 ((i % 65536).toNat / 256), BitVec.ofNat 8 (i % 65536).toNat] := by
  rw [twoBytes_eq, BitVec.toNat_ofInt]
  rfl

theorem byteOf_bitOf_zero (b : Bool) : byteOf (bitOf b 0) = if b then 1 else 0 := by cases b <;> rfl

theorem byteOf_portNumber {p : Port} {b : Byte} (named : b.toNat = p.val + 1) : byteOf (portNumber p) = b := by
  rw [byteOf, portNumber, ← named, BitVec.ofNat_toNat, BitVec.setWidth_eq]

/-! ## The status replies (R24, R25) -/

theorem State.lanesUp_eq (s : State) :
    s.lanesUp = allPorts.countP fun p => s.present p && decide ((s.lane p).state = .up) := by
  rw [State.lanesUp, State.presentPorts, List.filter_filter, ← List.countP_eq_length_filter]
  congr
  funext p
  exact Bool.and_comm _ _

theorem State.byteOf_portCount (s : State) : byteOf s.portCount = if s.twelvePorts then 12 else 8 := by
  unfold State.portCount
  split <;> rfl

/-! ## The pieces of a record (R27) -/

/-- The content of the header piece (R17). -/
def CableRecord.headerContent (r : CableRecord) : List Byte :=
  [byteOf (recordStatusCode r.status)] ++ twoBytes r.sequence ++ [byteOf (originCode r.origin)] ++ twoBytesOf r.age ++
    [byteOf (overallCode r.overall), byteOf r.testedMask.toNat]

/-- The content of the pair piece of a tested pair (R17). -/
def PairRecord.pairContent (x : PairRecord) (q : Pair) (v : Verdict) : List Byte :=
  [byteOf (pairNumber q), byteOf (verdictCode v), byteOf (bitOf x.low 0 + bitOf x.noisy 1 + bitOf x.clipped 2)] ++
    twoBytesOf (x.distance.getD 0xFFFF) ++ twoBytesOf x.noise ++ twoBytesOf x.cross ++
    [byteOf (pairNumber x.crossPair), byteOf x.reflections.length]

/-- The content of the reflection piece of a pair (R17). -/
def PairRecord.reflectionContent (x : PairRecord) (q : Pair) : List Byte :=
  byteOf (pairNumber q) :: x.reflections.flatMap fun y => twoBytesOf y.distance ++ twoBytes (BitVec.ofInt 16 y.level)

/-- The contents of the pieces of one pair (R27). -/
def PairRecord.contents (x : PairRecord) (q : Pair) : List (List Byte) :=
  match x.verdict with
  | none => []
  | some v =>
    if x.reflections.isEmpty then [x.pairContent q v] else [x.pairContent q v, x.reflectionContent q]

theorem CableRecord.pieceContents_eq (r : CableRecord) : r.pieceContents =
    r.headerContent :: (r.pairs.a.contents .a ++ (r.pairs.b.contents .b ++ (r.pairs.c.contents .c ++
      (r.pairs.d.contents .d ++ [])))) := rfl

theorem PairRecord.contents_tested {x : PairRecord} {v : Verdict} (q : Pair) (h : x.verdict = some v) :
    x.contents q = if x.reflections = [] then [x.pairContent q v] else [x.pairContent q v, x.reflectionContent q] := by
  simp [PairRecord.contents, h]

/-- How many pieces a pair has: none untested, one without reflections, else two (R27). -/
def PairRecord.pieceCount (x : PairRecord) : Nat := if x.verdict = none then 0 else if x.reflections = [] then 1 else 2

theorem PairRecord.contents_length (x : PairRecord) (q : Pair) : (x.contents q).length = x.pieceCount := by
  unfold PairRecord.pieceCount
  cases h : x.verdict with
  | none => simp [PairRecord.contents, h]
  | some v =>
    rw [PairRecord.contents_tested q h]
    split <;> simp

/-! The contents with their 2-byte fields split into bytes. -/

theorem CableRecord.headerContent_bytes (r : CableRecord) : r.headerContent =
    [byteOf (recordStatusCode r.status)] ++ [byteOf (r.sequence.toNat / 256), byteOf r.sequence.toNat] ++
      [byteOf (originCode r.origin)] ++ [byteOf (r.age / 256), byteOf r.age] ++
      [byteOf (overallCode r.overall), byteOf r.testedMask.toNat] := by
  unfold CableRecord.headerContent
  rw [twoBytes_eq, twoBytesOf_eq]
  rfl

theorem PairRecord.pairContent_bytes (x : PairRecord) (q : Pair) (v : Verdict) : x.pairContent q v =
    [byteOf (pairNumber q), byteOf (verdictCode v), byteOf (bitOf x.low 0 + bitOf x.noisy 1 + bitOf x.clipped 2)] ++
      [byteOf (x.distance.getD 0xFFFF / 256), byteOf (x.distance.getD 0xFFFF)] ++
      [byteOf (x.noise / 256), byteOf x.noise] ++ [byteOf (x.cross / 256), byteOf x.cross] ++
      [byteOf (pairNumber x.crossPair), byteOf x.reflections.length] := by
  unfold PairRecord.pairContent
  rw [twoBytesOf_eq, twoBytesOf_eq, twoBytesOf_eq]
  rfl

theorem PairRecord.reflectionContent_bytes (x : PairRecord) (q : Pair) : x.reflectionContent q =
    byteOf (pairNumber q) :: x.reflections.flatMap fun y => [byteOf (y.distance / 256), byteOf y.distance] ++
      [byteOf ((y.level % 65536).toNat / 256), byteOf (y.level % 65536).toNat] := by
  unfold PairRecord.reflectionContent
  simp only [twoBytesOf_eq, twoBytes_ofInt]
  rfl

/-- The number of pieces of the pairs before q. -/
def CableRecord.piecesBefore (r : CableRecord) : Pair → Nat
  | .a => 0
  | .b => r.pairs.a.pieceCount
  | .c => r.pairs.a.pieceCount + r.pairs.b.pieceCount
  | .d => r.pairs.a.pieceCount + r.pairs.b.pieceCount + r.pairs.c.pieceCount

/-- The elements of the middle of three lists. -/
theorem getElem?_append_middle {α : Type} {a b c : List α} {n j : Nat} (before : n = a.length) (h : j < b.length) :
    (a ++ (b ++ c))[n + j]? = b[j]? := by
  rw [before, List.getElem?_append_right (Nat.le_add_right _ _), Nat.add_sub_cancel_left, List.getElem?_append_left h]

/-- The pieces of a pair stand after the header's and those of the pairs before it. -/
theorem CableRecord.pieceContents_pair (r : CableRecord) (q : Pair) {j : Nat}
    (h : j < ((atPair r.pairs q).contents q).length) :
    r.pieceContents[1 + r.piecesBefore q + j]? = ((atPair r.pairs q).contents q)[j]? := by
  have shift : 1 + r.piecesBefore q + j = (r.piecesBefore q + j) + 1 := by omega
  rw [r.pieceContents_eq, shift, List.getElem?_cons_succ]
  cases q with
  | a => exact getElem?_append_middle (a := []) rfl h
  | b => exact getElem?_append_middle (PairRecord.contents_length _ _).symm h
  | c =>
    rw [← List.append_assoc]
    exact getElem?_append_middle (by simp [CableRecord.piecesBefore, PairRecord.contents_length]) h
  | d =>
    rw [← List.append_assoc, ← List.append_assoc]
    exact getElem?_append_middle (by simp [CableRecord.piecesBefore, PairRecord.contents_length, Nat.add_assoc]) h

theorem recordPieces_length (p : Port) (r : CableRecord) : (recordPieces p r).length = r.pieceContents.length := by
  simp [recordPieces]

/-- A piece carries port, index and count before its content. -/
theorem recordPieces_getElem? {p : Port} {r : CableRecord} {i : Nat} {c : List Byte}
    (h : r.pieceContents[i]? = some c) : (recordPieces p r)[i]? =
      some ⟨0x24, 0, [byteOf (p.val + 1), byteOf i, byteOf (recordPieces p r).length] ++ c⟩ := by
  rw [recordPieces_length]
  simp [recordPieces, List.getElem?_zipIdx, h, supervisorStation, portNumber]

theorem recordPieces_header (p : Port) (r : CableRecord) : (recordPieces p r)[0]? =
    some ⟨0x24, 0, [byteOf (p.val + 1), byteOf 0, byteOf (recordPieces p r).length] ++ r.headerContent⟩ :=
  recordPieces_getElem? rfl

section PairPieces

variable (p : Port) {r : CableRecord} {q : Pair} {v : Verdict} (verdict : (atPair r.pairs q).verdict = some v)
include verdict

theorem recordPieces_pair : (recordPieces p r)[1 + r.piecesBefore q]? =
    some ⟨0x24, 0, [byteOf (p.val + 1), byteOf (1 + r.piecesBefore q), byteOf (recordPieces p r).length] ++
      (atPair r.pairs q).pairContent q v⟩ := by
  have contents := PairRecord.contents_tested q verdict
  refine recordPieces_getElem? ((r.pieceContents_pair q (j := 0) ?_).trans ?_) <;>
    rw [contents] <;> split <;> simp

theorem recordPieces_reflections (echoes : (atPair r.pairs q).reflections ≠ []) :
    (recordPieces p r)[1 + r.piecesBefore q + 1]? =
      some ⟨0x24, 0, [byteOf (p.val + 1), byteOf (1 + r.piecesBefore q + 1), byteOf (recordPieces p r).length] ++
        (atPair r.pairs q).reflectionContent q⟩ := by
  have contents := (PairRecord.contents_tested q verdict).trans (if_neg echoes)
  refine recordPieces_getElem? ((r.pieceContents_pair q (j := 1) ?_).trans ?_) <;> simp [contents]

end PairPieces

/-- The mask of the tested pairs as a number (R17). -/
theorem CableRecord.testedMask_toNat (r : CableRecord) : r.testedMask.toNat =
    r.pairs.a.tested.toNat + 2 * r.pairs.b.tested.toNat + 4 * r.pairs.c.tested.toNat + 8 * r.pairs.d.tested.toNat := by
  have mask : ∀ a b c d : Bool,
      (allPairs.foldl (fun m q => if atPair ⟨a, b, c, d⟩ q then addPair m q else m) (0 : PairSet)).toNat =
        a.toNat + 2 * b.toNat + 4 * c.toNat + 8 * d.toNat := by decide
  exact mask _ _ _ _

theorem PairRecord.tested_toNat (x : PairRecord) : x.tested.toNat = if x.verdict = none then 0 else 1 := by
  unfold PairRecord.tested
  cases x.verdict <;> rfl

/-! ## The pieces of the Coupling Table (R28) -/

theorem byTwos_add (i k : Nat) (l : List CouplingEntry) :
    byTwos (i + k) l = (byTwos i l).map fun g => (g.1 + k, g.2) := by
  induction i, l using byTwos.induct with
  | case1 => rfl
  | case2 => rfl
  | case3 i x y rest ih =>
    rw [byTwos, byTwos, List.map_cons, ← ih, Nat.add_right_comm]

/-- The piece of a group of entries (R17). -/
def couplingPiece (start : Byte) (total : Nat) (g : Nat × List CouplingEntry) : Frame :=
  ⟨0x25, supervisorStation, [start + byteOf g.1, byteOf total] ++ g.2.flatMap couplingBytes⟩

theorem couplingPiece_first (start : Byte) (total : Nat) (es : List CouplingEntry) :
    couplingPiece start total (0, es) = ⟨0x25, 0, [start, byteOf total] ++ es.flatMap couplingBytes⟩ := by
  have index : start + byteOf 0 = start := BitVec.add_zero start
  rw [couplingPiece, index]
  rfl

theorem couplingPieces_nil (start : Byte) (total : Nat) :
    couplingPieces start total [] = [couplingPiece start total (0, [])] := rfl

theorem couplingPieces_cons (start : Byte) (total : Nat) (x : CouplingEntry) (es : List CouplingEntry) :
    couplingPieces start total (x :: es) = (byTwos 0 (x :: es)).map (couplingPiece start total) := rfl

/-- The pieces after the first are those of a train that starts two entries later. -/
theorem couplingPieces_later (start : Byte) (total : Nat) (es : List CouplingEntry) :
    (byTwos 2 es).map (couplingPiece start total) = if es = [] then [] else couplingPieces (start + 2) total es := by
  cases es with
  | nil => rfl
  | cons x es =>
    have shifted (g : Nat × List CouplingEntry) :
        couplingPiece start total (g.1 + 2, g.2) = couplingPiece (start + 2) total g := by
      have index : start + byteOf (g.1 + 2) = start + 2 + byteOf g.1 := by
        rw [byteOf, BitVec.ofNat_add, BitVec.add_comm (BitVec.ofNat 8 g.1), ← BitVec.add_assoc]
        rfl
      simp only [couplingPiece, index]
    rw [if_neg (List.cons_ne_nil _ _), couplingPieces_cons, show 2 = 0 + 2 from rfl, byTwos_add, List.map_map]
    exact List.map_congr_left fun g _ => shifted g

theorem couplingBytes_eq (c : CouplingEntry) : couplingBytes c =
    [BitVec.ofNat 8 (c.localPort.val + 1), BitVec.ofNat 8 (16 * c.station.toNat + c.remotePort.val + 1)] ++
      [BitVec.ofNat 8 (c.level / 256), BitVec.ofNat 8 c.level] ++
      [BitVec.ofNat 8 ((if c.heard then 1 else 0) + (if c.told then 2 else 0)), BitVec.ofNat 8 c.age] := by
  rw [← twoBytesOf_eq]
  rfl

end Sys2Proof.Machine
end

section
/-! The statement on the queries. -/

open Sys2Proof Sys2Proof.Machine

/-- Settles O35: the replies' bytes field by field, and each piece by its place in the train. -/
theorem queries : Obligations.Queries := by
  refine ⟨fun s d => ⟨?station, fun p b named here => ⟨?port, ?record⟩, fun start => State.request_decided _ d⟩,
    fun p r => ?recordPieces, fun start total es => ⟨?none, fun x => ?one, fun x y => ?more⟩⟩
  case station =>
    refine (State.request_decided _ d).trans ?_
    rw [State.stationStatusFrame, State.byteOf_portCount, byteOf_bitOf_zero, State.lanesUp_eq]
    rfl
  case port =>
    refine (State.request_decided _ d).trans ?_
    rw [State.portQuery, State.withPort_present named here, State.portStatusFrame, byteOf_gradeField,
      byteOf_portNumber named]
    rfl
  case record =>
    refine (State.request_decided _ d).trans ?_
    rw [State.recordRead, State.withPort_present named here]
    rfl
  case recordPieces =>
    intro pieces tested carries sizeOf
    refine ⟨?count, ?header, ?pair⟩
    case count =>
      rw [recordPieces_length, r.pieceContents_eq]
      simp only [List.length_cons, List.length_append, List.length_nil, PairRecord.contents_length]
      show _ = 1 + r.pairs.a.pieceCount + r.pairs.b.pieceCount + r.pairs.c.pieceCount + r.pairs.d.pieceCount
      omega
    case header =>
      have header := recordPieces_header p r
      rw [r.headerContent_bytes, r.testedMask_toNat] at header
      simp only [PairRecord.tested_toNat] at header
      exact header
    case pair =>
      intro q v i verdict x place
      obtain rfl : i = 1 + r.piecesBefore q := by rw [place]; cases q <;> rfl
      refine ⟨?_, fun echoes => ?_⟩
      · have piece := recordPieces_pair p verdict
        rw [PairRecord.pairContent_bytes] at piece
        exact piece
      · have piece := recordPieces_reflections p verdict echoes
        rw [PairRecord.reflectionContent_bytes] at piece
        exact piece
  case none => rw [couplingPieces_nil, couplingPiece_first, List.flatMap_nil]; rfl
  case one =>
    rw [couplingPieces_cons, byTwos, List.map_singleton, couplingPiece_first, List.flatMap_singleton, couplingBytes_eq]
    rfl
  case more =>
    rw [couplingPieces_cons, byTwos, List.map_cons, couplingPieces_later, couplingPiece_first, List.flatMap_cons,
      List.flatMap_singleton, couplingBytes_eq, couplingBytes_eq]
    rfl

end

section
/-! SUPPORT. STATION_RESET (R30): what it makes of each lane, and that the fold over the present ports writes nothing but lanes
and flags. -/

namespace Sys2Proof.Machine

/-! ## A lane whose port the lane itself holds -/

theorem State.setLane_setLane (s : State) (p : Port) (a b : Lane) : (s.setLane p a).setLane p b = s.setLane p b := by
  simp [State.setLane]

theorem State.setLane_modifyLane (s : State) (p : Port) (a : Lane) (f : Lane → Lane) :
    (s.setLane p a).modifyLane p f = s.setLane p (f a) := by
  rw [State.modifyLane, State.lane_setLane_same, State.setLane_setLane]

/-- A lane that holds its own tap issues the command of its state, and nothing else happens (R47, R61). -/
theorem State.setLane_laneCommand {s : State} {p : Port} {l : Lane} {c : TapCommand} (own : l.holder = .lane)
    (command : l.stateCommand = some c) : (s.setLane p l).laneCommand p = s.setLane p (l.issue c) := by
  unfold State.laneCommand State.laneIssue
  simp only [State.lane_setLane_same, command, own, State.setLane_modifyLane]

/-! ## One lane (R30 step 3) -/

/-- The lane with its counts and holds cleared, a pending shadow active and the ceiling restored (R30 step 3, R92). -/
def Lane.cleared (l : Lane) (allowed : GradeSet) : Lane :=
  let profile := if l.shadowPending then l.shadow else l.active
  { l with
    hold := .empty, quiet := [], ceiling := bestCeiling profile.advertised allowed l.ceiling, attempts := 0
    neg := .cleared, lastFailure := .none, failureCount := 0, transferOwed := false, timer := none, active := profile
    shadowPending := false, pulseCount := 0, lastPulse := none }

/-- The lane as STATION_RESET leaves it: DISABLED kept, else PARKED with nothing to offer, else in ADVERTISE. -/
def Lane.afterReset (l : Lane) (allowed : GradeSet) : Lane :=
  let x := l.cleared allowed
  let offered := x.offeredSet allowed
  if l.state = .disabled then x.issue .sendQuiet
  else if offered = 0 then
    { x.issue .sendQuiet with state := .parked, offered := 0, lastFailure := .cable, grade := none, training := none }
  else
    { x.issue (.sendWord offered false) with state := .advertise, offered := offered, grade := none, training := none }

theorem Lane.restoreCeiling_eq (l : Lane) (allowed : GradeSet) : l.restoreCeiling allowed = l.restored allowed := by
  unfold Lane.restoreCeiling Lane.restored bestCeiling
  cases highestGrade (l.active.advertised &&& allowed) <;> cases highestGrade l.active.advertised <;> rfl

/-- A restore that follows another changes nothing (R103). -/
theorem bestCeiling_bestCeiling (advertised allowed : GradeSet) (now : Grade) :
    bestCeiling advertised allowed (bestCeiling advertised allowed now) = bestCeiling advertised allowed now := by
  unfold bestCeiling
  cases highestGrade (advertised &&& allowed) <;> cases highestGrade advertised <;> rfl

theorem Lane.clearForReset_transfer (l : Lane) (allowed : GradeSet) :
    (l.clearForReset.transfer allowed).restoreCeiling allowed = l.cleared allowed := by
  unfold Lane.transfer Lane.cleared
  cases pending : l.shadowPending with
  | false =>
    simp [Lane.restoreCeiling_eq, Lane.clearForReset, Lane.restored, pending]
  | true =>
    simp [Lane.restoreCeiling_eq, Lane.clearForReset, Lane.restored, pending, bestCeiling_bestCeiling]

theorem State.clearForReset_eq (s : State) (p : Port) :
    (s.modifyLane p Lane.clearForReset).transferAndRestore p = s.setLane p ((s.lane p).cleared (s.record p).allowed) := by
  rw [State.modifyLane, State.transferAndRestore, State.setLane_modifyLane]
  exact congrArg (s.setLane p) (Lane.clearForReset_transfer _ _)

/-- From s to t the lane of p has become l, and of the rest only flags differ. -/
def WritesLane (p : Port) (l : Lane) (s t : State) : Prop := ∃ fl, t = { s.setLane p l with noticeFlags := fl }

theorem WritesLane.of_setLane {p : Port} {l a : Lane} {s t : State} (h : WritesLane p l (s.setLane p a) t) :
    WritesLane p l s t := by
  obtain ⟨fl, rfl⟩ := h
  exact ⟨fl, by rw [State.setLane_setLane]⟩

/-- With nothing to offer the lane parks for CABLE (R62, R102, R90). -/
theorem State.settleAdvertise_parks {s : State} {p : Port} {l : Lane} (own : l.holder = .lane) (none_ : l.offered = 0) :
    WritesLane p ((l.recordCable.rest .parked).issue .sendQuiet) s (s.settleAdvertise p l) := by
  have parked : (s.setLane p l.recordCable).restIn p .parked =
      s.setLane p ((l.recordCable.rest .parked).issue .sendQuiet) := by
    rw [State.restIn, State.setLane_modifyLane, State.setLane_laneCommand (l := l.recordCable.rest .parked) own rfl]
  rw [State.settleAdvertise, if_pos none_, State.enterParked, parked]
  exact ⟨_, rfl⟩

/-- With a grade to offer and no hold the lane sends its word (R62). -/
theorem State.settleAdvertise_offers {s : State} {p : Port} {l : Lane} (own : l.holder = .lane) (some_ : l.offered ≠ 0)
    (free : l.hold = .empty) (state : l.state = .advertise) :
    WritesLane p (l.issue (.sendWord l.offered false)) s (s.settleAdvertise p l) := by
  have word : l.stateCommand = some (.sendWord l.offered false) := by rw [Lane.stateCommand, state]
  rw [State.settleAdvertise, if_neg some_, if_pos free, State.setLane_laneCommand own word]
  exact ⟨_, rfl⟩

/-- A cleared lane has no transfer left to make on its entry into ADVERTISE (R62, R63). -/
theorem State.enterAdvertise_cleared (s : State) (p : Port) (l : Lane) :
    (s.setLane p (l.cleared (s.record p).allowed)).enterAdvertise p true =
      (s.setLane p (l.cleared (s.record p).allowed)).settleAdvertise p
        ((l.cleared (s.record p).allowed).formOffer (s.record p).allowed) := by
  rw [State.enterAdvertise, State.lane_setLane_same]
  rfl

/-- Parking a cleared lane for CABLE touches its state, its offered set and its failure alone. -/
theorem Lane.cleared_parks {l x : Lane} {allowed : GradeSet} (cleared : x = l.cleared allowed)
    (none_ : x.offeredSet allowed = 0) :
    ((x.formOffer allowed).recordCable.rest .parked).issue .sendQuiet =
      { x.issue .sendQuiet with state := .parked, offered := 0, lastFailure := .cable, grade := none, training := none } := by
  rw [← none_, cleared]
  rfl

/-- The reset of one lane that holds its own tap. -/
theorem State.resetLane_writes {s : State} {p : Port} (own : (s.lane p).holder = .lane) :
    WritesLane p ((s.lane p).afterReset (s.record p).allowed) s (s.resetLane p) := by
  have clears := State.clearForReset_eq s p
  have kept : ((s.lane p).cleared (s.record p).allowed).state = (s.lane p).state := rfl
  unfold State.resetLane Lane.afterReset
  simp only [clears, State.lane_setLane_same, kept]
  by_cases disabled : (s.lane p).state = .disabled
  · have quiet : ((s.lane p).cleared (s.record p).allowed).stateCommand = some .sendQuiet := by
      rw [Lane.stateCommand, kept, disabled]
    rw [if_pos disabled, if_pos disabled,
      State.setLane_laneCommand (l := (s.lane p).cleared (s.record p).allowed) own quiet]
    exact ⟨_, rfl⟩
  · rw [if_neg disabled, if_neg disabled, State.enterAdvertise_cleared]
    refine WritesLane.of_setLane (a := (s.lane p).cleared (s.record p).allowed) ?_
    by_cases none_ : ((s.lane p).cleared (s.record p).allowed).offeredSet (s.record p).allowed = 0
    · rw [if_pos none_, ← Lane.cleared_parks rfl none_]
      exact State.settleAdvertise_parks
        (l := ((s.lane p).cleared (s.record p).allowed).formOffer (s.record p).allowed) own none_
    · rw [if_neg none_]
      exact State.settleAdvertise_offers
        (l := ((s.lane p).cleared (s.record p).allowed).formOffer (s.record p).allowed) own none_ rfl rfl

theorem WritesLane.lane {p : Port} {l : Lane} {s t : State} (h : WritesLane p l s t) (q : Port) :
    t.lane q = if q = p then l else s.lane q := by
  obtain ⟨fl, rfl⟩ := h
  split
  · next e => subst e; exact State.lane_setLane_same ..
  · next e => exact State.lane_setLane_ne _ _ _ _ e

/-! ## The fold over the present ports -/

/-- The ports of a list without repetition reset one after the other: each lane of the list is reset once, and nothing but
lanes and flags is written. -/
theorem State.foldl_resetLane {l : List Port} (nodup : l.Nodup) {s : State} (own : ∀ q ∈ l, (s.lane q).holder = .lane) :
    (∃ lanes flags, l.foldl State.resetLane s = { s with lanes := lanes, noticeFlags := flags }) ∧
    ∀ q, (l.foldl State.resetLane s).lane q =
      if q ∈ l then (s.lane q).afterReset (s.record q).allowed else s.lane q := by
  induction l generalizing s with
  | nil => exact ⟨⟨_, _, rfl⟩, fun q => rfl⟩
  | cons p l ih =>
    obtain ⟨fresh, nodup⟩ := List.nodup_cons.1 nodup
    have writes := State.resetLane_writes (own p List.mem_cons_self)
    have others : ∀ q ∈ l, (s.resetLane p).lane q = s.lane q := fun q here => by
      rw [writes.lane, if_neg fun (e : q = p) => fresh (e ▸ here)]
    obtain ⟨⟨lanes, flags, rest⟩, lane⟩ := ih nodup (s := s.resetLane p) fun q here => by
      rw [others q here]
      exact own q (List.mem_cons_of_mem p here)
    have record : ∀ q, (s.resetLane p).record q = s.record q := fun q => by
      obtain ⟨_, written⟩ := writes
      rw [written]
      rfl
    rw [List.foldl_cons]
    refine ⟨⟨lanes, flags, ?_⟩, fun q => ?_⟩
    · obtain ⟨_, written⟩ := writes
      rw [rest, written]
      rfl
    · rw [lane, record]
      by_cases here : q ∈ l
      · rw [if_pos here, if_pos (List.mem_cons_of_mem p here), others q here]
      · rw [if_neg here, writes.lane]
        simp only [List.mem_cons, here, or_false]
        by_cases e : q = p
        · rw [if_pos e, if_pos e, e]
        · rw [if_neg e, if_neg e]

/-! ## The sequence (R30) -/

/-- The state after steps 1 and 2: engines, queue and survey. -/
def State.resetEnginesAndSurvey (s : State) : State :=
  { s with
    engines := Vector.replicate 2 Engine.idle, queue := [], passSet := 0, holdoffs := Vector.replicate 12 none
    lanes := s.lanes.map fun l => { l.closeCapture with holder := .lane }
    surveyTimer := if s.surveyEnabled then some (s.ms + BitVec.ofNat 48 (s.surveyInterval * 10000)) else none }

theorem State.resetSweeps_resetSurvey (s : State) : s.resetSweeps.resetSurvey = s.resetEnginesAndSurvey := by
  unfold State.resetSurvey State.resetEnginesAndSurvey
  cases enabled : s.surveyEnabled <;> simp [State.resetSweeps, State.restartSurvey, State.after, enabled]

theorem State.lane_resetEnginesAndSurvey (s : State) (p : Port) :
    s.resetEnginesAndSurvey.lane p = { (s.lane p).closeCapture with holder := .lane } := by
  simp [State.lane, State.resetEnginesAndSurvey]

/-- The whole of R30: the present lanes reset, the line cleared, and the reply alone in its list. -/
theorem State.stationReset_eq (s : State) :
    (∃ lanes, s.stationReset =
      { s.resetEnginesAndSurvey.resetLine with lanes := lanes, replyList := [acceptedReply 0x01 4] }) ∧
    ∀ p, s.present p = true →
      s.stationReset.lane p =
        { (s.lane p).closeCapture with holder := .lane : Lane }.afterReset (s.record p).allowed := by
  obtain ⟨⟨lanes, flags, rest⟩, lane⟩ := State.foldl_resetLane (l := s.presentPorts) s.presentPorts_nodup
    (s := s.resetEnginesAndSurvey) fun q _ => by rw [State.lane_resetEnginesAndSurvey]
  have sequence : s.stationReset = ((s.presentPorts.foldl State.resetLane s.resetEnginesAndSurvey).resetLine).answer
      .stationReset (.accepted .done) := by
    rw [State.stationReset, State.resetSweeps_resetSurvey]
    rfl
  refine ⟨⟨lanes, ?_⟩, fun p here => ?_⟩
  · rw [sequence, rest]
    rfl
  · have reset := lane p
    rw [if_pos (State.mem_presentPorts.2 here), State.lane_resetEnginesAndSurvey] at reset
    rw [sequence]
    exact reset

end Sys2Proof.Machine
end

section
/-! PROOF. STATION_RESET: O36. -/

open Sys2Proof Sys2Proof.Machine

/-- Settles O36: the line's fields are those of the sequence, and the released lane as it is after its reset agrees field by
field with the statement's in each of the three cases. -/
theorem stationReset : Obligations.StationReset := by
  intro s d
  obtain ⟨⟨lanes, sequence⟩, lane⟩ := s.stationReset_eq
  refine ⟨s.stationReset, State.request_decided _ d, ?_, fun p here => ?_⟩
  · rw [sequence]
    rfl
  · rw [lane p here]
    rfl

end

section
/-! SUPPORT. SET_GUARD on a mask of present ports (R29). -/

namespace Sys2Proof.Machine

/-- A mask's low twelve bits are the ports it names (R17). -/
theorem inPortSet_setWidth (mask : BitVec 16) (p : Port) : inPortSet (mask.setWidth 12) p = mask.getLsbD p.val := by
  rw [inPortSet, BitVec.getLsbD_setWidth, decide_eq_true p.isLt, Bool.true_and]

theorem State.maskPasses_true {s : State} {m : BitVec 16} (h : m.toNat < 2 ^ s.portCount) : s.maskPasses m = true :=
  decide_eq_true h

theorem State.guardRequest_done {s : State} {mask : BitVec 16} (h : mask.toNat < 2 ^ s.portCount) :
    s.guardRequest mask = { s with guards := mask.setWidth 12 }.reply (acceptedReply 0x06 4) :=
  if_neg (by simp [State.maskPasses_true h])

end Sys2Proof.Machine
end

section
/-! The statements on requests during start-up and on the guard set. -/

open Sys2Proof Sys2Proof.Machine

/-- Settles O25: every row of a request hands it on through `State.takeRequest`, which discards it before the owner's
decision. -/
theorem requestInStarting : Obligations.RequestInStarting := by
  intro c s row up starting
  obtain ⟨f, runs, -⟩ := exec_request row
  calc
    exec c s = s.perform fun t => t.takeRequest f := runs s
    _ = .next s.countDiscard.settle := State.request_starting f up starting

/-- Settles O32: a mask of present ports is held as the set of its low twelve bits; any other mask fails the check of R21. -/
theorem setGuard : Obligations.SetGuard := by
  intro s mask d
  have decided : exec (.setGuard mask) s = .next (s.guardRequest mask).settle := State.request_decided _ d
  refine ⟨fun present => ⟨mask.setWidth 12, inPortSet_setWidth mask, ?_⟩, fun absent => ?_⟩
  · rw [decided, State.guardRequest_done present]
  · rw [decided, State.guardRequest_badPort absent]

end

section
/-! SUPPORT. The grades and profiles of a lane: what keeps its attempts and its ceiling in range (R40, R98, R99). -/

namespace Sys2Proof.Machine

/-! ## Grades -/

theorem highestGrade_mem {gs : GradeSet} {g : Grade} (h : highestGrade gs = some g) : hasGrade gs g = true := by
  revert gs g; decide

theorem highestGrade_some {gs : GradeSet} (h : gs ≠ 0) : ∃ g, highestGrade gs = some g := by
  have named : (highestGrade gs).isSome = true := by revert gs; decide
  exact Option.isSome_iff_exists.1 named

theorem hasGrade_left {a b : GradeSet} {g : Grade} (h : hasGrade (a &&& b) g = true) : hasGrade a g = true := by
  rw [hasGrade, BitVec.getLsbD_and, Bool.and_eq_true] at h
  exact h.1

/-! ## Profiles -/

theorem Profile.inRange_iff {q : Profile} : q.inRange = true ↔
    q.advertised ≠ 0 ∧ (600 ≤ q.nvp ∧ q.nvp ≤ 800) ∧ q.slope ≤ 63 ∧ (1 ≤ q.attempts ∧ q.attempts ≤ 4) ∧
      (5 ≤ q.negWindow ∧ q.negWindow ≤ 40) ∧ (2 ≤ q.trainWindow ∧ q.trainWindow ≤ 20) ∧ q.depth ≤ 6 := by
  simp only [Profile.inRange, Bool.and_eq_true, decide_eq_true_eq, and_assoc]

theorem Profile.inRange_advertised {q : Profile} (h : q.inRange = true) : q.advertised ≠ 0 := (Profile.inRange_iff.1 h).1

theorem Profile.inRange_attempts {q : Profile} (h : q.inRange = true) : 0 < q.attempts := by
  obtain ⟨-, -, -, ⟨positive, -⟩, -⟩ := Profile.inRange_iff.1 h
  exact positive

/-- Clamping brings a value between its bounds. -/
theorem clampNat_bounds {lo hi : Nat} (n : Nat) (h : lo ≤ hi) : lo ≤ clampNat lo hi n ∧ clampNat lo hi n ≤ hi := by
  unfold clampNat
  omega

/-- A written shadow that advertises some grade is in range (R41 step 3). -/
theorem Profile.written_inRange (q : Profile) {b : ProfileBytes} (h : b.advertised.setWidth 4 ≠ (0 : GradeSet)) :
    (q.written b).inRange = true := by
  refine Profile.inRange_iff.2 ⟨h, ?_, ?_, ?_, ?_, ?_, ?_⟩
  · exact clampNat_bounds _ (by decide)
  · exact (clampNat_bounds _ (by decide)).2
  · exact clampNat_bounds _ (by decide)
  · exact clampNat_bounds _ (by decide)
  · exact clampNat_bounds _ (by decide)
  · exact (clampNat_bounds _ (by decide)).2

/-! ## Attempts and ceiling -/

/-- The profiles are in range, and agree while no transfer is pending (R40). -/
structure Lane.Profiled (l : Lane) : Prop where
  active : l.active.inRange = true
  shadow : l.shadow.inRange = true
  agree : l.shadowPending = true ∨ l.shadow = l.active

/-- The ceiling is at or below an advertised grade (R98). -/
def Lane.CeilingSound (l : Lane) : Prop := ∃ g, hasGrade l.active.advertised g = true ∧ gradeBit l.ceiling ≤ gradeBit g

/-- A lane that has an attempt left at its ceiling: sound in every state. -/
structure Lane.Climbing (l : Lane) : Prop extends l.Profiled where
  ceiling : l.CeilingSound
  attempts : l.attempts < l.active.attempts

/-- The two states in which the attempts may all be used up. -/
def Lane.Resting (l : Lane) : Prop := l.state = .parked ∨ l.state = .disabled

theorem Lane.ladderSound_iff {l : Lane} : l.ladderSound = true ↔
    l.Profiled ∧ l.CeilingSound ∧ l.attempts ≤ l.active.attempts ∧ (l.attempts < l.active.attempts ∨ l.Resting) := by
  have ceiling : ([Grade.g1, .g2, .g3, .g4].any fun g =>
      hasGrade l.active.advertised g && decide (gradeBit l.ceiling ≤ gradeBit g)) = true ↔ l.CeilingSound := by
    simp only [List.any_eq_true, Bool.and_eq_true, decide_eq_true_eq, Lane.CeilingSound]
    exact ⟨fun ⟨g, _, h⟩ => ⟨g, h⟩, fun ⟨g, h⟩ => ⟨g, by cases g <;> decide, h⟩⟩
  simp only [Lane.ladderSound, Bool.and_eq_true, Bool.or_eq_true, decide_eq_true_eq, ceiling, Lane.Resting]
  constructor
  · rintro ⟨⟨⟨⟨⟨active, shadow⟩, agree⟩, within⟩, left⟩, ceiling⟩
    exact ⟨⟨active, shadow, agree⟩, ceiling, within, or_assoc.1 left⟩
  · rintro ⟨⟨active, shadow, agree⟩, ceiling, within, left⟩
    exact ⟨⟨⟨⟨⟨active, shadow⟩, agree⟩, within⟩, or_assoc.2 left⟩, ceiling⟩

theorem Lane.Climbing.ladderSound {l : Lane} (h : l.Climbing) : l.ladderSound = true :=
  Lane.ladderSound_iff.2 ⟨h.toProfiled, h.ceiling, h.attempts.le, .inl h.attempts⟩

theorem Lane.profiled_of_ladderSound {l : Lane} (h : l.ladderSound = true) : l.Profiled := (Lane.ladderSound_iff.1 h).1

/-- Outside PARKED and DISABLED a sound lane has an attempt left. -/
theorem Lane.climbing_of_state {l : Lane} {st : LaneState} (state : l.state = st)
    (awake : st ≠ .parked ∧ st ≠ .disabled) (h : l.ladderSound = true) : l.Climbing := by
  obtain ⟨profiled, ceiling, -, left | parked | disabled⟩ := Lane.ladderSound_iff.1 h
  · exact ⟨profiled, ceiling, left⟩
  · exact absurd (state.symm.trans parked) awake.1
  · exact absurd (state.symm.trans disabled) awake.2

/-- At the first attempt of a ceiling a sound lane has an attempt left. -/
theorem Lane.climbing_of_first {l : Lane} (first : l.attempts = 0) (h : l.ladderSound = true) : l.Climbing := by
  obtain ⟨profiled, ceiling, -⟩ := Lane.ladderSound_iff.1 h
  exact ⟨profiled, ceiling, first ▸ Profile.inRange_attempts profiled.active⟩

/-- A restore gives a ceiling that is advertised, with no attempt used (R103). -/
theorem Lane.Profiled.restoreCeiling {l : Lane} (h : l.Profiled) (allowed : GradeSet) :
    (l.restoreCeiling allowed).Climbing := by
  refine ⟨⟨h.active, h.shadow, h.agree⟩, ?_, Profile.inRange_attempts h.active⟩
  unfold Lane.restoreCeiling Lane.CeilingSound
  simp only
  split
  next g best => exact ⟨g, hasGrade_left (highestGrade_mem best), le_rfl⟩
  next =>
    obtain ⟨g, best⟩ := highestGrade_some (Profile.inRange_advertised h.active)
    exact ⟨g, highestGrade_mem best, by simp [best]⟩

/-- A pending shadow that becomes active restores the ceiling (R42). -/
theorem Lane.Profiled.transfer {l : Lane} (h : l.Profiled) (allowed : GradeSet) (pending : l.shadowPending = true) :
    (l.transfer allowed).Climbing := by
  have active : Lane.Profiled { l with transferOwed := false, active := l.shadow, shadowPending := false } :=
    ⟨h.shadow, h.shadow, .inr rfl⟩
  simpa [Lane.transfer, pending] using active.restoreCeiling allowed

/-- With no shadow pending a transfer only clears the flag that it is owed (R63). -/
theorem Lane.transfer_idle {l : Lane} (allowed : GradeSet) (idle : l.shadowPending = false) :
    l.transfer allowed = { l with transferOwed := false } := by
  simp [Lane.transfer, idle]

theorem Lane.Climbing.transfer {l : Lane} (h : l.Climbing) (allowed : GradeSet) : (l.transfer allowed).Climbing := by
  cases pending : l.shadowPending with
  | true => exact h.toProfiled.transfer allowed pending
  | false =>
    rw [Lane.transfer_idle allowed pending]
    exact ⟨⟨h.active, h.shadow, h.agree⟩, h.ceiling, h.attempts⟩

theorem Lane.Profiled.transfer_profiled {l : Lane} (h : l.Profiled) (allowed : GradeSet) :
    (l.transfer allowed).Profiled := by
  cases pending : l.shadowPending with
  | true => exact (h.transfer allowed pending).toProfiled
  | false =>
    rw [Lane.transfer_idle allowed pending]
    exact ⟨h.active, h.shadow, h.agree⟩

theorem Lane.transfer_ladderSound {l : Lane} (h : l.ladderSound = true) (allowed : GradeSet) :
    (l.transfer allowed).ladderSound = true := by
  cases pending : l.shadowPending with
  | true => exact ((Lane.profiled_of_ladderSound h).transfer allowed pending).ladderSound
  | false =>
    rw [Lane.transfer_idle allowed pending]
    exact h

/-- The lane that enters ADVERTISE has an attempt left if it had one before, or a shadow is transferred (R62). -/
theorem Lane.transferAt_climbing {l : Lane} {b : Bool} (allowed : GradeSet) (h : l.ladderSound = true)
    (ready : l.Climbing ∨ b = true ∧ l.shadowPending = true) : (l.transferAt allowed b).Climbing := by
  unfold Lane.transferAt
  rcases ready with climbing | ⟨rfl, pending⟩
  · split
    · exact climbing.transfer allowed
    · exact climbing
  · exact (Lane.profiled_of_ladderSound h).transfer allowed pending

/-- A lane with an attempt left is sound in whatever state it comes to rest. -/
theorem Lane.Climbing.rest {l : Lane} (h : l.Climbing) (st : LaneState) : (l.rest st).Climbing :=
  ⟨⟨h.active, h.shadow, h.agree⟩, h.ceiling, h.attempts⟩

/-- PARKED and DISABLED need no attempt left (R99). -/
theorem Lane.rest_ladderSound {l : Lane} {st : LaneState} (h : l.ladderSound = true)
    (resting : st = .parked ∨ st = .disabled) : (l.rest st).ladderSound = true := by
  obtain ⟨⟨active, shadow, agree⟩, ceiling, within, -⟩ := Lane.ladderSound_iff.1 h
  exact Lane.ladderSound_iff.2 ⟨⟨active, shadow, agree⟩, ceiling, within, .inr resting⟩

/-! ## The ladder (R99) -/

theorem Lane.downshiftTarget_mem {l : Lane} {allowed : GradeSet} {g : Grade} (h : l.downshiftTarget allowed = some g) :
    hasGrade l.active.advertised g = true := by
  unfold Lane.downshiftTarget at h
  split at h
  · exact hasGrade_left (hasGrade_left (highestGrade_mem h))
  · cases h

/-- The three outcomes of the ladder. -/
theorem Lane.ladder_cases (l : Lane) (allowed : GradeSet) :
    (l.attempts + 1 < l.active.attempts ∧ l.ladder allowed = ({ l with attempts := l.attempts + 1 }, .retry)) ∨
    (∃ g, l.downshiftTarget allowed = some g ∧ l.ladder allowed = ({ l with ceiling := g, attempts := 0 }, .downshift)) ∨
    l.ladder allowed = ({ l with attempts := l.attempts + 1 }, .park) := by
  unfold Lane.ladder
  simp only
  split
  next left => exact .inl ⟨left, rfl⟩
  next =>
    split
    next g _ target => exact .inr (.inl ⟨g, target, rfl⟩)
    next => exact .inr (.inr rfl)

/-- Unless it parks, the ladder leaves an attempt at its ceiling. -/
theorem Lane.Profiled.ladder {l : Lane} (h : l.Profiled) (ceiling : l.CeilingSound) (allowed : GradeSet)
    (goesOn : (l.ladder allowed).2 ≠ .park) : (l.ladder allowed).1.Climbing := by
  rcases l.ladder_cases allowed with ⟨left, rules⟩ | ⟨g, target, rules⟩ | rules <;> rw [rules] at goesOn ⊢
  · obtain ⟨g, advertised, below⟩ := ceiling
    exact ⟨⟨h.active, h.shadow, h.agree⟩, ⟨g, advertised, below⟩, left⟩
  · have advertised := Lane.downshiftTarget_mem target
    exact ⟨⟨h.active, h.shadow, h.agree⟩, ⟨g, advertised, le_rfl⟩, Profile.inRange_attempts h.active⟩
  · exact absurd rfl goesOn

/-- A sound lane that the ladder did not park has an attempt left. -/
theorem Lane.ladder_climbing {l : Lane} {allowed : GradeSet} (h : (l.ladder allowed).1.ladderSound = true)
    (goesOn : (l.ladder allowed).2 ≠ .park) : (l.ladder allowed).1.Climbing := by
  obtain ⟨profiled, ceiling, -⟩ := Lane.ladderSound_iff.1 h
  refine ⟨profiled, ceiling, ?_⟩
  have positive := Profile.inRange_attempts profiled.active
  rcases l.ladder_cases allowed with ⟨left, rules⟩ | ⟨_, -, rules⟩ | rules <;> rw [rules] at positive goesOn ⊢
  · exact left
  · exact positive
  · exact absurd rfl goesOn

/-- A lane parked by the ladder has used at most its attempts. -/
theorem Lane.Climbing.ladder_parks {l : Lane} (h : l.Climbing) {allowed : GradeSet}
    (parks : (l.ladder allowed).2 = .park) : ((l.ladder allowed).1.rest .parked).ladderSound = true := by
  rcases l.ladder_cases allowed with ⟨-, rules⟩ | ⟨_, -, rules⟩ | rules <;> rw [rules] at parks ⊢
  · cases parks
  · cases parks
  · obtain ⟨g, advertised, below⟩ := h.ceiling
    exact Lane.ladderSound_iff.2
      ⟨⟨h.active, h.shadow, h.agree⟩, ⟨g, advertised, below⟩, h.attempts, .inr (.inl rfl)⟩

/-! ## The default depths (R40) -/

/-- Both profiles ask for a depth that a sweep may have. -/
structure Lane.DepthSound (l : Lane) : Prop where
  active : l.active.depth ≤ 6
  shadow : l.shadow.depth ≤ 6

theorem Lane.transfer_depthSound {l : Lane} (h : l.DepthSound) (allowed : GradeSet) :
    (l.transfer allowed).DepthSound := by
  unfold Lane.transfer
  simp only
  split
  · exact ⟨h.shadow, h.shadow⟩
  · exact ⟨h.active, h.shadow⟩

theorem Lane.transferAt_depthSound {l : Lane} (h : l.DepthSound) (allowed : GradeSet) (b : Bool) :
    (l.transferAt allowed b).DepthSound := by
  unfold Lane.transferAt
  split
  · exact Lane.transfer_depthSound h allowed
  · exact h

theorem Lane.ladder_depthSound {l : Lane} (h : l.DepthSound) (allowed : GradeSet) :
    (l.ladder allowed).1.DepthSound := by
  rcases l.ladder_cases allowed with ⟨-, rules⟩ | ⟨_, -, rules⟩ | rules <;> rw [rules] <;> exact ⟨h.active, h.shadow⟩

/-! ## What the profile operations leave alone -/

/-- Two lanes agree on what a transfer or the ladder does not touch: holder and SWEEP. -/
structure Lane.SameHold (l m : Lane) : Prop where
  holder : m.holder = l.holder
  sweep : m.hold.sweep = l.hold.sweep

theorem Lane.transfer_sameHold (l : Lane) (allowed : GradeSet) : l.SameHold (l.transfer allowed) := by
  unfold Lane.transfer
  simp only
  split <;> exact ⟨rfl, rfl⟩

theorem Lane.transferAt_sameHold (l : Lane) (allowed : GradeSet) (b : Bool) : l.SameHold (l.transferAt allowed b) := by
  unfold Lane.transferAt
  split
  · exact l.transfer_sameHold allowed
  · exact ⟨rfl, rfl⟩

theorem Lane.ladder_sameHold (l : Lane) (allowed : GradeSet) : l.SameHold (l.ladder allowed).1 := by
  rcases l.ladder_cases allowed with ⟨-, rules⟩ | ⟨_, -, rules⟩ | rules <;> rw [rules] <;> exact ⟨rfl, rfl⟩

end Sys2Proof.Machine
end

section
/-! SUPPORT. What the operations on one lane keep: its ladder in range, its default depths, SWEEP in its hold set; and that its
port changes hands only by coming back to the lane, from an engine that drops it from a listen job (R47, R171). -/

namespace Sys2Proof.Machine

/-! ## Leaving a listen job -/

/-- The engine whose job has lost the member of port p, if it had one; with the last member it goes IDLE (R171). -/
def Engine.without (g : Engine) (p : Port) : Engine :=
  match g.job with
  | none => g
  | some j =>
    let others := j.members.filter fun m => decide (m.port ≠ p)
    if others.isEmpty then .idle else { g with job := some { j with members := others } }

theorem State.setEngine_engine (s : State) (e : EngineId) : s.setEngine e (s.engine e) = s := by
  simp [State.setEngine, State.engine]

theorem State.detachMember_eq (s : State) (e : EngineId) (p : Port) :
    s.detachMember e p = s.setEngine e ((s.engine e).without p) := by
  unfold State.detachMember Engine.without
  cases job : (s.engine e).job with
  | none => exact (State.setEngine_engine s e).symm
  | some j =>
    simp only
    split <;> rfl

theorem State.detachMember_lane (s : State) (e : EngineId) (p q : Port) : (s.detachMember e p).lane q = s.lane q := by
  rw [State.detachMember_eq]
  rfl

@[simp] theorem State.lane_post (s : State) (p q : Port) (f : ChangeFlag) : (s.post p f).lane q = s.lane q := rfl

/-! ## What a lane operation keeps -/

/-- An operation on the lane of port p leaves its ladder sound, where `g` guards what an operation asks of the lane, and its
default depths within bounds. The port stays where it is or comes back to the lane, and an engine changes only by dropping the
port it held from its listen job. -/
structure LaneOp (g : Prop) (p : Port) (s t : State) : Prop where
  touches : Touches p s t
  ladder : g → (s.lane p).ladderSound = true → (t.lane p).ladderSound = true
  depth : (s.lane p).DepthSound → (t.lane p).DepthSound
  holder : (t.lane p).holder = (s.lane p).holder ∨ (t.lane p).holder = .lane
  engine : ∀ e, t.engine e = s.engine e ∨
    (s.lane p).holder = .engine e ∧ (t.lane p).holder = .lane ∧ t.engine e = (s.engine e).without p

/-- Such an operation that keeps SWEEP as it was. -/
structure LaneKept (g : Prop) (p : Port) (s t : State) : Prop extends LaneOp g p s t where
  sweep : (t.lane p).hold.sweep = (s.lane p).hold.sweep

namespace LaneOp

variable {g : Prop} {p : Port} {s t u : State}

theorem refl (s : State) : LaneOp g p s s := ⟨.refl s, fun _ => id, id, .inl rfl, fun _ => .inl rfl⟩

theorem trans (a : LaneOp g p s t) (b : LaneOp g p t u) : LaneOp g p s u where
  touches := a.touches.trans b.touches
  ladder := fun guard h => b.ladder guard (a.ladder guard h)
  depth := b.depth ∘ a.depth
  holder := by
    rcases b.holder with same | back
    · rw [same]
      exact a.holder
    · exact .inr back
  engine := fun e => by
    rcases a.engine e with same | ⟨held, back, dropped⟩
    · rcases b.engine e with same' | ⟨held', back', dropped'⟩
      · exact .inl (same'.trans same)
      · have held : (s.lane p).holder = .engine e := by
          rcases a.holder with h | h
          · exact h ▸ held'
          · exact nomatch h.symm.trans held'
        exact .inr ⟨held, back', by rw [dropped', same]⟩
    · have own : (u.lane p).holder = .lane := by
        rcases b.holder with h | h
        · exact h.trans back
        · exact h
      rcases b.engine e with same' | ⟨held', _⟩
      · exact .inr ⟨held, own, same'.trans dropped⟩
      · exact nomatch back.symm.trans held'

theorem setLane {l : Lane} (ladder : g → (s.lane p).ladderSound = true → l.ladderSound = true)
    (depth : (s.lane p).DepthSound → l.DepthSound) (holder : l.holder = (s.lane p).holder) :
    LaneOp g p s (s.setLane p l) where
  touches := .setLane l
  ladder := by rw [State.lane_setLane_same]; exact ladder
  depth := by rw [State.lane_setLane_same]; exact depth
  holder := by rw [State.lane_setLane_same]; exact .inl holder
  engine := fun _ => .inl rfl

theorem putReason (r : HoldReason) (b : Bool) : LaneOp g p s (s.putReason p r b) :=
  setLane (fun _ h => h) (fun h => ⟨h.active, h.shadow⟩) rfl

end LaneOp

namespace LaneKept

variable {g : Prop} {p : Port} {s t u : State}

theorem refl (s : State) : LaneKept g p s s := ⟨.refl s, rfl⟩

theorem trans (a : LaneKept g p s t) (b : LaneKept g p t u) : LaneKept g p s u :=
  ⟨a.toLaneOp.trans b.toLaneOp, b.sweep.trans a.sweep⟩

theorem ite {c : Prop} [Decidable c] {u v : State} (a : c → LaneKept g p s u) (b : ¬c → LaneKept g p s v) :
    LaneKept g p s (if c then u else v) := by
  split
  next h => exact a h
  next h => exact b h

/-! ## Writes to the lane -/

theorem setLane {l : Lane} (ladder : g → (s.lane p).ladderSound = true → l.ladderSound = true)
    (depth : (s.lane p).DepthSound → l.DepthSound) (hold : (s.lane p).SameHold l) : LaneKept g p s (s.setLane p l) :=
  ⟨.setLane ladder depth hold.holder, by rw [State.lane_setLane_same]; exact hold.sweep⟩

/-- A write that leaves the profiles, the ladder, the state, the holder and SWEEP alone. -/
theorem modifyLane {f : Lane → Lane} (ladder : ∀ l : Lane, (f l).ladderSound = l.ladderSound)
    (depth : ∀ l : Lane, l.DepthSound → (f l).DepthSound) (hold : ∀ l : Lane, l.SameHold (f l)) :
    LaneKept g p s (s.modifyLane p f) :=
  setLane (fun _ h => (ladder _).trans h) (depth _) (hold _)

theorem post (f : ChangeFlag) : LaneKept g p s (s.post p f) :=
  ⟨⟨.post f, fun _ => id, id, .inl rfl, fun _ => .inl rfl⟩, rfl⟩

theorem putReason {r : HoldReason} (b : Bool) (other : r ≠ .sweep) : LaneKept g p s (s.putReason p r b) := by
  refine ⟨.putReason r b, ?_⟩
  rw [State.putReason, State.lane_modifyLane_same]
  cases r with
  | sweep => exact absurd rfl other
  | listen | quiet | power => rfl

theorem leaveUp : LaneKept g p s (s.leaveUp p) :=
  (post _).trans (modifyLane (fun _ => rfl) (fun _ h => ⟨h.active, h.shadow⟩) fun _ => ⟨rfl, rfl⟩)

theorem transferInPlace : LaneKept g p s (s.transferInPlace p) :=
  setLane (fun _ h => Lane.transfer_ladderSound h _) (fun h => Lane.transfer_depthSound h _) (Lane.transfer_sameHold _ _)

theorem restoreCeiling (allowed : GradeSet) : LaneKept g p s (s.modifyLane p (·.restoreCeiling allowed)) :=
  setLane (fun _ h => ((Lane.profiled_of_ladderSound h).restoreCeiling allowed).ladderSound)
    (fun h => ⟨h.active, h.shadow⟩) ⟨rfl, rfl⟩

theorem transferAndRestore : LaneKept g p s (s.transferAndRestore p) := by
  refine setLane (fun _ h => ?_) (fun h => ?_) ?_
  · exact (((Lane.profiled_of_ladderSound h).transfer_profiled _).restoreCeiling _).ladderSound
  · have transferred := Lane.transfer_depthSound h (s.record p).allowed
    exact ⟨transferred.active, transferred.shadow⟩
  · have hold := (s.lane p).transfer_sameHold (s.record p).allowed
    exact ⟨hold.holder, hold.sweep⟩

/-! ## Tap commands -/

/-- A lane that issues a command holds its port already, waits for it, or takes it back from a listening engine. -/
theorem laneIssue (c : TapCommand) : LaneKept g p s (s.laneIssue p c) := by
  unfold State.laneIssue
  split
  next => exact modifyLane (fun _ => rfl) (fun _ h => ⟨h.active, h.shadow⟩) fun _ => ⟨rfl, rfl⟩
  next e held =>
    refine ite (fun _ => ?_) fun _ => refl s
    have lane : ((s.detachMember e p).modifyLane p (·.takeBack c)).lane p = (s.lane p).takeBack c := by
      rw [State.lane_modifyLane_same, State.detachMember_lane]
    refine ⟨⟨(Touches.detachMember e p).trans (.modifyLane _), fun _ h => ?_, fun h => ?_, ?_, fun d => ?_⟩, ?_⟩
    · rw [lane]; exact h
    · rw [lane]; exact ⟨h.active, h.shadow⟩
    · rw [lane]; exact .inr rfl
    · rw [lane, State.detachMember_eq]
      by_cases same : d = e
      · subst same
        exact .inr ⟨held, rfl, State.engine_setEngine_same ..⟩
      · exact .inl (State.engine_setEngine_ne _ _ _ _ same)
    · rw [lane]; rfl

theorem laneCommand : LaneKept g p s (s.laneCommand p) := by
  unfold State.laneCommand
  split
  · exact laneIssue _
  · exact refl s

/-! ## Coming to rest (R61, R71) -/

/-- A lane that is written at rest in a state and issues that state's command. -/
theorem setLane_restIn {l : Lane} {st : LaneState}
    (ladder : g → (s.lane p).ladderSound = true → (l.rest st).ladderSound = true)
    (depth : (s.lane p).DepthSound → l.DepthSound) (hold : (s.lane p).SameHold l) :
    LaneKept g p s ((s.setLane p l).restIn p st) := by
  have written : LaneKept g p s (s.setLane p (l.rest st)) :=
    setLane ladder (fun h => ⟨(depth h).active, (depth h).shadow⟩) ⟨hold.holder, hold.sweep⟩
  rw [State.restIn, State.setLane_modifyLane]
  exact written.trans laneCommand

theorem setLane_enterParked {l : Lane}
    (ladder : g → (s.lane p).ladderSound = true → (l.rest .parked).ladderSound = true)
    (depth : (s.lane p).DepthSound → l.DepthSound) (hold : (s.lane p).SameHold l) :
    LaneKept g p s ((s.setLane p l).enterParked p) :=
  (setLane_restIn ladder depth hold).trans (post _)

theorem restIn_of {st : LaneState} (ladder : g → (s.lane p).ladderSound = true → ((s.lane p).rest st).ladderSound = true) :
    LaneKept g p s (s.restIn p st) :=
  have written : LaneKept g p s (s.setLane p ((s.lane p).rest st)) :=
    setLane ladder (fun h => ⟨h.active, h.shadow⟩) ⟨rfl, rfl⟩
  written.trans laneCommand

theorem enterDisabled : LaneKept g p s (s.enterDisabled p) :=
  restIn_of fun _ h => Lane.rest_ladderSound h (.inr rfl)

theorem enterParked : LaneKept g p s (s.enterParked p) :=
  (restIn_of fun _ h => Lane.rest_ladderSound h (.inl rfl)).trans (post _)

theorem startTimer (k : LaneTimer) (due : Ms) : LaneKept g p s (s.modifyLane p (·.startTimer k due)) :=
  modifyLane (fun _ => rfl) (fun _ h => ⟨h.active, h.shadow⟩) fun _ => ⟨rfl, rfl⟩

section Climbing

/-! ## With an attempt left -/

variable (climbs : g → (s.lane p).ladderSound = true → (s.lane p).Climbing)
include climbs

theorem restIn (st : LaneState) : LaneKept g p s (s.restIn p st) :=
  restIn_of fun guard h => ((climbs guard h).rest st).ladderSound

theorem enterHeld : LaneKept g p s (s.enterHeld p) := restIn climbs .held

theorem enterBackoff : LaneKept g p s (s.enterBackoff p) :=
  ite (fun _ => (restIn climbs .backoff).trans (startTimer _ _)) fun _ => enterHeld climbs

theorem enterNegotiate : LaneKept g p s (s.enterNegotiate p) := by
  refine setLane (fun guard h => ?_) (fun h => ⟨h.active, h.shadow⟩) ⟨rfl, rfl⟩
  have rested := ((climbs guard h).rest .negotiate).ladderSound
  exact rested

theorem enterTrain (grade : Grade) : LaneKept g p s (s.enterTrain p grade) := by
  let l : Lane := { (s.lane p).rest .train with training := some grade }
  have written : LaneKept g p s (s.setLane p (l.startTimer .train (s.after ((s.lane p).active.trainWindow * 100)))) := by
    refine setLane (fun guard h => ?_) (fun h => ⟨h.active, h.shadow⟩) ⟨rfl, rfl⟩
    have rested := ((climbs guard h).rest .train).ladderSound
    exact rested
  exact written.trans laneCommand

theorem goUp (now : Ms) : LaneKept g p s (s.modifyLane p (·.goUp now)) := by
  refine setLane (fun guard h => ?_) (fun h => ⟨h.active, h.shadow⟩) ⟨rfl, rfl⟩
  have rested := ((climbs guard h).rest .up).ladderSound
  exact rested

end Climbing

/-! ## Entering ADVERTISE (R62) -/

/-- The lane with its offered set formed has an attempt left, so it is sound wherever it comes to rest. -/
theorem settleAdvertise {l : Lane} (ladder : g → (s.lane p).ladderSound = true → l.Climbing)
    (depth : (s.lane p).DepthSound → l.DepthSound) (hold : (s.lane p).SameHold l) :
    LaneKept g p s (s.settleAdvertise p l) := by
  refine ite (fun _ => ?_) fun _ => ite (fun _ => ?_) fun _ => ?_
  · refine setLane_enterParked (l := l.recordCable) (fun guard h => ?_) (fun h => ⟨(depth h).active, (depth h).shadow⟩)
      ⟨hold.holder, hold.sweep⟩
    have rested := ((ladder guard h).rest .parked).ladderSound
    exact rested
  · exact (setLane (fun guard h => (ladder guard h).ladderSound) depth hold).trans laneCommand
  · exact setLane_restIn (fun guard h => ((ladder guard h).rest .held).ladderSound) depth hold

/-- A lane with an attempt left, or with a shadow to transfer, enters ADVERTISE. -/
theorem enterAdvertise_of {b : Bool} (ready : g → (s.lane p).ladderSound = true →
    (s.lane p).Climbing ∨ b = true ∧ (s.lane p).shadowPending = true) : LaneKept g p s (s.enterAdvertise p b) := by
  refine settleAdvertise (fun guard h => ?_) (fun h => ?_) ?_
  · have climbing := Lane.transferAt_climbing (s.record p).allowed h (ready guard h)
    exact ⟨⟨climbing.active, climbing.shadow, climbing.agree⟩, climbing.ceiling, climbing.attempts⟩
  · have depth := Lane.transferAt_depthSound h (s.record p).allowed b
    exact ⟨depth.active, depth.shadow⟩
  · have hold := (s.lane p).transferAt_sameHold (s.record p).allowed b
    exact ⟨hold.holder, hold.sweep⟩

theorem enterAdvertise (climbs : g → (s.lane p).ladderSound = true → (s.lane p).Climbing) (b : Bool) :
    LaneKept g p s (s.enterAdvertise p b) :=
  enterAdvertise_of fun guard h => .inl (climbs guard h)

theorem enterSweepWait (climbs : g → (s.lane p).ladderSound = true → (s.lane p).Climbing) :
    LaneKept g p s (s.enterSweepWait p) :=
  ite (fun _ => enterAdvertise climbs false) fun _ => restIn climbs .sweepWait

/-- A lane that restores its ceiling at a transfer point enters ADVERTISE from any state (R104). -/
theorem transferAndRestore_enterAdvertise (b : Bool) :
    LaneKept g p s ((s.transferAndRestore p).enterAdvertise p b) := by
  have first : ((s.transferAndRestore p).lane p).attempts = 0 := by
    rw [State.transferAndRestore, State.lane_modifyLane_same]
    rfl
  exact transferAndRestore.trans (enterAdvertise (fun _ => Lane.climbing_of_first first) b)

theorem unparkByRecord : LaneKept g p s (s.unparkByRecord p) := by
  let f (l : Lane) : Lane := { l.restoreCeiling (s.record p).allowed with lastFailure := .none }
  have restored : LaneKept g p s (s.modifyLane p f) := by
    refine setLane (fun _ h => ?_) (fun h => ⟨h.active, h.shadow⟩) ⟨rfl, rfl⟩
    have sound := ((Lane.profiled_of_ladderSound h).restoreCeiling (s.record p).allowed).ladderSound
    exact sound
  have first : ((s.modifyLane p f).lane p).attempts = 0 := by
    rw [State.lane_modifyLane_same]
    rfl
  exact restored.trans (enterAdvertise (fun _ => Lane.climbing_of_first first) true)

/-! ## Failures (R79, R80) -/

theorem countFailure (reason : LastFailure) : LaneKept g p s (s.modifyLane p (·.countFailure reason)) :=
  modifyLane (fun _ => rfl) (fun _ h => ⟨h.active, h.shadow⟩) fun _ => ⟨rfl, rfl⟩

/-- The ladder rules on a lane with an attempt left, and the lane goes where it says (R99, R80). -/
theorem ladder_afterFailure (climbs : g → (s.lane p).ladderSound = true → (s.lane p).Climbing) (allowed : GradeSet)
    (queued : Bool) : LaneKept g p s
      ((s.setLane p ((s.lane p).ladder allowed).1).afterFailure p queued ((s.lane p).ladder allowed).2) := by
  have depth := fun h => Lane.ladder_depthSound (l := s.lane p) h allowed
  have hold := (s.lane p).ladder_sameHold allowed
  by_cases parks : ((s.lane p).ladder allowed).2 = .park
  · rw [parks]
    exact setLane_enterParked (fun guard h => (climbs guard h).ladder_parks parks) depth hold
  · have rules (h : (s.lane p).ladderSound = true) : ((s.lane p).ladder allowed).1.Climbing := by
      obtain ⟨profiled, ceiling, -⟩ := Lane.ladderSound_iff.1 h
      exact profiled.ladder ceiling allowed parks
    have ruled : LaneKept g p s (s.setLane p ((s.lane p).ladder allowed).1) :=
      setLane (fun _ h => (rules h).ladderSound) depth hold
    have left (h : ((s.setLane p ((s.lane p).ladder allowed).1).lane p).ladderSound = true) :
        ((s.setLane p ((s.lane p).ladder allowed).1).lane p).Climbing := by
      rw [State.lane_setLane_same] at h ⊢
      exact Lane.ladder_climbing h parks
    cases outcome : ((s.lane p).ladder allowed).2 with
    | park => exact absurd outcome parks
    | retry | downshift =>
      exact ruled.trans (ite (fun _ => enterSweepWait fun _ => left) fun _ => enterBackoff fun _ => left)

/-! ## The hold set and the quiet-hold list (R64 to R68) -/

theorem leaveHeldIfFree : LaneKept g p s (s.leaveHeldIfFree p) :=
  ite (fun h => enterAdvertise (fun _ => Lane.climbing_of_state h.1 (by decide)) _) fun _ => refl s

theorem dropReason {r : HoldReason} (other : r ≠ .sweep) : LaneKept g p s (s.dropReason p r) :=
  ite (fun _ => (putReason false other).trans leaveHeldIfFree) fun _ => refl s

theorem sweepWaitTest : LaneKept g p s (s.sweepWaitTest p) :=
  ite (fun h => enterAdvertise (fun _ => Lane.climbing_of_state h.1 (by decide)) _) fun _ => refl s

end LaneKept

/-- What a reason that reaches a lane comes to (R64 to R66): nothing, a place in the hold set, or HELD from a state that sends
or trains; SWEEP drops a link. -/
theorem State.addReason_cases (s : State) (p : Port) (r : HoldReason) :
    (s.addReason p r = s ∧ (r = .sweep → (s.lane p).hold.sweep = true)) ∨
    s.addReason p r = s.putReason p r true ∨
    ((∃ st, (s.lane p).state = st ∧ (st ≠ .parked ∧ st ≠ .disabled) ∧ st ≠ .starting) ∧
      s.addReason p r = (s.putReason p r true).enterHeld p) ∨
    ((s.lane p).state = .up ∧ r = .sweep ∧ s.addReason p r =
      (((s.leaveUp p).modifyLane p fun x => { x with transferOwed := true }).putReason p r true).enterHeld p) := by
  unfold State.addReason
  simp only
  split
  next has => exact .inl ⟨rfl, fun sweep => by rw [sweep] at has; exact has⟩
  next =>
    split
    case h_1 state | h_2 state => exact .inr (.inr (.inl ⟨⟨_, state, by decide⟩, rfl⟩))
    case h_3 state | h_4 state =>
      cases r with
      | quiet => exact .inr (.inl rfl)
      | listen => exact .inl ⟨rfl, nofun⟩
      | sweep | power => exact .inr (.inr (.inl ⟨⟨_, state, by decide⟩, rfl⟩))
    case h_5 state =>
      cases r with
      | quiet => exact .inr (.inl rfl)
      | sweep => exact .inr (.inr (.inr ⟨state, rfl, rfl⟩))
      | listen | power => exact .inl ⟨rfl, nofun⟩
    all_goals exact .inr (.inl rfl)

namespace LaneOp

variable {g : Prop} {p : Port} {s t u : State}

/-- From a state in which a lane sends, trains or is up, HELD keeps the attempt left. -/
theorem enterHeld_from {st : LaneState} (state : (s.lane p).state = st) (awake : st ≠ .parked ∧ st ≠ .disabled) :
    LaneOp g p s (s.enterHeld p) :=
  (LaneKept.enterHeld fun _ => Lane.climbing_of_state state awake).toLaneOp

theorem addReason (r : HoldReason) : LaneOp g p s (s.addReason p r) := by
  rcases s.addReason_cases p r with ⟨same, -⟩ | put | ⟨⟨st, state, awake, -⟩, held⟩ | ⟨up, -, held⟩
  · rw [same]; exact refl s
  · rw [put]; exact putReason r true
  · have kept : ((s.putReason p r true).lane p).state = st := by
      rw [State.putReason, State.lane_modifyLane_same]; exact state
    rw [held]
    exact (putReason r true).trans (enterHeld_from kept awake)
  · have owed : LaneKept g p (s.leaveUp p) ((s.leaveUp p).modifyLane p fun x => { x with transferOwed := true }) :=
      LaneKept.modifyLane (fun _ => rfl) (fun _ h => ⟨h.active, h.shadow⟩) fun _ => ⟨rfl, rfl⟩
    rw [held]
    refine ((LaneKept.leaveUp.trans owed).toLaneOp.trans (putReason r true)).trans (enterHeld_from (st := .up) ?_ (by decide))
    simpa [State.putReason, State.leaveUp] using up

theorem dropReason (r : HoldReason) : LaneOp g p s (s.dropReason p r) := by
  unfold State.dropReason
  split
  · exact (putReason r false).trans LaneKept.leaveHeldIfFree.toLaneOp
  · exact refl s

theorem laneEntryRemoved : LaneOp g p s (s.laneEntryRemoved p) := by
  unfold State.laneEntryRemoved
  simp only
  split
  next state =>
    exact (putReason .sweep false).trans
      (LaneKept.enterBackoff fun _ => Lane.climbing_of_state state (by decide)).toLaneOp
  next => exact (putReason .sweep false).trans LaneKept.leaveHeldIfFree.toLaneOp

theorem laneEntrySuspended : LaneOp g p s (s.laneEntrySuspended p) :=
  (dropReason .sweep).trans LaneKept.sweepWaitTest.toLaneOp

end LaneOp

namespace LaneKept

variable {g : Prop} {p : Port} {s t u : State}

theorem addReason {r : HoldReason} (other : r ≠ .sweep) : LaneKept g p s (s.addReason p r) := by
  rcases s.addReason_cases p r with ⟨same, -⟩ | put | ⟨⟨st, state, awake, -⟩, held⟩ | ⟨-, sweep, -⟩
  · rw [same]; exact refl s
  · rw [put]; exact putReason true other
  · have kept : ((s.putReason p r true).lane p).state = st := by
      rw [State.putReason, State.lane_modifyLane_same]; exact state
    rw [held]
    exact (putReason true other).trans (enterHeld fun _ => Lane.climbing_of_state kept awake)
  · exact absurd sweep other

theorem modifyQuiet (f : Lane → List QuietRecord) : LaneKept g p s (s.modifyLane p fun l => { l with quiet := f l }) :=
  modifyLane (fun _ => rfl) (fun _ h => ⟨h.active, h.shadow⟩) fun _ => ⟨rfl, rfl⟩

theorem quietAskLane (ask : QuietRecord) : LaneKept g p s (s.quietAskLane p ask) :=
  ite (fun _ => (modifyQuiet _).trans (addReason (by decide))) fun _ => modifyQuiet _

theorem quietEndLane (st : Station) (port : Port) : LaneKept g p s (s.quietEndLane p st port) :=
  ite (fun _ => ite (fun _ => (modifyQuiet _).trans (dropReason (by decide))) fun _ => modifyQuiet _) fun _ => refl s

end LaneKept

end Sys2Proof.Machine
end

section
/-! SUPPORT. What every operation keeps of the ladder of each lane and of the Sweep Queue: from the queue operations to the
owners' decisions (R40, R98, R99, R109 to R112). -/

namespace Sys2Proof.Machine

/-! ## The Sweep Queue's bounds (R109, R110) -/

/-- An entry sweeps some pair, at a depth of at most 6 (R110). -/
structure Entry.Fits (x : Entry) : Prop where
  mask : x.mask ≠ 0
  depth : x.depth ≤ 6

/-- At most 6 entries, one for a port, each as R110 makes it; and the default depths that automatic requests are made with. -/
structure State.QueueSound (s : State) : Prop where
  length : s.queue.length ≤ 6
  ports : (s.queue.map Entry.port).Nodup
  entries : ∀ x ∈ s.queue, x.Fits
  depths : ∀ p, (s.lane p).DepthSound

theorem State.allLanes_iff {s : State} {f : Lane → Bool} : s.allLanes f = true ↔ ∀ p, f (s.lane p) = true := by
  simp [State.allLanes]

theorem State.queueSound_iff {s : State} : s.queueSound = true ↔ s.QueueSound := by
  unfold State.queueSound
  simp only [State.allLanes_iff, Bool.and_eq_true, decide_eq_true_eq, List.all_eq_true]
  constructor
  · rintro ⟨⟨⟨length, ports⟩, entries⟩, depths⟩
    exact ⟨length, ports, fun x here => ⟨(entries x here).1, (entries x here).2⟩,
      fun p => ⟨(depths p).1, (depths p).2⟩⟩
  · rintro ⟨length, ports, entries, depths⟩
    exact ⟨⟨⟨length, ports⟩, fun x here => ⟨(entries x here).mask, (entries x here).depth⟩⟩,
      fun p => ⟨(depths p).active, (depths p).shadow⟩⟩

theorem State.QueueSound.of_same {s t : State} (h : s.QueueSound) (queue : t.queue = s.queue)
    (depths : ∀ p, (s.lane p).DepthSound → (t.lane p).DepthSound) : t.QueueSound :=
  ⟨queue ▸ h.length, queue ▸ h.ports, queue ▸ h.entries, fun p => depths p (h.depths p)⟩

/-- An entry that is not found names no port of the queue. -/
theorem State.entryOf_none {s : State} {p : Port} : s.entryOf p = none ↔ ∀ x ∈ s.queue, x.port ≠ p := by
  simp [State.entryOf]

theorem State.entryOf_some {s : State} {p : Port} {x : Entry} (h : s.entryOf p = some x) :
    x ∈ s.queue ∧ x.port = p :=
  ⟨List.mem_of_find?_eq_some h, of_decide_eq_true (List.find?_some h :)⟩

theorem map_port_modify {l : List Entry} {p : Port} {f : Entry → Entry} (port : ∀ x, (f x).port = x.port) :
    (l.map fun x => if x.port = p then f x else x).map Entry.port = l.map Entry.port := by
  rw [List.map_map]
  refine List.map_congr_left fun x _ => ?_
  simp only [Function.comp]
  split
  · exact port x
  · rfl

theorem State.QueueSound.modifyEntry {s : State} (h : s.QueueSound) (p : Port) {f : Entry → Entry}
    (port : ∀ x, (f x).port = x.port) (fits : ∀ x, x.Fits → (f x).Fits) : (s.modifyEntry p f).QueueSound where
  length := by simpa [State.modifyEntry] using h.length
  ports := by
    rw [State.modifyEntry, map_port_modify port]
    exact h.ports
  entries := fun x here => by
    obtain ⟨y, old, rfl⟩ := List.mem_map.1 here
    split
    · exact fits y (h.entries y old)
    · exact h.entries y old
  depths := h.depths

/-- A request that fits makes or merges an entry that fits, and takes no seventh place (R110 to R112). -/
theorem State.QueueSound.requestSweep {s : State} (h : s.QueueSound) {r : SweepRequest} (mask : r.mask ≠ 0)
    (depth : r.depth ≤ 6) : (s.requestSweep r).QueueSound := by
  unfold State.requestSweep
  split
  next new =>
    unfold State.requestOutcome at new
    split at new
    · split at new <;> cases new
    next absent =>
      split at new
      next room =>
        refine ⟨?_, ?_, fun x here => ?_, h.depths⟩
        · simpa [Config.queueCapacity] using room
        · have fresh := State.entryOf_none.1 absent
          rw [List.map_append, List.nodup_append]
          refine ⟨h.ports, List.nodup_singleton _, fun a old b new => ?_⟩
          obtain ⟨x, here, rfl⟩ := List.mem_map.1 old
          rw [List.mem_singleton.1 new]
          exact fresh x here
        · rcases List.mem_append.1 here with old | new
          · exact h.entries x old
          · rw [List.mem_singleton.1 new]
            exact ⟨mask, depth⟩
      next => cases new
  next =>
    refine h.modifyEntry r.port (fun _ => rfl) fun x fits => ⟨fun empty => fits.mask ?_, max_le fits.depth depth⟩
    exact (BitVec.or_eq_zero_iff.1 empty).1
  next => exact h
  next => exact h

/-! ## What an operation keeps -/

/-- From s to t every lane's ladder stays sound, where `g` guards what an operation asks of a lane, and the Sweep Queue stays
within its bounds. -/
structure Kept (g : Prop) (s t : State) : Prop where
  ladder : g → ∀ p, (s.lane p).ladderSound = true → (t.lane p).ladderSound = true
  queue : s.QueueSound → t.QueueSound

namespace Kept

variable {g : Prop} {s t : State}

theorem refl (s : State) : Kept g s s := ⟨fun _ _ => id, id⟩

theorem trans {u : State} (a : Kept g s t) (b : Kept g t u) : Kept g s u :=
  ⟨fun guard p => b.ladder guard p ∘ a.ladder guard p, b.queue ∘ a.queue⟩

theorem ite {c : Prop} [Decidable c] {u v : State} (a : c → Kept g s u) (b : ¬c → Kept g s v) :
    Kept g s (if c then u else v) := by
  split
  next h => exact a h
  next h => exact b h

/-- Where neither lanes nor queue are written. -/
theorem ofSame {u : State} (lanes : u.lanes = t.lanes) (queue : u.queue = t.queue) : Kept g t u where
  ladder := fun _ p h => by rw [State.lane_of_lanes lanes]; exact h
  queue := fun h => h.of_same queue fun p d => by rw [State.lane_of_lanes lanes]; exact d

theorem ofLane {p : Port} {u : State} (a : LaneOp g p t u) : Kept g t u where
  ladder := fun guard q h => by
    by_cases here : q = p
    · subst here; exact a.ladder guard h
    · rw [a.touches.lane q here]; exact h
  queue := fun h => h.of_same a.touches.queue fun q d => by
    by_cases here : q = p
    · subst here; exact a.depth d
    · rw [a.touches.lane q here]; exact d

theorem foldl {α : Type} {f : State → α → State} (k : ∀ t x, Kept g t (f t x)) (l : List α) (h : Kept g s t) :
    Kept g s (l.foldl f t) := by
  induction l generalizing t with
  | nil => exact h
  | cons x l ih => exact ih (h.trans (k t x))

section After

variable (h : Kept g s t)
include h

theorem lane_op {p : Port} {u : State} (a : LaneOp g p t u) : Kept g s u := h.trans (ofLane a)

theorem lane {p : Port} {u : State} (a : LaneKept g p t u) : Kept g s u := h.lane_op a.toLaneOp

theorem same {u : State} (lanes : u.lanes = t.lanes) (queue : u.queue = t.queue) : Kept g s u :=
  h.trans (ofSame lanes queue)

/-! ## Writes that leave lanes and queue alone -/

theorem setEngine (e : EngineId) (x : Engine) : Kept g s (t.setEngine e x) := h.same rfl rfl

theorem modifyEngine (e : EngineId) (f : Engine → Engine) : Kept g s (t.modifyEngine e f) := h.same rfl rfl

theorem post (p : Port) (f : ChangeFlag) : Kept g s (t.post p f) := h.same rfl rfl

theorem setHoldoff (p : Port) (x : Option Ms) : Kept g s (t.setHoldoff p x) := h.same rfl rfl

theorem postCoord (f : Frame) (e : Option EngineId) : Kept g s (t.postCoord f e) := by
  unfold State.postCoord
  split
  · exact h.same rfl rfl
  · refine ite (fun _ => h) fun _ => ?_
    split
    · exact h
    · exact h.same rfl rfl

theorem place (r : ReplyEntry) : Kept g s (t.place r) := h.same rfl rfl

theorem answer (k : RequestKind) (v : Decision) : Kept g s (t.answer k v) := h.same rfl rfl

/-! ## Writes to lanes that leave the ladder alone -/

/-- A write to a lane's measurements, tap or hold set. -/
theorem modifyLane (p : Port) {f : Lane → Lane} (ladder : ∀ l : Lane, (f l).ladderSound = l.ladderSound)
    (depth : ∀ l : Lane, l.DepthSound → (f l).DepthSound) (holder : ∀ l : Lane, (f l).holder = l.holder) :
    Kept g s (t.modifyLane p f) :=
  h.lane_op (.setLane (fun _ k => (ladder _).trans k) (depth _) (holder _))

/-- The tap of a port changes hands. -/
theorem handLane (p : Port) {l : Lane} (ladder : l.ladderSound = (t.lane p).ladderSound)
    (depth : (t.lane p).DepthSound → l.DepthSound) : Kept g s (t.setLane p l) := by
  refine h.trans ⟨fun _ q k => ?_, fun k => k.of_same rfl fun q d => ?_⟩ <;> by_cases here : q = p
  · subst here; rw [State.lane_setLane_same]; exact ladder.trans k
  · rw [State.lane_setLane_ne _ _ _ _ here]; exact k
  · subst here; rw [State.lane_setLane_same]; exact depth d
  · rw [State.lane_setLane_ne _ _ _ _ here]; exact d

theorem closeCapture (p : Port) : Kept g s (t.modifyLane p Lane.closeCapture) :=
  h.handLane p rfl fun d => ⟨d.active, d.shadow⟩

theorem releasePort (e : EngineId) (p : Port) : Kept g s (t.releasePort e p) := by
  refine ite (fun _ => h.handLane p ?_ fun d => ?_) fun _ => h
  · unfold Lane.release
    simp only
    split <;> rfl
  · unfold Lane.release
    simp only
    split <;> exact ⟨d.active, d.shadow⟩

theorem shootPort (e : EngineId) (p : Port) (c : Byte → TapCommand) : Kept g s (t.shootPort e p c) :=
  h.handLane p rfl fun d => ⟨d.active, d.shadow⟩

theorem listenPort (e : EngineId) (p : Port) : Kept g s (t.listenPort e p) :=
  h.handLane p rfl fun d => ⟨d.active, d.shadow⟩

theorem detachMember (e : EngineId) (p : Port) : Kept g s (t.detachMember e p) := by
  rw [State.detachMember_eq]
  exact h.setEngine _ _

/-! ## The Sweep Queue -/

theorem modifyEntry (p : Port) {f : Entry → Entry} (port : ∀ x, (f x).port = x.port)
    (fits : ∀ x, x.Fits → (f x).Fits) : Kept g s (t.modifyEntry p f) :=
  h.trans ⟨fun _ _ => id, fun k => k.modifyEntry p port fits⟩

/-- A change of an entry's progress: its state, its engine, its pairs completed, its retries. -/
theorem progress (p : Port) {f : Entry → Entry} (kept : ∀ x, (f x).port = x.port ∧ (f x).mask = x.mask ∧ (f x).depth = x.depth) :
    Kept g s (t.modifyEntry p f) :=
  h.modifyEntry p (fun x => (kept x).1) fun x fits =>
    ⟨(kept x).2.1 ▸ fits.mask, (kept x).2.2 ▸ fits.depth⟩

theorem requestSweep {r : SweepRequest} (mask : r.mask ≠ 0) (depth : t.QueueSound → r.depth ≤ 6) :
    Kept g s (t.requestSweep r) := by
  refine h.trans ⟨fun _ p k => ?_, fun k => k.requestSweep mask (depth k)⟩
  rw [State.lane_of_lanes (s := t)]
  · exact k
  · unfold State.requestSweep
    split <;> rfl

theorem automaticRequest (p : Port) (o : Origin) : Kept g s (t.requestSweep (t.automaticRequest p o)) :=
  h.requestSweep (by decide : allPairSet ≠ 0) fun k => (k.depths p).active

theorem dropEntry (p : Port) : Kept g s { t with queue := t.queue.filter fun x => decide (x.port ≠ p) } := by
  refine h.trans ⟨fun _ _ => id, fun k => ⟨?_, ?_, fun x here => k.entries x (List.mem_filter.1 here).1, k.depths⟩⟩
  · exact (List.length_filter_le _ _).trans k.length
  · exact k.ports.sublist (List.filter_sublist.map _)

theorem removeEntry (p : Port) (o : RemovalOutcome) : Kept g s (t.removeEntry p o) :=
  ((h.post p _).dropEntry p).lane_op LaneOp.laneEntryRemoved

theorem dropReason (p : Port) (r : HoldReason) : Kept g s (t.dropReason p r) := h.lane_op (.dropReason r)

theorem addReason (p : Port) (r : HoldReason) : Kept g s (t.addReason p r) := h.lane_op (.addReason r)

theorem listenDrop (p : Port) : Kept g s (t.listenDrop p) := by
  unfold State.listenDrop
  split
  next => exact h
  next e m _ =>
    have released := (h.detachMember e p).releasePort e p
    exact ite (fun _ => released.dropReason p .listen) fun _ => released

theorem startEntry (e : EngineId) (p : Port) : Kept g s (t.startEntry e p) := by
  have running : Kept g s (t.modifyEntry p fun x =>
      { x with state := .running, engine := some e, snapshot := some (x.snapshot.getD (t.lane p).snapshot) }) :=
    h.progress p fun _ => ⟨rfl, rfl, rfl⟩
  exact ((running.setEngine e _).listenDrop p).addReason p .sweep

theorem removeGuarded : Kept g s t.removeGuarded :=
  h.foldl (fun u x => (refl u).removeEntry (Entry.port x) _) _

theorem engineChooses (e : EngineId) : Kept g s (t.engineChooses e) := by
  refine ite (fun _ => ?_) fun _ => h
  simp only
  split
  · exact h.removeGuarded.startEntry e _
  · exact h.removeGuarded

theorem startChoice : Kept g s t.startChoice := ((h.engineChooses 0).engineChooses 1).engineChooses 0

/-! ## Failures -/

/-- A failure of a lane that is neither PARKED nor DISABLED. -/
theorem failLane {p : Port} {st : LaneState} (state : g → (t.lane p).state = st) (awake : st ≠ .parked ∧ st ≠ .disabled)
    (r : LastFailure) (cable : Bool) : Kept g s (t.failLane p r cable) := by
  let u := t.modifyLane p (·.countFailure r)
  let asked := if (t.lane p).asksSweep cable then u.requestSweep (u.automaticRequest p .laneFailure) else u
  have counted : Kept g s u := h.lane (LaneKept.countFailure r)
  have request : Kept g s asked := ite (fun _ => counted.automaticRequest p .laneFailure) fun _ => counted
  have lane : asked.lane p = u.lane p := by
    refine State.lane_of_lanes ?_ p
    show (if _ then u.requestSweep _ else u).lanes = _
    split
    · unfold State.requestSweep
      split <;> rfl
    · rfl
  have climbs (guard : g) (k : (asked.lane p).ladderSound = true) : (asked.lane p).Climbing := by
    refine Lane.climbing_of_state (st := st) ?_ awake k
    rw [lane, State.lane_modifyLane_same]
    exact state guard
  exact request.lane (LaneKept.ladder_afterFailure climbs (asked.record p).allowed _)

theorem preempt (p : Port) : Kept g s (t.preempt p) := by
  unfold State.preempt
  split
  · exact ite (fun _ => h.removeEntry p _) fun _ => h
  · exact h

theorem enterUp {p : Port} {st : LaneState} (state : (t.lane p).state = st) (awake : st ≠ .parked ∧ st ≠ .disabled) :
    Kept g s (t.enterUp p) :=
  ((h.lane (LaneKept.goUp (fun _ => Lane.climbing_of_state state awake) t.ms)).post p .linkUp).preempt p

/-! ## The course of a sweep -/

theorem handOver (p : Port) (old new : GradeSet) : Kept g s (t.handOver p old new) :=
  ite (fun _ => h.lane LaneKept.unparkByRecord) fun _ => h

theorem pairWrite (p : Port) (q : Pair) (x : PairResult) (o : Origin) (c : Bool) : Kept g s (t.pairWrite p q x o c) := by
  have written : Kept g s (t.setRecord p ((t.record p).write q x o c)) := h.same rfl rfl
  have handed := written.handOver p (t.record p).allowed ((t.record p).write q x o c).allowed
  unfold State.pairWrite State.postOption
  simp only
  split
  · exact handed.post p _
  · exact handed

theorem freeEngine (e : EngineId) (p : Port) : Kept g s (t.freeEngine e p) := (h.releasePort e p).setEngine e _

theorem postEndFrame (e : EngineId) (p : Port) : Kept g s (t.postEndFrame e p) := by
  unfold State.postEndFrame
  refine Kept.modifyEngine ?_ e _
  split
  · exact h
  · exact h.postCoord _ _
  · exact h.postCoord _ _

theorem completeSweep (e : EngineId) (p : Port) : Kept g s (t.completeSweep e p) :=
  (((h.postCoord _ _).modifyEngine e _).freeEngine e p).removeEntry p _

theorem cancelStop (e : EngineId) (p : Port) : Kept g s (t.cancelStop e p) :=
  ((h.postEndFrame e p).freeEngine e p).removeEntry p _

theorem suspendSweep (e : EngineId) (p : Port) : Kept g s (t.suspendSweep e p) := by
  have suspended : Kept g s (((t.postEndFrame e p).freeEngine e p).modifyEntry p fun x =>
      { x with state := .suspended, engine := none, cancelPending := false }) :=
    ((h.postEndFrame e p).freeEngine e p).progress p fun _ => ⟨rfl, rfl, rfl⟩
  exact suspended.lane_op LaneOp.laneEntrySuspended

theorem suspendOn (p : Port) (b : Bool) : Kept g s (t.suspendOn p b) := by
  unfold State.suspendOn
  split
  · split
    · exact ite (fun _ => h.suspendSweep _ p) fun _ => h
    · exact h
  · exact h

theorem fireShot (e : EngineId) (p : Port) (q : Pair) : Kept g s (t.fireShot e p q) :=
  (h.modifyEngine e _).shootPort e p _

theorem beginPair (e : EngineId) (p : Port) (q : Pair) : Kept g s (t.beginPair e p q) :=
  (h.modifyEngine e _).fireShot e p q

theorem passEnd (e : EngineId) (x : Entry) : Kept g s (t.passEnd e x) := by
  have retried : Kept g s ((t.postCoord (sweepEndFrame x.port) (some e)).modifyEntry x.port fun y =>
      { y with retries := y.retries + 1 }) :=
    (h.postCoord _ _).progress x.port fun _ => ⟨rfl, rfl, rfl⟩
  exact ite (fun _ => h.completeSweep e x.port) fun _ => ite (fun _ => h.suspendSweep e x.port) fun _ =>
    retried.modifyEngine e _

theorem afterPair (e : EngineId) (p : Port) (q : Pair) : Kept g s (t.afterPair e p q) := by
  unfold State.afterPair
  split
  · exact h
  · refine ite (fun _ => ite (fun _ => h.completeSweep e p) fun _ => h.cancelStop e p) fun _ => ?_
    split
    · exact ite (fun _ => h.suspendSweep e p) fun _ => h.beginPair e p _
    · exact h.passEnd e _

theorem writePair (e : EngineId) (p : Port) (q : Pair) (r : PairResult) : Kept g s (t.writePair e p q r) := by
  unfold State.writePair
  split
  next => exact h
  next x _ =>
    have joined : Kept g s (t.modifyEntry p fun y => { y with completed := addPair x.completed q }) :=
      h.progress p fun _ => ⟨rfl, rfl, rfl⟩
    exact ((joined.modifyEngine e _).pairWrite p q r _ _).afterPair e p q

theorem afterShot (e : EngineId) (p : Port) (q : Pair) (d : Nat) : Kept g s (t.afterShot e p q d) :=
  ite (fun _ => h.writePair e p q _) fun _ => ite (fun _ => h.fireShot e p q) fun _ =>
    ite (fun _ => h.writePair e p q _) fun _ => h.modifyEngine e _

theorem endAnalysis (e : EngineId) (p : Port) (q : Pair) : Kept g s (t.endAnalysis e p q) := by
  unfold State.endAnalysis
  split
  · exact h
  · exact ite (fun _ => (h.modifyEngine e _).afterPair e p q) fun _ => h.writePair e p q _

theorem preparePass (e : EngineId) (x : Entry) : Kept g s (t.preparePass e x) := by
  unfold State.preparePass
  exact (h.postCoord _ _).modifyEngine e _

theorem settled (e : EngineId) (x : Entry) : Kept g s (t.settled e x) := by
  have announced := (h.postCoord (sweepStartFrame x.port (t.engine e).passPairs
    (listenUnits (pairsOf (t.engine e).passPairs).length x.depth)) (some e)).modifyEngine e
      fun k => { k.stopTimer with announcement := .started }
  unfold State.settled
  simp only
  split
  · exact announced.beginPair e x.port _
  · exact announced

theorem shotCompleted (e : EngineId) (p : Port) (b : Four ShotBlock) : Kept g s (t.shotCompleted e p b) := by
  unfold State.shotCompleted
  split
  · exact ((h.closeCapture p).modifyEngine e _).afterShot e p _ _
  · exact h.closeCapture p

/-! ## Calibration and start-up -/

theorem fireCal (e : EngineId) (p : Port) : Kept g s (t.fireCal e p) := (h.modifyEngine e _).shootPort e p _

theorem takeCalibration (e : EngineId) : Kept g s (t.takeCalibration e) := by
  unfold State.takeCalibration
  split
  next => exact h.setEngine e _
  next p rest _ =>
    have shorter : Kept g s { t with calList := rest } := h.same rfl rfl
    exact (shorter.setEngine e _).fireCal e p

theorem afterCalShot (e : EngineId) : Kept g s (t.afterCalShot e) := by
  unfold State.afterCalShot
  split
  · exact h
  · exact ite (fun _ => h.fireCal e _) fun _ => h.modifyEngine e _

theorem calShotCompleted (e : EngineId) (p : Port) (b : ShotBlock) : Kept g s (t.calShotCompleted e p b) :=
  ((h.closeCapture p).modifyEngine e _).afterCalShot e

theorem shotFailed (p : Port) : Kept g s (t.shotFailed p) := by
  have closed := h.closeCapture p
  unfold State.shotFailed
  simp only
  split
  next => exact closed
  next e _ =>
    split
    case h_1 => exact closed.afterCalShot e
    case h_2 =>
      split
      · exact (closed.modifyEngine e _).afterShot e p _ _
      · exact closed
    all_goals exact closed

theorem finishCalibration (e : EngineId) : Kept g s (t.finishCalibration e) := by
  unfold State.finishCalibration
  split
  · exact h
  next w _ =>
    have measured := h.modifyLane w.port (f := fun l => { l with
      offsetT := (calibrationOffset (pulseCode t.station) w.sums w.completed).1,
      calDefaulted := (calibrationOffset (pulseCode t.station) w.sums w.completed).2 })
      (fun _ => rfl) (fun _ d => ⟨d.active, d.shadow⟩) fun _ => rfl
    exact (measured.releasePort e w.port).takeCalibration e

theorem leaveStarting (p : Port) : Kept g s (t.leaveStarting p) := by
  refine ite (fun _ => ?_) fun _ => ?_
  · exact h.lane (LaneKept.transferAndRestore_enterAdvertise true)
  · exact h.lane (LaneKept.transferAndRestore.trans LaneKept.enterDisabled)

theorem startupEnd : Kept g s t.startupEnd :=
  ite (fun _ => (h.foldl (fun u p => (refl u).leaveStarting p) t.presentPorts).same rfl rfl) fun _ => h

/-! ## Listen jobs and the frames of peers -/

theorem quietAskLane (p : Port) (ask : QuietRecord) : Kept g s (t.quietAskLane p ask) :=
  h.lane (LaneKept.quietAskLane ask)

theorem quietEndLane (p : Port) (st : Station) (port : Port) : Kept g s (t.quietEndLane p st port) :=
  h.lane (LaneKept.quietEndLane st port)

theorem takeQuietAsk (st : Station) (port : Port) (units : Byte) : Kept g s (t.takeQuietAsk st port units) :=
  h.foldl (fun u p => (refl u).quietAskLane p _) _

theorem endQuiet (st : Station) (port : Port) : Kept g s (t.endQuiet st port) :=
  h.foldl (fun u p => (refl u).quietEndLane p st port) _

theorem takeSweepStart (st : Station) (port : Port) (units : Byte) : Kept g s (t.takeSweepStart st port units) := by
  unfold State.takeSweepStart
  simp only
  split
  · exact h
  · exact ite (fun _ => h) fun _ => Kept.foldl (fun u p => (refl u).listenPort _ p) _
      (Kept.foldl (fun u m => (refl u).addReason (Member.port m) .listen) _ (h.setEngine _ _))

theorem foldBlock (e : EngineId) (p : Port) (b : Four (Vector Sample 512)) : Kept g s (t.foldBlock e p b) :=
  h.modifyEngine e _

theorem learn (k : CouplingKey) (level : Nat) (src : CouplingSource) : Kept g s (t.learn k level src) := h.same rfl rfl

theorem recordMember (j : ListenJob) (m : Member) : Kept g s (t.recordMember j m) :=
  ite (fun _ => (h.learn _ _ _).postCoord _ _) fun _ => h

theorem endListenJob (e : EngineId) : Kept g s (t.endListenJob e) := by
  unfold State.endListenJob
  split
  · exact h
  next j _ =>
    have recorded := h.foldl (fun u m => (refl u).recordMember j m) j.members
    have released := (recorded.setEngine e .idle).foldl (fun u m => (refl u).releasePort e (Member.port m)) j.members
    exact (released.foldl (fun u m => (refl u).dropReason (Member.port m) .listen) _).startChoice

theorem endJobOf (e : EngineId) (st : Station) (port : Port) : Kept g s (t.endJobOf e st port) :=
  ite (fun _ => h.endListenJob e) fun _ => h

theorem takeSweepEnd (st : Station) (port : Port) : Kept g s (t.takeSweepEnd st port) :=
  ((h.endQuiet st port).endJobOf 0 st port).endJobOf 1 st port

theorem takeCouplingSeen (st : Station) (p q : Port) (level : Nat) : Kept g s (t.takeCouplingSeen st p q level) :=
  ite (fun _ => h) fun _ => h.learn _ _ _

theorem fromPeer (st : Station) {f : State → State} (k : Kept g s (f t)) : Kept g s (t.fromPeer st f) :=
  ite (fun _ => h) fun _ => ite (fun _ => k) fun _ => h

theorem withPeerPort (b : Byte) {f : Port → State} (k : ∀ p, Kept g s (f p)) : Kept g s (t.withPeerPort b f) := by
  unfold State.withPeerPort
  split
  · exact k _
  · exact h

theorem quietAskFrom (st : Station) (port units : Byte) : Kept g s (t.quietAskFrom st port units) :=
  h.fromPeer st (h.withPeerPort port fun p => h.takeQuietAsk st p units)

theorem sweepStartFrom (st : Station) (port units : Byte) : Kept g s (t.sweepStartFrom st port units) :=
  h.fromPeer st (h.withPeerPort port fun p => h.takeSweepStart st p units)

theorem sweepEndFrom (st : Station) (port : Byte) : Kept g s (t.sweepEndFrom st port) :=
  h.fromPeer st (h.withPeerPort port fun p => h.takeSweepEnd st p)

theorem quietEndFrom (st : Station) (port : Byte) : Kept g s (t.quietEndFrom st port) :=
  h.fromPeer st (h.withPeerPort port fun p => h.endQuiet st p)

theorem couplingSeenFrom (st : Station) (swept port : Byte) (level : BitVec 16) :
    Kept g s (t.couplingSeenFrom st swept port level) := by
  refine h.fromPeer st ?_
  split
  · exact h.takeCouplingSeen st _ _ _
  · exact h

theorem takeCoordination (kind : Byte) (st : Station) (payload : List Byte) :
    Kept g s (t.takeCoordination kind st payload) := by
  unfold State.takeCoordination
  split
  · exact h.quietAskFrom st _ _
  · exact h.sweepStartFrom st _ _
  · exact h.sweepEndFrom st _
  · exact h.quietEndFrom st _
  · exact h.couplingSeenFrom st _ _ _
  · exact h

/-! ## The survey, holdoffs and the minute -/

theorem restartSurvey : Kept g s t.restartSurvey := h.same rfl rfl

theorem expireSurvey : Kept g s t.expireSurvey := by
  unfold State.expireSurvey
  split
  next p _ =>
    have asked := h.automaticRequest p .survey
    exact restartSurvey (ite (fun _ => asked.same rfl rfl) fun _ => asked)
  next => exact ite (fun _ => h.restartSurvey) fun _ => h.same rfl rfl

theorem expireHoldoff (p : Port) : Kept g s (t.expireHoldoff p) :=
  ite (fun _ => (h.setHoldoff p none).automaticRequest p .linkDown) fun _ => h.setHoldoff p none

theorem advanceMinute : Kept g s t.advanceMinute := by
  unfold State.advanceMinute
  have aged : Kept g s t.ageRecords := by
    rw [State.ageRecords_eq, State.modifyRecords_rest]
    exact h.same rfl rfl
  exact aged.same rfl rfl

/-! ## The events of the taps -/

theorem energyRises (p : Port) : Kept g s (t.energyRises p) := by
  have noted := h.modifyLane p (f := fun l => { l with energy := true }) (fun _ => rfl)
    (fun _ d => ⟨d.active, d.shadow⟩) fun _ => rfl
  exact (((noted.suspendOn p true).listenDrop p).setHoldoff p none).lane LaneKept.sweepWaitTest

theorem energyFalls (p : Port) : Kept g s (t.energyFalls p) := by
  have off := h.modifyLane p (f := fun l => { l with energy := false }) (fun _ => rfl)
    (fun _ d => ⟨d.active, d.shadow⟩) fun _ => rfl
  unfold State.energyFalls
  refine ite (fun negotiate => ?_) fun _ => ite (fun train => ?_) fun _ => off
  · exact off.lane (LaneKept.enterAdvertise (fun _ => Lane.climbing_of_state negotiate (by decide)) false)
  · exact off.failLane (fun _ => train) (by decide) _ _

theorem firstWord {p : Port} {st : LaneState} (state : (t.lane p).state = st) (awake : st ≠ .parked ∧ st ≠ .disabled)
    (offer : GradeSet) (fault : Bool) : Kept g s (t.firstWord p offer fault) := by
  have entered := h.lane (LaneKept.enterNegotiate (s := t) (p := p) fun _ => Lane.climbing_of_state state awake)
  refine ite (fun _ => entered.failLane (st := .negotiate) (fun _ => ?_) (by decide) _ _) fun _ => ?_
  · rw [State.enterNegotiate, State.lane_setLane_same]
    rfl
  · exact entered.modifyLane p (fun _ => rfl) (fun _ d => ⟨d.active, d.shadow⟩) fun _ => rfl

theorem completeNegotiation {p : Port} (state : (t.lane p).state = .negotiate) :
    Kept g s (t.completeNegotiation p) := by
  unfold State.completeNegotiation
  simp only
  split
  · exact h.lane (LaneKept.enterTrain (fun _ => Lane.climbing_of_state state (by decide)) _)
  · exact h.failLane (fun _ => state) (by decide) _ _

theorem nextWord {p : Port} (state : (t.lane p).state = .negotiate) (offer : GradeSet) (ack fault : Bool) :
    Kept g s (t.nextWord p offer ack fault) := by
  have noted : Kept g s (t.setLane p { t.lane p with neg := (t.lane p).neg.word offer ack }) :=
    h.handLane p rfl fun d => ⟨d.active, d.shadow⟩
  refine ite (fun _ => h.failLane (fun _ => state) (by decide) _ _) fun _ =>
    ite (fun _ => noted.lane (LaneKept.laneIssue _)) fun _ => ite (fun _ => noted.completeNegotiation ?_) fun _ => noted
  rw [State.lane_setLane_same]
  exact state

theorem legacyDetected {p : Port} (state : (t.lane p).state = .advertise) : Kept g s (t.legacyDetected p) :=
  ite (fun _ => h.lane (LaneKept.enterTrain (fun _ => Lane.climbing_of_state state (by decide)) _)) fun _ =>
    h.failLane (fun _ => state) (by decide) _ _

theorem loseLink {p : Port} (state : (t.lane p).state = .up) : Kept g s (t.loseLink p) := by
  let u := (t.leaveUp p).modifyLane p fun x => { x with transferOwed := true, grade := none }
  let v := if (t.lane p).active.autoSweep then u.setHoldoff p (some (u.after Config.holdoffMs)) else u
  have dropped : Kept g s u := (h.lane LaneKept.leaveUp).modifyLane p (fun _ => rfl)
    (fun _ d => ⟨d.active, d.shadow⟩) fun _ => rfl
  have ready : Kept g s v := ite (fun _ => dropped.setHoldoff p _) fun _ => dropped
  have stays : (v.lane p).state = .up := by
    have lanes : v.lanes = u.lanes := by
      show (if _ then u.setHoldoff p _ else u).lanes = _
      split <;> rfl
    rw [State.lane_of_lanes lanes]
    simpa [u, State.leaveUp] using state
  have climbs (guard : g) : (v.lane p).ladderSound = true → (v.lane p).Climbing :=
    Lane.climbing_of_state stays (by decide)
  refine ite (fun _ => ready.failLane (fun _ => stays) (by decide) _ _) fun _ =>
    ite (fun _ => ready.lane (LaneKept.enterAdvertise climbs _)) fun _ =>
      (ready.lane (LaneKept.restoreCeiling _)).lane (LaneKept.enterAdvertise (fun _ => Lane.climbing_of_first ?_) _)
  rw [State.lane_modifyLane_same]
  rfl

/-! ## The owners' decisions on a request -/

theorem enableLane (p : Port) : Kept g s (t.enableLane p) :=
  ite (fun _ => h.lane (LaneKept.transferAndRestore_enterAdvertise true)) fun _ => h

theorem disableLane (p : Port) : Kept g s (t.disableLane p) := by
  have quieted {u : State} (k : Kept g s u) : Kept g s (u.modifyLane p Lane.clearQuiet) :=
    k.modifyLane p (fun _ => rfl) (fun _ d => ⟨d.active, d.shadow⟩) fun _ => rfl
  have disabled {u : State} (k : Kept g s u) : Kept g s (if (t.lane p).state = .disabled
      then u.modifyLane p Lane.clearQuiet else (u.modifyLane p Lane.clearQuiet).enterDisabled p) :=
    ite (fun _ => quieted k) fun _ => (quieted k).lane LaneKept.enterDisabled
  have dropped : Kept g s (if (t.lane p).state = .up
      then (t.leaveUp p).modifyLane p fun l => { l with transferOwed := true } else t) :=
    ite (fun _ => (h.lane LaneKept.leaveUp).modifyLane p (fun _ => rfl) (fun _ d => ⟨d.active, d.shadow⟩) fun _ => rfl)
      fun _ => h
  exact disabled dropped

theorem carryOutRetrain (p : Port) : Kept g s (t.carryOutRetrain p) := by
  have dropped : Kept g s (if (t.lane p).state = .up then t.leaveUp p else t) :=
    ite (fun _ => h.lane LaneKept.leaveUp) fun _ => h
  exact dropped.lane (LaneKept.transferAndRestore_enterAdvertise true)

theorem retrainLane (p : Port) : Kept g s (t.retrainLane p).1 := by
  unfold State.retrainLane
  split
  · exact h
  · split
    · exact h
    · exact h.carryOutRetrain p

theorem unparkLane (p : Port) : Kept g s (t.unparkLane p).1 := by
  unfold State.unparkLane
  split
  · exact h.retrainLane p
  · exact h

theorem sweepDecision (p : Port) (mask : PairSet) (depth : Nat) (force : Bool) :
    Kept g s (t.sweepDecision p mask depth force).1 := by
  unfold State.sweepDecision
  simp only
  split
  · exact h
  next some_ =>
    repeat (split; exact h)
    exact h.requestSweep some_ fun _ => Nat.min_le_left 6 depth

theorem cancelDecision (p : Port) : Kept g s (t.cancelDecision p) := by
  unfold State.cancelDecision
  split
  · exact h
  · split
    · have marked : Kept g s (t.modifyEntry p fun y => { y with cancelPending := true }) :=
        h.progress p fun _ => ⟨rfl, rfl, rfl⟩
      exact ite (fun _ => h) fun _ => ite (fun _ => marked.cancelStop _ p) fun _ => marked
    · exact h
    · exact h.removeEntry p _

/-- A lane whose shadow has been written applies it by R43. -/
theorem applyProfile {p : Port} (pending : (t.lane p).shadowPending = true) (now : Bool) :
    Kept g s (t.applyProfile p now) := by
  have inPlace : Kept g s (t.transferInPlace p) := h.lane LaneKept.transferInPlace
  have afresh : Kept g s (t.enterAdvertise p true) := h.lane (LaneKept.enterAdvertise_of fun _ _ => .inr ⟨rfl, pending⟩)
  unfold State.applyProfile
  split
  case h_1 | h_4 => exact inPlace
  case h_2 | h_3 | h_5 | h_7 | h_8 => exact afresh
  case h_6 => exact ite (fun _ => inPlace) fun _ => afresh
  case h_9 =>
    refine ite (fun _ => h) fun _ => (h.lane LaneKept.leaveUp).lane (LaneKept.enterAdvertise_of fun _ _ => .inr ⟨rfl, ?_⟩)
    simpa [State.leaveUp] using pending
  all_goals exact h

end After

end Kept

end Sys2Proof.Machine
end

section
/-! SUPPORT. Every command keeps the ladders and the Sweep Queue: SET_PROFILE, STATION_RESET, the requests, frames and events, and
the resets (R40, R98, R99, R109 to R112). -/

namespace Sys2Proof.Machine

/-! ## SET_PROFILE (R41, R43) -/

/-- The ports of a list without repetition have their lanes changed once; the others keep theirs. -/
theorem State.lane_foldl_modifyLane (f : Lane → Lane) {l : List Port} (nodup : l.Nodup) (s : State) (q : Port) :
    (l.foldl (fun t p => t.modifyLane p f) s).lane q = if q ∈ l then f (s.lane q) else s.lane q := by
  induction l generalizing s with
  | nil => rfl
  | cons p l ih =>
    obtain ⟨fresh, nodup⟩ := List.nodup_cons.1 nodup
    rw [List.foldl_cons, ih nodup]
    by_cases e : q = p
    · subst e; simp [fresh]
    · simp [e, State.lane_modifyLane_ne]

theorem portsOf_nodup (ps : PortSet) : (portsOf ps).Nodup := List.Nodup.filter _ (by decide)

theorem Touches.applyProfile {p : Port} {s : State} (now : Bool) : Touches p s (s.applyProfile p now) := by
  unfold State.applyProfile
  split
  case h_1 | h_4 => exact transferInPlace
  case h_2 | h_3 | h_5 | h_7 | h_8 => exact enterAdvertise true
  case h_6 =>
    split
    · exact transferInPlace
    · exact enterAdvertise true
  case h_9 =>
    split
    · exact refl s
    · exact leaveUp.trans (enterAdvertise true)
  all_goals exact refl s

namespace Kept

variable {g : Prop} {s t : State} (h : Kept g s t)
include h

/-- A written shadow is in range and waits for its transfer (R41 step 4). -/
theorem writeShadow (p : Port) {b : ProfileBytes} (some_ : b.advertised.setWidth 4 ≠ (0 : GradeSet)) :
    Kept g s (t.modifyLane p (·.writeShadow b)) := by
  refine h.lane_op (.setLane (fun _ sound => ?_) (fun d => ⟨d.active, ?_⟩) rfl)
  · obtain ⟨profiled, ceiling, within, left⟩ := Lane.ladderSound_iff.1 sound
    exact Lane.ladderSound_iff.2 ⟨⟨profiled.active, Profile.written_inRange _ some_, .inl rfl⟩, ceiling, within, left⟩
  · exact (clampNat_bounds _ (by decide : 0 ≤ 6)).2

theorem applyProfiles (now : Bool) {l : List Port} (nodup : l.Nodup) (pending : ∀ p ∈ l, (t.lane p).shadowPending = true) :
    Kept g s (l.foldl (fun u p => u.applyProfile p now) t) := by
  induction l generalizing t with
  | nil => exact h
  | cons p l ih =>
    obtain ⟨fresh, nodup⟩ := List.nodup_cons.1 nodup
    refine ih (h.applyProfile (pending p List.mem_cons_self) now) nodup fun q here => ?_
    rw [(Touches.applyProfile now).lane q fun (e : q = p) => fresh (e ▸ here)]
    exact pending q (List.mem_cons_of_mem p here)

theorem profileDecision (b : ProfileBytes) : Kept g s (t.profileDecision b).1 := by
  unfold State.profileDecision
  simp only
  split
  · exact h
  · split
    · exact h
    next some_ =>
      have nodup := portsOf_nodup (b.mask.setWidth 12)
      refine (h.foldl (fun u p => (refl u).writeShadow p some_) _).applyProfiles _ nodup fun p here => ?_
      rw [State.lane_foldl_modifyLane _ nodup, if_pos here]
      rfl

/-! ## The requests (R18 to R30) -/

theorem surveyDecision (interval : Nat) (continuous : Bool) : Kept g s (t.surveyDecision interval continuous).1 :=
  h.trans (ite (fun _ => ofSame rfl rfl) fun _ => ofSame rfl rfl)

theorem withPort {k : RequestKind} {b : Byte} {f : Port → State} (decided : ∀ p, Kept g s (f p)) :
    Kept g s (t.withPort k b f) := by
  unfold State.withPort
  split
  · exact decided _
  · exact h.answer _ _

theorem laneControl (port action : Byte) : Kept g s (t.laneControl port action) := by
  refine h.withPort fun p => ?_
  split
  · exact (h.enableLane p).answer _ _
  · exact (h.disableLane p).answer _ _
  · exact (h.retrainLane p).answer _ _
  · exact (h.unparkLane p).answer _ _
  · exact h.answer _ _

theorem sweepRequest (port mask depth flags : Byte) : Kept g s (t.sweepRequest port mask depth flags) :=
  h.withPort fun p => ite (fun _ => h.answer _ _) fun _ => (h.sweepDecision p _ _ _).answer _ _

theorem cancelRequest (port : Byte) : Kept g s (t.cancelRequest port) :=
  h.withPort fun p => (h.cancelDecision p).answer _ _

theorem profileRequest (b : ProfileBytes) : Kept g s (t.profileRequest b) :=
  ite (fun _ => h.answer _ _) fun _ => ite (fun _ => h.answer _ _) fun _ => (h.profileDecision b).answer _ _

theorem guardRequest (mask : BitVec 16) : Kept g s (t.guardRequest mask) :=
  have guarded : Kept g s { t with guards := mask.setWidth 12 } := h.same rfl rfl
  ite (fun _ => h.answer _ _) fun _ => guarded.answer _ _

theorem surveyRequest (interval mode : Byte) : Kept g s (t.surveyRequest interval mode) :=
  ite (fun _ => h.answer _ _) fun _ => (h.surveyDecision _ _).answer _ _

theorem portQuery (port : Byte) : Kept g s (t.portQuery port) := h.withPort fun _ => h.place _

theorem recordRead (port : Byte) : Kept g s (t.recordRead port) := h.withPort fun _ => h.place _

theorem couplingClear : Kept g s t.couplingClear :=
  have emptied : Kept g s { t with coupling := [] } := h.same rfl rfl
  emptied.answer _ _

/-! ## STATION_RESET (R30) -/

theorem resetSweeps : Kept g s t.resetSweeps := by
  have lane (p : Port) : t.resetSweeps.lane p = { (t.lane p).closeCapture with holder := .lane } := by
    simp [State.lane, State.resetSweeps]
  refine h.trans ⟨fun _ p k => ?_, fun k => ⟨Nat.zero_le 6, List.nodup_nil, nofun, fun p => ?_⟩⟩ <;> rw [lane]
  · exact k
  · exact ⟨(k.depths p).active, (k.depths p).shadow⟩

theorem resetSurvey : Kept g s t.resetSurvey :=
  h.trans (ite (fun _ => ofSame rfl rfl) fun _ => ofSame rfl rfl)

theorem resetLane (p : Port) : Kept g s (t.resetLane p) := by
  have cleared : Kept g s (t.modifyLane p Lane.clearForReset) :=
    h.modifyLane p (fun _ => rfl) (fun _ d => ⟨d.active, d.shadow⟩) fun _ => rfl
  refine ite (fun _ => ?_) fun _ => ?_
  · exact (cleared.lane LaneKept.transferAndRestore).lane LaneKept.laneCommand
  · exact cleared.lane (LaneKept.transferAndRestore_enterAdvertise true)

theorem stationReset : Kept g s t.stationReset := by
  have lanes := h.resetSweeps.resetSurvey.foldl (fun u p => (refl u).resetLane p) t.resetSweeps.resetSurvey.presentPorts
  exact (lanes.same rfl rfl : Kept g s (State.resetLine _)).answer _ _

/-! ## Requests and frames handed on (R8, R9) -/

theorem takeRequest {f : State → State} (decided : Kept g s (f t)) : Kept g s (t.takeRequest f) :=
  ite (fun _ => h.same rfl rfl) fun _ => ite (fun _ => h.same rfl rfl) fun _ => decided

theorem decideRequest {k : RequestKind} {payload : List Byte} {f : State → State}
    (decided : Machine.decideRequest k payload = some f) : Kept g s (f t) := by
  cases k with
  | stationReset => match payload, decided with | [], rfl => exact h.stationReset
  | laneControl => match payload, decided with | [_, _], rfl => exact h.laneControl _ _
  | sweep => match payload, decided with | [_, _, _, _], rfl => exact h.sweepRequest _ _ _ _
  | cancelSweep => match payload, decided with | [_], rfl => exact h.cancelRequest _
  | setProfile =>
    match payload, decided with
    | [_, _, _, _, _, _, _, _, _, _, _, _, _], rfl => exact h.profileRequest _
  | setGuard => match payload, decided with | [_, _], rfl => exact h.guardRequest _
  | setSurvey => match payload, decided with | [_, _], rfl => exact h.surveyRequest _ _
  | queryStation => match payload, decided with | [], rfl => exact h.place _
  | queryPort => match payload, decided with | [_], rfl => exact h.portQuery _
  | readRecord => match payload, decided with | [_], rfl => exact h.recordRead _
  | readCoupling => match payload, decided with | [_], rfl => exact h.place _
  | clearCoupling => match payload, decided with | [], rfl => exact h.couplingClear

theorem accept (kind : Byte) (originator target : Station) (payload : List Byte) :
    Kept g s (t.accept kind originator target payload) := by
  rcases t.accept_cases kind originator target payload with e | e | e | ⟨k, f, -, decided, e⟩ | e <;> rw [e]
  · exact h
  · exact h.same rfl rfl
  · exact h.same rfl rfl
  · exact h.takeRequest (h.decideRequest decided)
  · exact h.takeCoordination _ _ _

theorem takeFrame (kind header : Byte) (payload : List Byte) (check : Byte) :
    Kept g s (t.takeFrame kind header payload check) := by
  have after : Kept g s { t with rx := .afterFrame } := h.same rfl rfl
  exact ite (fun _ => h.same rfl rfl) fun _ => ite (fun _ => after.accept _ _ _ _) fun _ => after.same rfl rfl

/-! ## The transmitter, and the end of a command -/

theorem transmitChoice : Kept g s t.transmitChoice := by
  obtain ⟨_, _, _, _, opens⟩ := t.transmitChoice_rest
  rw [opens]
  exact h.same rfl rfl

theorem settle : Kept g s t.settle := h.startChoice.transmitChoice

theorem leaveQueue (place : TxPlace) : Kept g s (t.leaveQueue place) := by
  cases place with
  | coordination => exact h.same rfl rfl
  | reply =>
    cases list : t.replyList with
    | nil => rw [State.leaveQueue_reply_nil list]; exact h
    | cons r rest => rw [State.leaveQueue_reply_cons list]; exact h.same rfl rfl
  | stationNotice r => exact ite (fun _ => h.same rfl rfl) fun _ => h
  | portNotice p carried => exact h.same rfl rfl

theorem sent (f : TxFrame) : Kept g s (t.sent f) := (h.leaveQueue f.place).same rfl rfl

theorem collide (f : TxFrame) : Kept g s (t.collide f) := by
  have stopped : Kept g s t.collided := h.same rfl rfl
  rcases Nat.lt_or_ge (t.collisionRun + 1) 8 with few | eighth
  · rw [State.collide_few few]
    exact stopped
  · rw [State.collide_eighth eighth]
    exact (stopped.leaveQueue f.place).same rfl rfl

end Kept

/-! ## The forms of a command -/

/-- Where the outcome is a state, it keeps the ladders and the queue of s. -/
def KeptTo (g : Prop) (s : State) (o : Host.Outcome State Fault Refusal) : Prop := ∀ t, o = .next t → Kept g s t

namespace KeptTo

variable {g : Prop} {s : State}

theorem perform {f : State → State} (h : Kept g s (f s)) : KeptTo g s (s.perform f) := by
  intro t ht
  unfold State.perform at ht
  split at ht <;> cases ht
  · exact .refl s
  · exact h.settle

theorem tapEvent {p : Port} {f : State → State} (h : Kept g s (f s)) : KeptTo g s (s.tapEvent p f) :=
  perform (.ite (fun _ => h) fun _ => .refl s)

theorem request {f : State → State} (h : Kept g s (f s)) : KeptTo g s (s.perform fun t => t.takeRequest f) :=
  perform ((Kept.refl s).takeRequest h)

/-- A command after which the ladders and the queue are sound whatever they were. -/
theorem fresh {t : State} (ladder : ∀ p, (t.lane p).ladderSound = true) (queue : t.QueueSound) :
    KeptTo g s (.next t) := by
  rintro _ ⟨⟩
  exact ⟨fun _ p _ => ladder p, fun _ => queue⟩

end KeptTo

/-! ## The resets (R35, R36) -/

theorem State.powerOnValues_lane (s : State) (station : Station) (twelve aut : Bool) (p : Port) :
    (s.powerOnValues station twelve aut).lane p = Lane.powerOn := by
  simp [State.lane, State.powerOnValues]

theorem Lane.powerOn_ladderSound : Lane.powerOn.ladderSound = true := by decide

theorem State.powerOnValues_queueSound (s : State) (station : Station) (twelve aut : Bool) :
    (s.powerOnValues station twelve aut).QueueSound := by
  refine ⟨Nat.zero_le 6, List.nodup_nil, nofun, fun p => ?_⟩
  rw [State.powerOnValues_lane]
  exact ⟨by decide, by decide⟩

theorem execResetAssert_kept {g : Prop} {s : State} : KeptTo g s (execResetAssert s) := by
  have lane (p : Port) : ({ s.powerOnValues s.station s.twelvePorts s.autostart with
      ms := s.ms, minutes := s.minutes, minuteMark := s.minuteMark, inReset := true } : State).lane p = Lane.powerOn :=
    s.powerOnValues_lane s.station s.twelvePorts s.autostart p
  refine KeptTo.fresh (fun p => ?_) ⟨Nat.zero_le 6, List.nodup_nil, nofun, fun p => ?_⟩ <;> rw [lane]
  · exact Lane.powerOn_ladderSound
  · exact ⟨by decide, by decide⟩

theorem execResetRelease_kept {g : Prop} {s : State} {sta : BitVec 3} {pcs aut : Bool} :
    KeptTo g s (execResetRelease sta pcs aut s) := by
  let u := s.powerOnValues (strapStation sta) pcs aut
  have begun : Kept True u u.beginCalibration :=
    (((Kept.refl u).same rfl rfl : Kept True u { u with calList := u.presentPorts }).takeCalibration 0).takeCalibration 1
  refine KeptTo.fresh (fun p => begun.ladder trivial p ?_) (begun.queue (s.powerOnValues_queueSound _ _ _))
  rw [State.powerOnValues_lane]
  exact Lane.powerOn_ladderSound

/-! ## The expiries of lane timers -/

/-- A sound lane's timer is that of its state (R91). -/
theorem Lane.state_of_timer {l : Lane} (sound : l.stateSound = true) {k : LaneTimer} {due : Ms}
    (runs : l.timer = some (k, due)) : l.state = timerState k := by
  simp only [Lane.stateSound, runs, Bool.and_eq_true, decide_eq_true_eq] at sound
  obtain ⟨⟨⟨⟨⟨⟨⟨⟨state, -⟩, -⟩, -⟩, -⟩, -⟩, -⟩, -⟩, -⟩ := sound
  exact state

theorem State.state_of_laneTimerDue {s : State} {p : Port} {k : LaneTimer} (due : s.laneTimerDue p k = true)
    (sound : ∀ p, (s.lane p).stateSound = true) : (s.lane p).state = timerState k :=
  Lane.state_of_timer (sound p) (of_decide_eq_true due)

section Commands

variable {s : State}

theorem execNegWindowExpiry_kept {p : Port} :
    KeptTo (∀ p, (s.lane p).stateSound = true) s (execNegWindowExpiry p s) :=
  KeptTo.tapEvent (.ite (fun due => (Kept.refl s).failLane (State.state_of_laneTimerDue due) (by decide) _ _)
    fun _ => .refl s)

theorem execTrainWindowExpiry_kept {p : Port} :
    KeptTo (∀ p, (s.lane p).stateSound = true) s (execTrainWindowExpiry p s) :=
  KeptTo.tapEvent (.ite (fun due => (Kept.refl s).failLane (State.state_of_laneTimerDue due) (by decide) _ _)
    fun _ => .refl s)

theorem execBackoffExpiry_kept {p : Port} :
    KeptTo (∀ p, (s.lane p).stateSound = true) s (execBackoffExpiry p s) :=
  KeptTo.tapEvent (.ite (fun due => (Kept.refl s).lane (LaneKept.enterAdvertise
    (fun sound => Lane.climbing_of_state (State.state_of_laneTimerDue due sound) (by decide)) false)) fun _ => .refl s)

/-! ## The events of taps, engines and the line -/

variable {g : Prop}

theorem execBurst_kept {p : Port} {offer : GradeSet} {ack fault : Bool} : KeptTo g s (execBurst p offer ack fault s) := by
  refine KeptTo.tapEvent ?_
  split
  next state => exact (Kept.refl s).firstWord state (by decide) offer fault
  next state => exact (Kept.refl s).nextWord state offer ack fault
  all_goals exact .refl s

theorem execPlainPulse_kept {p : Port} : KeptTo g s (execPlainPulse p s) := by
  have cleared : Kept g s (s.setLane p { s.lane p with pulseCount := 0, lastPulse := none }) :=
    (Kept.refl s).handLane p rfl fun d => ⟨d.active, d.shadow⟩
  refine KeptTo.tapEvent (.ite (fun state => .ite (fun _ => cleared.legacyDetected ?_) fun _ => ?_) fun _ => .refl s)
  · rw [State.lane_setLane_same]
    exact state
  · exact (Kept.refl s).handLane p rfl fun d => ⟨d.active, d.shadow⟩

theorem execTrainProgress_kept {p : Port} {stage : TrainStage} : KeptTo g s (execTrainProgress p stage s) :=
  KeptTo.tapEvent (.ite (fun locked => (Kept.refl s).enterUp locked.1 (by decide)) fun _ => .refl s)

theorem execTrainFault_kept {p : Port} {kind : TrainFaultKind} {q : Pair} : KeptTo g s (execTrainFault p kind q s) := by
  refine KeptTo.tapEvent ?_
  split
  next state _ => exact .ite (fun _ => (Kept.refl s).failLane (fun _ => state) (by decide) _ _) fun _ => .refl s
  next => exact .refl s

theorem execPowerDetectBegin_kept {p : Port} : KeptTo g s (execPowerDetectBegin p s) := by
  have noted : Kept g s (s.modifyLane p fun l => { l with power := true }) :=
    (Kept.refl s).modifyLane p (fun _ => rfl) (fun _ d => ⟨d.active, d.shadow⟩) fun _ => rfl
  exact KeptTo.tapEvent (.ite (fun _ => .refl s) fun _ => (noted.addReason p .power).suspendOn p false)

theorem execPowerDetectEnd_kept {p : Port} : KeptTo g s (execPowerDetectEnd p s) := by
  have noted : Kept g s (s.modifyLane p fun l => { l with power := false }) :=
    (Kept.refl s).modifyLane p (fun _ => rfl) (fun _ d => ⟨d.active, d.shadow⟩) fun _ => rfl
  exact KeptTo.tapEvent (.ite (fun _ => noted.dropReason p .power) fun _ => .refl s)

theorem execCaptureDone_kept {p : Port} {tag : Byte} {data : Capture} : KeptTo g s (execCaptureDone p tag data s) := by
  have ignored : KeptTo g s (s.perform id) := KeptTo.perform (.refl s)
  unfold execCaptureDone
  split
  next => exact ignored
  next =>
    split
    next => exact ignored
    next e _ =>
      split
      case h_1 => exact KeptTo.perform ((Kept.refl s).shotCompleted e p _)
      case h_2 => exact KeptTo.perform ((Kept.refl s).calShotCompleted e p _)
      case h_3 => exact KeptTo.perform ((Kept.refl s).foldBlock e p _)
      case h_10 | h_11 | h_12 => exact ignored
      all_goals exact fun _ stopped => nomatch stopped

theorem execPreparePass_kept {e : EngineId} : KeptTo g s (execPreparePass e s) := by
  refine KeptTo.perform (.ite (fun _ => ?_) fun _ => .refl s)
  split
  · exact (Kept.refl s).preparePass e _
  · exact .refl s

theorem execSettleExpiry_kept {e : EngineId} : KeptTo g s (execSettleExpiry e s) := by
  refine KeptTo.perform (.ite (fun _ => ?_) fun _ => .refl s)
  split
  · exact (Kept.refl s).settled e _
  · exact (Kept.refl s).modifyEngine e _

theorem execAnalysisEnd_kept {e : EngineId} : KeptTo g s (execAnalysisEnd e s) := by
  have stopped := (Kept.refl (g := g) s).modifyEngine e Engine.stopTimer
  refine KeptTo.perform (.ite (fun _ => ?_) fun _ => .refl s)
  simp only
  split
  · exact stopped.endAnalysis e _ _
  · exact stopped

theorem execEnergyOn_kept {p : Port} : KeptTo g s (execEnergyOn p s) :=
  KeptTo.tapEvent (.ite (fun _ => .refl s) fun _ => (Kept.refl s).energyRises p)

theorem execEnergyOff_kept {p : Port} : KeptTo g s (execEnergyOff p s) :=
  KeptTo.tapEvent (.ite (fun _ => (Kept.refl s).energyFalls p) fun _ => .refl s)

theorem execLinkLost_kept {p : Port} : KeptTo g s (execLinkLost p s) :=
  KeptTo.tapEvent (.ite (fun up => (Kept.refl s).loseLink up) fun _ => .refl s)

theorem execCaptureTimeout_kept {p : Port} : KeptTo g s (execCaptureTimeout p s) :=
  KeptTo.tapEvent (.ite (fun _ => (Kept.refl s).shotFailed p) fun _ => .refl s)

theorem execQuietRecordExpiry_kept {p q : Port} {st : Station} : KeptTo g s (execQuietRecordExpiry p st q s) :=
  KeptTo.tapEvent (.ite (fun _ => (Kept.refl s).quietEndLane p st q) fun _ => .refl s)

theorem execHoldoffExpiry_kept {p : Port} : KeptTo g s (execHoldoffExpiry p s) :=
  KeptTo.tapEvent (.ite (fun _ => (Kept.refl s).expireHoldoff p) fun _ => .refl s)

theorem execMinuteAdvance_kept : KeptTo g s (execMinuteAdvance s) :=
  KeptTo.perform (.ite (fun _ => (Kept.refl s).advanceMinute) fun _ => .refl s)

theorem execSurveyExpiry_kept : KeptTo g s (execSurveyExpiry s) :=
  KeptTo.perform (.ite (fun _ => (Kept.refl s).expireSurvey) fun _ => .refl s)

theorem execListenJobEnd_kept {e : EngineId} : KeptTo g s (execListenJobEnd e s) :=
  KeptTo.perform (.ite (fun _ => (Kept.refl s).endListenJob e) fun _ => .refl s)

theorem execRetryWaitExpiry_kept {e : EngineId} : KeptTo g s (execRetryWaitExpiry e s) :=
  KeptTo.perform (.ite (fun _ => (Kept.refl s).modifyEngine e _) fun _ => .refl s)

theorem execCalibrationResult_kept {e : EngineId} : KeptTo g s (execCalibrationResult e s) :=
  KeptTo.perform (.ite (fun _ => .ite (fun _ => (((Kept.refl s).finishCalibration 0).finishCalibration 1).startupEnd)
    fun _ => ((Kept.refl s).finishCalibration e).startupEnd) fun _ => .refl s)

theorem execFrameReceived_kept {kind header : Byte} {payload : List Byte} {check : Byte} :
    KeptTo g s (execFrameReceived kind header payload check s) :=
  KeptTo.perform (.ite (fun _ => (Kept.refl s).takeFrame _ _ _ _) fun _ => .refl s)

theorem execFrameBreak_kept : KeptTo g s (execFrameBreak s) :=
  KeptTo.perform (.ite (fun _ => .ofSame rfl rfl) fun _ => .refl s)

theorem execFrameLengthOverflow_kept {len : Byte} : KeptTo g s (execFrameLengthOverflow len s) :=
  KeptTo.perform (.ite (fun _ => .ofSame rfl rfl) fun _ => .refl s)

theorem execTrailingCell_kept : KeptTo g s (execTrailingCell s) :=
  KeptTo.perform (.ite (fun _ => .ofSame rfl rfl) fun _ => .refl s)

theorem execLineIdle_kept : KeptTo g s (execLineIdle s) :=
  KeptTo.perform (.ite (fun _ => .ofSame rfl rfl) fun _ => .refl s)

theorem execNewFrame_kept : KeptTo g s (execNewFrame s) :=
  KeptTo.perform (.ite (fun _ => .ofSame rfl rfl) fun _ => .refl s)

theorem execArbitrationLost_kept : KeptTo g s (execArbitrationLost s) :=
  KeptTo.perform (.ite (fun _ => .ofSame rfl rfl) fun _ => .refl s)

theorem execQuietAsk_kept {st : Station} {port units : Byte} : KeptTo g s (execQuietAsk st port units s) :=
  KeptTo.perform ((Kept.refl s).quietAskFrom st port units)

theorem execQuietEnd_kept {st : Station} {port : Byte} : KeptTo g s (execQuietEnd st port s) :=
  KeptTo.perform ((Kept.refl s).quietEndFrom st port)

theorem execSweepStart_kept {st : Station} {port units : Byte} (mask : Byte) :
    KeptTo g s (execSweepStart st port mask units s) :=
  KeptTo.perform ((Kept.refl s).sweepStartFrom st port units)

theorem execSweepEnd_kept {st : Station} {port : Byte} : KeptTo g s (execSweepEnd st port s) :=
  KeptTo.perform ((Kept.refl s).sweepEndFrom st port)

theorem execCouplingSeen_kept {st : Station} {swept port : Byte} {level : BitVec 16} :
    KeptTo g s (execCouplingSeen st swept port level s) :=
  KeptTo.perform ((Kept.refl s).couplingSeenFrom st swept port level)

theorem execCollisionError_kept : KeptTo g s (execCollisionError s) := by
  refine KeptTo.perform ?_
  split
  · exact (Kept.refl s).collide _
  · exact .refl s

theorem execFrameSent_kept : KeptTo g s (execFrameSent s) := by
  refine KeptTo.perform ?_
  split
  · exact (Kept.refl s).sent _
  · exact .refl s

end Commands

/-! ## Every command -/

/-- Every command keeps the ladders, where each lane's timer is that of its state, and the Sweep Queue. -/
theorem exec_kept (c : Instr) (s : State) : KeptTo (∀ p, (s.lane p).stateSound = true) s (exec c s) := by
  have start : Kept (∀ p, (s.lane p).stateSound = true) s s := .refl s
  cases c with
  | resetAssert => exact execResetAssert_kept
  | resetRelease => exact execResetRelease_kept
  | minuteAdvance => exact execMinuteAdvance_kept
  | frameReceived => exact execFrameReceived_kept
  | frameBreak => exact execFrameBreak_kept
  | frameLengthOverflow => exact execFrameLengthOverflow_kept
  | trailingCell => exact execTrailingCell_kept
  | lineIdle => exact execLineIdle_kept
  | newFrame => exact execNewFrame_kept
  | arbitrationLost => exact execArbitrationLost_kept
  | collisionError => exact execCollisionError_kept
  | frameSent => exact execFrameSent_kept
  | stationReset => exact .request start.stationReset
  | enable | disable | retrain | unpark => exact .request (start.laneControl _ _)
  | sweep => exact .request (start.sweepRequest _ _ _ _)
  | cancelSweep => exact .request (start.cancelRequest _)
  | setProfile => exact .request (start.profileRequest _)
  | setGuard => exact .request (start.guardRequest _)
  | setSurvey => exact .request (start.surveyRequest _ _)
  | queryStation | readCoupling => exact .request (start.place _)
  | queryPort => exact .request (start.portQuery _)
  | readRecord => exact .request (start.recordRead _)
  | clearCoupling => exact .request start.couplingClear
  | quietAsk => exact execQuietAsk_kept
  | quietEnd => exact execQuietEnd_kept
  | sweepStart _ _ mask => exact execSweepStart_kept mask
  | sweepEnd => exact execSweepEnd_kept
  | couplingSeen => exact execCouplingSeen_kept
  | energyOn => exact execEnergyOn_kept
  | energyOff => exact execEnergyOff_kept
  | burst => exact execBurst_kept
  | plainPulse => exact execPlainPulse_kept
  | trainProgress => exact execTrainProgress_kept
  | trainFault => exact execTrainFault_kept
  | linkLost => exact execLinkLost_kept
  | powerDetectBegin => exact execPowerDetectBegin_kept
  | powerDetectEnd => exact execPowerDetectEnd_kept
  | captureDone => exact execCaptureDone_kept
  | captureTimeout => exact execCaptureTimeout_kept
  | calibrationResult => exact execCalibrationResult_kept
  | negWindowExpiry => exact execNegWindowExpiry_kept
  | trainWindowExpiry => exact execTrainWindowExpiry_kept
  | backoffExpiry => exact execBackoffExpiry_kept
  | quietRecordExpiry => exact execQuietRecordExpiry_kept
  | settleExpiry => exact execSettleExpiry_kept
  | retryWaitExpiry => exact execRetryWaitExpiry_kept
  | preparePass => exact execPreparePass_kept
  | analysisEnd => exact execAnalysisEnd_kept
  | listenJobEnd => exact execListenJobEnd_kept
  | holdoffExpiry => exact execHoldoffExpiry_kept
  | surveyExpiry => exact execSurveyExpiry_kept

/-- What the step runs: a command, on the state with its queue or its count of free choices moved on; or a millisecond; or
nothing (R1, logs 1 and 3). -/
theorem step_cases {s t : State} (h : step s = .next t) :
    (∃ c pending free, exec c { s with pending := pending, freeCount := free } = .next t) ∨ t = s ∨ t = s.tick := by
  unfold step at h
  split at h
  next c rest _ => exact .inl ⟨c, rest, s.freeCount, h⟩
  next =>
    unfold idleStep at h
    split at h
    next => cases h; exact .inr (.inl rfl)
    next =>
      split at h
      next => cases h; exact .inr (.inr rfl)
      next c _ => exact .inl ⟨c, s.pending, s.freeCount, h⟩
      next c _ => exact .inl ⟨c, s.pending, s.freeCount + 1, h⟩

theorem step_kept {s t : State} (h : step s = .next t) : Kept (∀ p, (s.lane p).stateSound = true) s t := by
  rcases step_cases h with ⟨c, pending, free, ran⟩ | rfl | rfl
  · exact ⟨(exec_kept c _ t ran).ladder, fun k => (exec_kept c _ t ran).queue (k.of_same rfl fun _ d => d)⟩
  · exact .refl _
  · exact .ofSame rfl rfl

end Sys2Proof.Machine
end

section
/-! The statements on what every step keeps of profiles, attempts, ceiling and the Sweep Queue. -/

open Sys2Proof Sys2Proof.Machine

/-- Settles O10: every operation keeps each lane's ladder (`Kept`); only the expiry of a lane timer asks that the timer be that
of the lane's state. -/
theorem stepKeepsLadder : Obligations.StepKeepsLadder := by
  intro s t state ladder next
  rw [State.allLanes_iff] at state ladder ⊢
  exact fun p => (step_kept next).ladder state p (ladder p)

/-- Settles O14: a request takes a place only where no entry has its port and the queue holds fewer than 6; every other
operation removes entries or changes them in their places. -/
theorem stepKeepsQueue : Obligations.StepKeepsQueue := by
  intro s t queue next
  rw [State.queueSound_iff] at queue ⊢
  exact (step_kept next).queue queue

end

section
/-! SUPPORT. The reset pin (R35 to R37): the start of the calibrations, and what a part held in reset and an absent port
ignore. -/

namespace Sys2Proof.Machine

/-! ## The start of the calibrations -/

/-- From the power-on values both engines take the first two present ports; the strap says which ports wait. -/
theorem State.beginCalibration_powerOnValues (s : State) (station : Station) (twelve autostart : Bool) :
    (s.powerOnValues station twelve autostart).beginCalibration = { State.reset with
      station := station, twelvePorts := twelve, autostart := autostart
      calList := if twelve then [2, 3, 4, 5, 6, 7, 8, 9, 10, 11] else [2, 3, 4, 5, 6, 7]
      freeCount := s.freeCount, pending := s.pending } := by
  cases twelve <;> rfl

theorem State.powerOnValues_engine (s : State) (station : Station) (twelve autostart : Bool) (e : EngineId) :
    (s.powerOnValues station twelve autostart).engine e = Engine.idle := by
  fin_cases e <;> rfl

theorem State.powerOnValues_port (s : State) (station : Station) (twelve autostart : Bool) (p : Port) :
    let t := s.powerOnValues station twelve autostart
    t.lane p = Lane.powerOn ∧ t.flagsOf p = 0 ∧ t.record p = CableRecord.neverTested ∧ t.holdoff p = none := by
  fin_cases p <;> exact ⟨rfl, rfl, rfl, rfl⟩

/-! ## A part held in reset, and absent ports -/

theorem execCaptureDone_untaken {s : State} {p : Port} (tag : Byte) (data : Capture)
    (h : s.inReset = true ∨ s.present p = false) : execCaptureDone p tag data s = s.perform id :=
  if_pos (h.imp_right .inl)

/-- While RSTN is low every command but the two of the reset pin leaves the part as it is (R35, log 6). -/
theorem exec_inReset {c : Instr} {s : State} (low : s.inReset = true) (assert : c ≠ .resetAssert)
    (release : ∀ a b d, c ≠ .resetRelease a b d) : exec c s = .next s := by
  cases c <;> rw [exec]
  case resetAssert => exact absurd rfl assert
  case resetRelease sta pcs aut => exact absurd rfl (release sta pcs aut)
  case captureDone p tag data => exact (execCaptureDone_untaken tag data (.inl low)).trans (State.perform_inReset _ low)
  all_goals exact State.perform_inReset _ low

/-- A row on the tap or the timers of an absent port is ignored (R35). -/
theorem exec_absent {c : Instr} {p : Port} {s : State} (up : s.inReset = false) (port : tapPortOf c = some p)
    (absent : s.present p = false) : exec c s = .next s.settle := by
  cases c <;> cases port <;> rw [exec]
  case captureDone tag data => exact (execCaptureDone_untaken tag data (.inr absent)).trans (State.perform_taken _ up)
  all_goals exact State.tapEvent_absent _ up absent

end Sys2Proof.Machine
end

section
/-! The statements on the reset pin. -/

open Sys2Proof Sys2Proof.Machine

/-- Settles O4: RESET_RELEASE by the values the first two calibrations start from, a part held in reset and an absent port by
the cases of the commands. -/
theorem resetPin : Obligations.ResetPin := by
  refine ⟨fun sta pcs aut s => ?_, fun s => ?_, fun c s => exec_inReset, fun c p s => exec_absent⟩
  · exact congrArg Host.Outcome.next (s.beginCalibration_powerOnValues (strapStation sta) pcs aut)
  · exact ⟨_, rfl, rfl, rfl, rfl, rfl, rfl, rfl, rfl, rfl, rfl, s.powerOnValues_engine s.station s.twelvePorts s.autostart,
      s.powerOnValues_port s.station s.twelvePorts s.autostart, rfl⟩

end

section
/-! SUPPORT. The captures (R51, R121, R133, R38, R170): what follows a shot, a calibration shot and a listen block, by what the
engine has counted. -/

namespace Sys2Proof.Machine

theorem State.setEngine_setEngine (s : State) (e : EngineId) (g h : Engine) :
    (s.setEngine e g).setEngine e h = s.setEngine e h := by
  simp [State.setEngine]

theorem State.setEngine_modifyEngine (s : State) (e : EngineId) (g : Engine) (f : Engine → Engine) :
    (s.setEngine e g).modifyEngine e f = s.setEngine e (f g) := by
  simp [State.modifyEngine, State.setEngine_setEngine]

/-- The shot or calibration shot of an engine, as the statements write it (R46, R49, R51). -/
theorem State.shootPort_eq_fires (s : State) (e : EngineId) (p : Port) (c : Byte → TapCommand) :
    s.shootPort e p c = s.fires e p c := rfl

/-- The state whose lane of port p has closed its capture (R49). -/
def State.closesCapture (s : State) (p : Port) : State := s.modifyLane p Lane.closeCapture

/-! ## After a shot (R121) -/

section AfterShot

variable {s : State} {e : EngineId} {p : Port} {q : Pair} {depth : Nat} {g : Engine}

theorem State.afterShot_fires (few : g.failedRun < 3) (more : g.issued < 2 ^ depth) :
    (s.setEngine e g).afterShot e p q depth =
      (s.setEngine e { g with issued := g.issued + 1 }).fires e p (.shoot q) := by
  simp only [State.afterShot, State.engine_setEngine_same, if_neg (Nat.not_le.2 few), if_pos more, State.fireShot,
    State.setEngine_modifyEngine, State.shootPort_eq_fires]

theorem State.afterShot_analyses (few : g.failedRun < 3) (last : 2 ^ depth ≤ g.issued) (some_ : g.completed ≠ 0) :
    (s.setEngine e g).afterShot e p q depth =
      s.setEngine e { g with state := .analysing, timer := some (.analysis, s.ms + 2) } := by
  simp only [State.afterShot, State.engine_setEngine_same, if_neg (Nat.not_le.2 few), if_neg (Nat.not_lt.2 last),
    if_neg some_, State.setEngine_modifyEngine]
  rfl

theorem State.afterShot_untestable (failed : 3 ≤ g.failedRun ∨ 2 ^ depth ≤ g.issued ∧ g.completed = 0) :
    (s.setEngine e g).afterShot e p q depth = (s.setEngine e g).writePair e p q (untestedResult (g.capture q)) := by
  simp only [State.afterShot, State.engine_setEngine_same]
  by_cases three : 3 ≤ g.failedRun
  · rw [if_pos three]
  · obtain ⟨last, none_⟩ := failed.resolve_left three
    rw [if_neg three, if_neg (Nat.not_lt.2 last), if_pos none_]

end AfterShot

/-! ## After a calibration shot (R38) -/

section AfterCalShot

variable {s : State} {e : EngineId} {g : Engine} {w : CalWork}

theorem State.afterCalShot_fires (cal : g.cal = some w) (more : w.issued < 16) :
    (s.setEngine e g).afterCalShot e =
      (s.setEngine e { g with cal := some { w with issued := w.issued + 1 } }).fires e w.port .calShoot := by
  simp only [State.afterCalShot, State.engine_setEngine_same, cal]
  rw [if_pos (show w.issued < Config.calShots from more), State.fireCal, State.setEngine_modifyEngine, State.shootPort_eq_fires, cal]
  rfl

theorem State.afterCalShot_computes (cal : g.cal = some w) (last : 16 ≤ w.issued) :
    (s.setEngine e g).afterCalShot e = s.setEngine e { g with timer := some (.calibration, s.ms + 2) } := by
  simp only [State.afterCalShot, State.engine_setEngine_same, cal]
  rw [if_neg (show ¬w.issued < Config.calShots from Nat.not_lt.2 last), State.setEngine_modifyEngine, ← cal]
  rfl

end AfterCalShot

/-! ## CAPTURE_DONE (R51) -/

theorem Engine.accumulate_eq (g : Engine) (q : Pair) (b : Four ShotBlock) : g.accumulate q b =
    let add (sums : List Int) (w : Vector Sample 512) : List Int := List.zipWith (· + ·) sums (w.toList.map BitVec.toInt)
    let own := atPair b q
    { g with
      sums := ⟨add g.sums.a b.a.window, add g.sums.b b.b.window, add g.sums.c b.c.window, add g.sums.d b.d.window⟩
      floors := g.floors ++ [(own.pre.toList.map fun v => v.toInt.natAbs).foldl max 0]
      clipped := g.clipped || (own.window.toList.drop 16).any fun v => decide (v.toInt = -2048 ∨ v.toInt = 2047)
      completed := g.completed + 1, failedRun := 0 } := by
  simp [Engine.accumulate, shotFloor, largestMagnitude, sampleInts, windowClips, List.foldl_map, List.any_map, addSamples,
    atPair, ← List.map_drop, Function.comp_def]

theorem State.shotCompleted_eq {s : State} {e : EngineId} {p : Port} {q : Pair} {x : Entry} (b : Four ShotBlock)
    (current : (s.engine e).current = some q) (entry : s.entryOf p = some x) :
    s.shotCompleted e p b =
      ((s.closesCapture p).setEngine e ((s.engine e).accumulate q b)).afterShot e p q x.depth := by
  simp only [State.shotCompleted, current, entry]
  rfl

theorem State.calShotCompleted_eq {s : State} {e : EngineId} {p : Port} {w : CalWork} (b : ShotBlock)
    (cal : (s.engine e).cal = some w) :
    s.calShotCompleted e p b = ((s.closesCapture p).setEngine e { s.engine e with cal := some { w with
      completed := w.completed + 1
      sums := List.zipWith (· + ·) w.sums (b.window.toList.map BitVec.toInt) } }).afterCalShot e := by
  change ((s.closesCapture p).setEngine e ((s.engine e).accumulateCal b)).afterCalShot e = _
  simp only [Engine.accumulateCal, cal, Option.map_some, addSamples, sampleInts]

theorem State.foldBlock_eq {s : State} {e : EngineId} {p : Port} {j : ListenJob} (b : Four (Vector Sample 512))
    (job : (s.engine e).job = some j) :
    s.foldBlock e p b = s.setEngine e { s.engine e with job := some { j with
      members := j.members.map fun m =>
        if m.port = p then { m with reading := max m.reading (blockLevel (pulseCode j.station) b) } else m } } := by
  simp only [State.foldBlock, State.modifyEngine, job, Option.map_some]

section Done

variable {s : State} {p : Port} {tag : Byte} {e : EngineId}

theorem execCaptureDone_ignored {data : Capture} (hears : s.hears p = true)
    (h : (s.lane p).outstanding ≠ some tag ∨ (s.lane p).holder = .lane) :
    execCaptureDone p tag data s = .next s.settle := by
  obtain ⟨up, present⟩ : s.inReset = false ∧ s.present p = true := by simpa [State.hears] using hears
  have untaken : execCaptureDone p tag data s = s.perform id := by
    rcases h with other | lane
    · exact if_pos (.inr (.inr other))
    · simp only [execCaptureDone, lane, ite_self]
  exact untaken.trans (State.perform_taken _ up)

/-- The capture of an engine that waits for it goes to the engine. -/
theorem execCaptureDone_engine {data : Capture} (hears : s.hears p = true) (out : (s.lane p).outstanding = some tag)
    (holder : (s.lane p).holder = .engine e) : execCaptureDone p tag data s =
      match (s.engine e).state, data with
      | .shooting, .shoot blocks => .next (s.shotCompleted e p blocks).settle
      | .calibrating, .cal block => .next (s.calShotCompleted e p block).settle
      | .listening, .listen blocks => .next (s.foldBlock e p blocks).settle
      | .shooting, .cal _ | .shooting, .listen _ | .calibrating, .shoot _ | .calibrating, .listen _ | .listening, .shoot _
      | .listening, .cal _ => .fault .captureShape
      | .idle, _ | .preparing, _ | .analysing, _ => .next s.settle := by
  obtain ⟨up, present⟩ : s.inReset = false ∧ s.present p = true := by simpa [State.hears] using hears
  simp only [execCaptureDone, up, present, out, holder]
  cases (s.engine e).state <;> cases data <;> simp [State.perform_taken _ up]

theorem execCaptureDone_shot (b : Four ShotBlock) (hears : s.hears p = true) (out : (s.lane p).outstanding = some tag)
    (holder : (s.lane p).holder = .engine e) (state : (s.engine e).state = .shooting) :
    execCaptureDone p tag (.shoot b) s = .next (s.shotCompleted e p b).settle := by
  rw [execCaptureDone_engine hears out holder, state]

theorem execCaptureDone_calShot (b : ShotBlock) (hears : s.hears p = true) (out : (s.lane p).outstanding = some tag)
    (holder : (s.lane p).holder = .engine e) (state : (s.engine e).state = .calibrating) :
    execCaptureDone p tag (.cal b) s = .next (s.calShotCompleted e p b).settle := by
  rw [execCaptureDone_engine hears out holder, state]

theorem execCaptureDone_listened (b : Four (Vector Sample 512)) (hears : s.hears p = true)
    (out : (s.lane p).outstanding = some tag) (holder : (s.lane p).holder = .engine e)
    (state : (s.engine e).state = .listening) :
    execCaptureDone p tag (.listen b) s = .next (s.foldBlock e p b).settle := by
  rw [execCaptureDone_engine hears out holder, state]

theorem execCaptureDone_shape {data : Capture} (hears : s.hears p = true) (out : (s.lane p).outstanding = some tag)
    (holder : (s.lane p).holder = .engine e)
    (other : ((s.engine e).state = .shooting ∧ ∀ b, data ≠ .shoot b) ∨ ((s.engine e).state = .calibrating ∧ ∀ b, data ≠ .cal b) ∨
      ((s.engine e).state = .listening ∧ ∀ b, data ≠ .listen b)) :
    execCaptureDone p tag data s = .fault .captureShape := by
  rw [execCaptureDone_engine hears out holder]
  rcases other with ⟨state, kind⟩ | ⟨state, kind⟩ | ⟨state, kind⟩ <;> rw [state] <;> cases data <;>
    simp at kind ⊢

end Done

/-! ## CAPTURE_TIMEOUT (R51) -/

section TimedOut

variable {s : State} {p : Port} {e : EngineId}

theorem execCaptureTimeout_due (hears : s.hears p = true) (due : (s.lane p).captureDue = some s.ms) :
    execCaptureTimeout p s = .next (s.shotFailed p).settle :=
  (State.tapEvent_taken _ hears).trans (by rw [if_pos due])

theorem execCaptureTimeout_notDue (hears : s.hears p = true) (due : (s.lane p).captureDue ≠ some s.ms) :
    execCaptureTimeout p s = .next s.settle :=
  (State.tapEvent_taken _ hears).trans (by rw [if_neg due])

theorem State.shotFailed_eq (holder : (s.lane p).holder = .engine e) : s.shotFailed p =
    match (s.engine e).state with
    | .calibrating => (s.closesCapture p).afterCalShot e
    | .shooting =>
      match (s.engine e).current, s.entryOf p with
      | some q, some x => ((s.closesCapture p).setEngine e
          { s.engine e with failedRun := (s.engine e).failedRun + 1 }).afterShot e p q x.depth
      | _, _ => s.closesCapture p
    | .idle | .preparing | .analysing | .listening => s.closesCapture p := by
  rw [State.shotFailed, holder]
  rfl

theorem State.shotFailed_shooting {q : Pair} {x : Entry} (holder : (s.lane p).holder = .engine e)
    (state : (s.engine e).state = .shooting) (current : (s.engine e).current = some q) (entry : s.entryOf p = some x) :
    s.shotFailed p = ((s.closesCapture p).setEngine e
      { s.engine e with failedRun := (s.engine e).failedRun + 1 }).afterShot e p q x.depth := by
  rw [State.shotFailed_eq holder, state, current, entry]

theorem State.shotFailed_calibrating (holder : (s.lane p).holder = .engine e)
    (state : (s.engine e).state = .calibrating) : s.shotFailed p = (s.closesCapture p).afterCalShot e := by
  rw [State.shotFailed_eq holder, state]

end TimedOut

theorem State.next_settle {s t : State} (h : s = t) :
    Host.Outcome.next (φ := Fault) (ρ := Refusal) s.settle = .next t.settle := by rw [h]

/-- What an engine has is what it is set to. -/
theorem State.setEngine_own (s : State) (e : EngineId) : s.setEngine e (s.engine e) = s := by
  simp [State.setEngine, State.engine]

end Sys2Proof.Machine
end

section
/-! The statement on the captures. -/

open Sys2Proof Sys2Proof.Machine

/-- Settles O53: the arm of CAPTURE_DONE and of CAPTURE_TIMEOUT that the engine's state selects, then what follows a shot or a
calibration shot by the counts. -/
theorem captures : Obligations.Captures := by
  intro s p e hears l g closed add
  refine ⟨fun tag data => execCaptureDone_ignored hears, fun tag out holder => ⟨fun q x b state current entry => ?_,
    fun w b state cal port => ?_, fun j b state job => ?_, fun data => execCaptureDone_shape hears out holder⟩,
    execCaptureTimeout_notDue hears, fun due holder => ⟨fun q x state current entry => ?_, fun w state cal port => ?_⟩⟩
  · intro own h
    have counted : exec (.captureDone p tag (.shoot b)) s = .next ((closed.setEngine e h).afterShot e p q x.depth).settle := by
      rw [exec, execCaptureDone_shot b hears out holder state, State.shotCompleted_eq b current entry, Engine.accumulate_eq]
      rfl
    exact ⟨fun more => counted.trans (State.next_settle (State.afterShot_fires (g := h) (Nat.zero_lt_succ 2) more)),
      fun last => counted.trans (State.next_settle (State.afterShot_analyses (g := h) (Nat.zero_lt_succ 2) last (Nat.succ_ne_zero _)))⟩
  · intro v
    have counted : exec (.captureDone p tag (.cal b)) s =
        .next ((closed.setEngine e { g with cal := some v }).afterCalShot e).settle := by
      rw [exec, execCaptureDone_calShot b hears out holder state, State.calShotCompleted_eq b cal]
      rfl
    rw [counted, ← port]
    exact ⟨fun more => State.next_settle (State.afterCalShot_fires (g := { g with cal := some v }) (w := v) rfl more),
      fun last => State.next_settle (State.afterCalShot_computes (g := { g with cal := some v }) (w := v) rfl last)⟩
  · rw [exec, execCaptureDone_listened b hears out holder state, State.foldBlock_eq b job]
  · intro h untestable
    have counted : exec (.captureTimeout p) s = .next ((closed.setEngine e h).afterShot e p q x.depth).settle := by
      rw [exec, execCaptureTimeout_due hears due, State.shotFailed_shooting holder state current entry]
      rfl
    exact ⟨fun failed => counted.trans (State.next_settle (State.afterShot_untestable (g := h) failed)),
      fun few more => counted.trans (State.next_settle (State.afterShot_fires (g := h) few more)),
      fun few last some_ => counted.trans (State.next_settle (State.afterShot_analyses (g := h) few last some_))⟩
  · have counted : exec (.captureTimeout p) s = .next ((closed.setEngine e g).afterCalShot e).settle := by
      rw [exec, execCaptureTimeout_due hears due, State.shotFailed_calibrating holder state]
      exact State.next_settle (congrArg (State.afterCalShot · e) (State.setEngine_own closed e).symm)
    rw [counted, ← port]
    exact ⟨fun more => State.next_settle (State.afterCalShot_fires cal more),
      fun last => State.next_settle (State.afterCalShot_computes cal last)⟩

end

section
/-! SUPPORT. The operations of a lane in the form the statements write them: a transfer point, the entry into ADVERTISE, a
state to rest in (R42, R61, R62, R103). -/

namespace Sys2Proof.Machine

/-! ## Transfer points -/

theorem Lane.transfer_eq (l : Lane) (allowed : GradeSet) : l.transfer allowed = l.atTransferPoint allowed := by
  unfold Lane.transfer Lane.atTransferPoint Lane.transferred
  cases l.shadowPending <;> simp [Lane.restoreCeiling_eq]

theorem Lane.restored_restored (l : Lane) (allowed : GradeSet) :
    (l.restored allowed).restored allowed = l.restored allowed := by
  simp [Lane.restored, bestCeiling_bestCeiling]

/-- A restore that follows a transfer point is that of the transferred lane, whether or not the transfer restored (R104). -/
theorem Lane.atTransferPoint_restored (l : Lane) (allowed : GradeSet) :
    (l.atTransferPoint allowed).restored allowed = l.transferred.restored allowed := by
  unfold Lane.atTransferPoint
  split
  · exact Lane.restored_restored _ _
  · rfl

/-- A lane just transferred has nothing left to transfer. -/
theorem Lane.transferred_atTransferPoint (l : Lane) (allowed : GradeSet) :
    (l.transferred.restored allowed).atTransferPoint allowed = l.transferred.restored allowed := by
  unfold Lane.atTransferPoint Lane.transferred Lane.restored
  cases l.shadowPending <;> simp

/-! ## Entering a state -/

theorem State.setLane_advertises (s : State) (p : Port) (a l : Lane) :
    (s.setLane p a).advertises p l = s.advertises p l := by
  simp only [State.advertises, State.setLane_setLane]
  rfl

theorem State.setLane_rests (s : State) (p : Port) (a l : Lane) (st : LaneState) :
    (s.setLane p a).rests p l st = s.rests p l st := by
  simp only [State.rests, State.setLane_setLane]

theorem State.restIn_eq (s : State) (p : Port) (st : LaneState) : s.restIn p st = s.rests p (s.lane p) st := rfl

theorem State.setLane_restIn (s : State) (p : Port) (l : Lane) (st : LaneState) :
    (s.setLane p l).restIn p st = s.rests p l st := by
  rw [State.restIn_eq, State.lane_setLane_same, State.setLane_rests]

/-- Steps 3 to 5 of R62. -/
theorem State.settleAdvertise_eq (s : State) (p : Port) (l : Lane) :
    s.settleAdvertise p (l.formOffer (s.record p).allowed) = s.advertises p l := by
  unfold State.settleAdvertise State.advertises
  refine if_congr Iff.rfl ?_ ?_
  · rw [State.enterParked, State.setLane_restIn]; rfl
  · by_cases free : l.hold = .empty
    · rw [if_pos (show (l.formOffer _).hold = .empty from free), if_neg (not_not.2 free)]; rfl
    · rw [if_neg (show ¬(l.formOffer _).hold = .empty from free), if_pos free, State.enterHeld, State.setLane_restIn]; rfl

/-- The entry into ADVERTISE as R62 states it. -/
theorem State.enterAdvertise_eq (s : State) (p : Port) (b : Bool) : s.enterAdvertise p b =
    s.advertises p ((s.lane p).transferAt (s.record p).allowed b) := s.settleAdvertise_eq p _

/-- The entry into ADVERTISE that is a transfer point (R42). -/
theorem State.enterAdvertise_transfer (s : State) (p : Port) :
    s.enterAdvertise p true = s.advertises p ((s.lane p).atTransferPoint (s.record p).allowed) := by
  rw [State.enterAdvertise_eq, ← Lane.transfer_eq]
  rfl

theorem State.transferInPlace_eq (s : State) (p : Port) :
    s.transferInPlace p = s.setLane p ((s.lane p).atTransferPoint (s.record p).allowed) := by
  rw [State.transferInPlace, State.modifyLane, Lane.transfer_eq]

theorem State.transferAndRestore_eq (s : State) (p : Port) :
    s.transferAndRestore p = s.setLane p ((s.lane p).transferred.restored (s.record p).allowed) := by
  rw [State.transferAndRestore, State.modifyLane, Lane.transfer_eq, Lane.restoreCeiling_eq, Lane.atTransferPoint_restored]

theorem State.leaveUp_eq (s : State) (p : Port) : s.leaveUp p = s.droppedLink p := rfl

end Sys2Proof.Machine
end

section
/-! SUPPORT. CALIBRATION_RESULT (R37 to R39): the result, the engine's next lane, and the end of start-up. -/

namespace Sys2Proof.Machine

/-! ## The result and the next lane -/

theorem calibrationOffset_eq {code sums : List Int} {completed offset : Nat} {defaulted : Bool}
    (good : (completed ≠ 0 ∧ 8 ≤ referenceDelay code sums completed ∧ referenceDelay code sums completed ≤ 64) →
      (offset : Int) = referenceDelay code sums completed ∧ defaulted = false)
    (bad : ¬(completed ≠ 0 ∧ 8 ≤ referenceDelay code sums completed ∧ referenceDelay code sums completed ≤ 64) →
      offset = 24 ∧ defaulted = true) :
    calibrationOffset code sums completed = (offset, defaulted) := by
  unfold calibrationOffset
  by_cases none_ : completed = 0
  · obtain ⟨rfl, rfl⟩ := bad fun h => h.1 none_
    rw [if_pos none_]; rfl
  · rw [if_neg none_]
    by_cases within : 8 ≤ referenceDelay code sums completed ∧ referenceDelay code sums completed ≤ 64
    · obtain ⟨delay, rfl⟩ := good ⟨none_, within⟩
      rw [if_pos within, ← delay, Int.toNat_natCast]
    · obtain ⟨rfl, rfl⟩ := bad fun h => within h.2
      rw [if_neg within]; rfl

/-- The result is set at the lane, and engine e has released the port (R38). -/
def State.calibrated (s : State) (e : EngineId) (p : Port) (offset : Nat) (defaulted : Bool) : State :=
  (s.setLane p { s.lane p with offsetT := offset, calDefaulted := defaulted }).releasePort e p

theorem State.finishCalibration_eq {s : State} {e : EngineId} {w : CalWork} {offset : Nat} {defaulted : Bool}
    (cal : (s.engine e).cal = some w)
    (result : calibrationOffset (pulseCode s.station) w.sums w.completed = (offset, defaulted)) :
    s.finishCalibration e = (s.calibrated e w.port offset defaulted).takeCalibration e := by
  simp only [State.finishCalibration, cal, result]
  rfl

theorem State.takeCalibration_cons {s : State} {e : EngineId} {p : Port} {rest : List Port} (waits : s.calList = p :: rest) :
    s.takeCalibration e = (({ s with calList := rest } : State).setEngine e
      { Engine.idle with state := .calibrating, cal := some ⟨p, 1, 0, clearedSums⟩ }).fires e p .calShoot := by
  simp only [State.takeCalibration, waits, State.fireCal, State.setEngine_modifyEngine, State.shootPort_eq_fires]
  rfl

theorem State.takeCalibration_nil {s : State} {e : EngineId} (waits : s.calList = []) :
    s.takeCalibration e = s.setEngine e .idle := by
  simp only [State.takeCalibration, waits]

theorem State.calibrated_calList (s : State) (e : EngineId) (p : Port) (offset : Nat) (defaulted : Bool) :
    (s.calibrated e p offset defaulted).calList = s.calList := ((Touches.setLane _).trans (.releasePort e)).calList

theorem State.calibrated_engine (s : State) (e d : EngineId) (p : Port) (offset : Nat) (defaulted : Bool) :
    (s.calibrated e p offset defaulted).engine d = s.engine d := by
  unfold State.calibrated State.releasePort
  split <;> rfl

theorem State.calibrated_autostart (s : State) (e : EngineId) (p : Port) (offset : Nat) (defaulted : Bool) :
    (s.calibrated e p offset defaulted).autostart = s.autostart := by
  unfold State.calibrated State.releasePort
  split <;> rfl

theorem Lane.release_state (l : Lane) : l.release.state = l.state := by
  unfold Lane.release
  simp only
  split <;> rfl

theorem State.lane_state_modifyLane {s : State} {p : Port} {f : Lane → Lane} (h : (f (s.lane p)).state = (s.lane p).state)
    (q : Port) : ((s.modifyLane p f).lane q).state = (s.lane q).state := by
  by_cases same : q = p
  · rw [same, State.lane_modifyLane_same, h]
  · rw [State.lane_modifyLane_ne _ _ _ _ same]

/-- A port that changes hands keeps its lane's state (R47). -/
theorem State.lane_state_releasePort (s : State) (e : EngineId) (p q : Port) :
    ((s.releasePort e p).lane q).state = (s.lane q).state := by
  unfold State.releasePort
  split
  · exact State.lane_state_modifyLane (Lane.release_state _) q
  · rfl

theorem State.presentPorts_congr {s t : State} (straps : t.twelvePorts = s.twelvePorts) : t.presentPorts = s.presentPorts := by
  have present : t.present = s.present := funext fun q => by
    rw [State.present, State.present, State.portCount, State.portCount, straps]
  rw [State.presentPorts, State.presentPorts, present]

theorem State.anyStarting_congr {s t : State} (straps : t.twelvePorts = s.twelvePorts)
    (state : ∀ q, (t.lane q).state = (s.lane q).state) : t.anyStarting = s.anyStarting := by
  simp only [State.anyStarting, State.presentPorts_congr straps, state]

theorem State.calibrated_anyStarting (s : State) (e : EngineId) (p : Port) (offset : Nat) (defaulted : Bool) :
    (s.calibrated e p offset defaulted).anyStarting = s.anyStarting :=
  State.anyStarting_congr ((Touches.setLane _).trans (.releasePort e)).twelvePorts fun q =>
    (State.lane_state_releasePort _ e p q).trans
      (State.lane_state_modifyLane (f := fun l => { l with offsetT := offset, calDefaulted := defaulted }) rfl q)

/-! ## The end of start-up (R39) -/

theorem State.leaveStarting_eq (s : State) (p : Port) : s.leaveStarting p =
    let l := (s.lane p).transferred.restored (s.record p).allowed
    if s.autostart then s.advertises p l else s.rests p l .disabled := by
  unfold State.leaveStarting
  rw [State.transferAndRestore_eq]
  refine if_congr Iff.rfl ?_ (State.setLane_restIn _ _ _ _)
  rw [State.enterAdvertise_transfer, State.lane_setLane_same, State.setLane_advertises]
  exact congrArg (s.advertises p) (Lane.transferred_atTransferPoint _ _)

theorem State.leaveStarting_autostart (s : State) (p : Port) : (s.leaveStarting p).autostart = s.autostart := by
  have touches : Touches p s (s.leaveStarting p) := by
    refine Touches.transferAndRestore.trans ?_
    unfold State.leaveStarting
    simp only
    split
    exacts [.enterAdvertise true, .enterDisabled]
  obtain ⟨_, _, _, rest⟩ := touches.rest
  rw [rest]

/-- The lanes leave STARTING as the strap says, which none of them changes. -/
theorem State.foldl_leaveStarting (l : List Port) (s : State) : l.foldl State.leaveStarting s =
    l.foldl (fun (t : State) p =>
      let x := (t.lane p).transferred.restored (t.record p).allowed
      if s.autostart then t.advertises p x else t.rests p x .disabled) s := by
  suffices h : ∀ t : State, t.autostart = s.autostart → l.foldl State.leaveStarting t = l.foldl (fun (t : State) p =>
      let x := (t.lane p).transferred.restored (t.record p).allowed
      if s.autostart then t.advertises p x else t.rests p x .disabled) t from h s rfl
  induction l with
  | nil => exact fun _ _ => rfl
  | cons p l ih =>
    intro t strap
    rw [List.foldl_cons, List.foldl_cons, ih _ ((t.leaveStarting_autostart p).trans strap), State.leaveStarting_eq, strap]

theorem State.startupEnd_busy {s : State} {e : EngineId} (busy : (s.engine e).state ≠ .idle) : s.startupEnd = s := by
  refine if_neg fun h => busy ?_
  obtain ⟨-, -, zero, one⟩ := h
  fin_cases e
  exacts [zero, one]

theorem State.startupEnd_over {s : State} (starting : s.anyStarting = true) (empty : s.calList = [])
    (idle : ∀ e, (s.engine e).state = .idle) :
    s.startupEnd = (s.presentPorts.foldl State.leaveStarting s).postStation .started :=
  if_pos ⟨starting, empty, idle 0, idle 1⟩

/-! ## The command -/

section Result

variable {s : State} {e : EngineId}

theorem execCalibrationResult_notDue (up : s.inReset = false) (due : (s.engine e).timer ≠ some (.calibration, s.ms)) :
    execCalibrationResult e s = .next s.settle := by
  rw [execCalibrationResult, State.perform_taken _ up, if_neg (mt State.engineTimerDue_iff.1 due)]

theorem execCalibrationResult_both (up : s.inReset = false) (zero : (s.engine 0).timer = some (.calibration, s.ms))
    (one : (s.engine 1).timer = some (.calibration, s.ms)) :
    execCalibrationResult 1 s = .next ((s.finishCalibration 0).finishCalibration 1).startupEnd.settle := by
  rw [execCalibrationResult, State.perform_taken _ up, if_pos (State.engineTimerDue_iff.2 one),
    if_pos ⟨rfl, State.engineTimerDue_iff.2 zero⟩]

theorem execCalibrationResult_alone (up : s.inReset = false)
    (first : e = 0 ∨ ¬(s.engine 0).timer = some (.calibration, s.ms))
    (due : (s.engine e).timer = some (.calibration, s.ms)) :
    execCalibrationResult e s = .next (s.finishCalibration e).startupEnd.settle := by
  have alone : ¬(e = 1 ∧ s.engineTimerDue 0 .calibration = true) := by
    rintro ⟨rfl, zero⟩
    rcases first with h | h
    · cases h
    · exact h (State.engineTimerDue_iff.1 zero)
  rw [execCalibrationResult, State.perform_taken _ up, if_pos (State.engineTimerDue_iff.2 due), if_neg alone]

end Result

end Sys2Proof.Machine
end

section
/-! The statement on the calibration results. -/

open Sys2Proof Sys2Proof.Machine

/-- Settles O56: the engine that has finished takes the next lane or goes IDLE, and start-up ends exactly where both engines
are then IDLE. -/
theorem calibrationResult : Obligations.CalibrationResult := by
  intro s e up g due out
  refine ⟨execCalibrationResult_notDue up, fun one zero due => ?_, fun w first due cal => ?_⟩
  · subst one
    exact execCalibrationResult_both up zero due
  intro delay good offset defaulted fits misfits freed idled
  have alone : out = .next (freed.takeCalibration e).startupEnd.settle :=
    (execCalibrationResult_alone up first due).trans
      (State.next_settle (congrArg State.startupEnd (State.finishCalibration_eq cal (calibrationOffset_eq fits misfits))))
  have waiting : freed.calList = s.calList := s.calibrated_calList e w.port offset defaulted
  have engines (d : EngineId) : freed.engine d = s.engine d := s.calibrated_engine e d w.port offset defaulted
  have others (d : EngineId) (other : d ≠ e) : idled.engine d = s.engine d :=
    (State.engine_setEngine_ne _ _ _ _ other).trans (engines d)
  refine ⟨fun p rest waits => ?_, fun empty busy => ?_, fun empty idle starting => ?_⟩
  · rw [State.takeCalibration_cons (waiting.trans waits)] at alone
    refine alone.trans (State.next_settle (State.startupEnd_busy (e := e) ?_))
    exact fun h => nomatch (congrArg Engine.state (State.engine_setEngine_same _ e _)).symm.trans h
  · rw [State.takeCalibration_nil (waiting.trans empty)] at alone
    obtain ⟨d, other⟩ := exists_ne e
    refine alone.trans (State.next_settle (State.startupEnd_busy (e := d) ?_))
    rw [others d other]
    exact busy d other
  · rw [State.takeCalibration_nil (waiting.trans empty)] at alone
    have allIdle (d : EngineId) : (idled.engine d).state = .idle := by
      by_cases own : d = e
      · rw [own, State.engine_setEngine_same]; rfl
      · rw [others d own]; exact idle d own
    have lanes : idled.anyStarting = s.anyStarting := s.calibrated_anyStarting e w.port offset defaulted
    have ports : idled.presentPorts = allPorts.filter s.present :=
      State.presentPorts_congr ((Touches.setLane _).trans (.releasePort e)).twelvePorts
    rw [alone]
    refine State.next_settle ((State.startupEnd_over (lanes.trans starting) (waiting.trans empty) allIdle).trans ?_)
    rw [State.foldl_leaveStarting, ports, show idled.autostart = s.autostart from s.calibrated_autostart e w.port offset defaulted]
    rfl

end

section
/-! SUPPORT. SET_PROFILE (R41 to R43): the written shadow, what each lane makes of it, and the reply. -/

namespace Sys2Proof.Machine

/-! ## The written shadow (R41) -/

theorem clampNat_eq {lo hi : Nat} (n : Nat) (h : lo ≤ hi) :
    clampNat lo hi n = if n < lo then lo else if hi < n then hi else n := by
  unfold clampNat
  split
  · omega
  · split <;> omega

theorem clampNat_eq_self {lo hi n : Nat} (h : lo ≤ hi) : n = clampNat lo hi n ↔ lo ≤ n ∧ n ≤ hi := by
  unfold clampNat
  omega

/-- The received fields are kept exactly where each is in its range (R40, R41 step 3). -/
theorem ProfileFields.received_eq_clamped_iff (b : ProfileBytes) : ProfileFields.received b = ProfileFields.clamped b ↔
    600 ≤ b.nvp.toNat ∧ b.nvp.toNat ≤ 800 ∧ b.slope.toNat ≤ 63 ∧ 1 ≤ b.attempts.toNat ∧ b.attempts.toNat ≤ 4 ∧
      5 ≤ b.negWindow.toNat ∧ b.negWindow.toNat ≤ 40 ∧ 2 ≤ b.trainWindow.toNat ∧ b.trainWindow.toNat ≤ 20 ∧
      b.depth.toNat ≤ 6 := by
  simp only [ProfileFields.received, ProfileFields.clamped, ClampedFields.mk.injEq,
    clampNat_eq_self (show 600 ≤ 800 by omega), clampNat_eq_self (show 0 ≤ 63 by omega),
    clampNat_eq_self (show 1 ≤ 4 by omega), clampNat_eq_self (show 5 ≤ 40 by omega),
    clampNat_eq_self (show 2 ≤ 20 by omega), clampNat_eq_self (show 0 ≤ 6 by omega), Nat.zero_le, true_and, and_assoc]

theorem Lane.writeShadow_eq (l : Lane) (b : ProfileBytes) : l.writeShadow b =
    let clamp (lo hi n : Nat) : Nat := if n < lo then lo else if hi < n then hi else n
    let option (bit : Nat) (now : Bool) : Bool :=
      if b.optionSelect.getLsbD bit then b.optionValue.getLsbD bit else now
    { l with
      shadowPending := true
      shadow :=
        { advertised := b.advertised.setWidth 4, nvp := clamp 600 800 b.nvp.toNat, slope := clamp 0 63 b.slope.toNat,
          attempts := clamp 1 4 b.attempts.toNat, negWindow := clamp 5 40 b.negWindow.toNat,
          trainWindow := clamp 2 20 b.trainWindow.toNat, depth := clamp 0 6 b.depth.toNat,
          downshift := option 0 l.shadow.downshift, autoSweep := option 1 l.shadow.autoSweep,
          surveyMember := option 2 l.shadow.surveyMember, listenPeers := option 3 l.shadow.listenPeers,
          honourQuiet := option 4 l.shadow.honourQuiet } } := by
  simp only [Lane.writeShadow, Profile.written, ProfileFields.clamped, clampNat_eq _ (show 600 ≤ 800 by omega),
    clampNat_eq _ (show 0 ≤ 63 by omega), clampNat_eq _ (show 1 ≤ 4 by omega), clampNat_eq _ (show 5 ≤ 40 by omega),
    clampNat_eq _ (show 2 ≤ 20 by omega), clampNat_eq _ (show 0 ≤ 6 by omega), optionAfter]

/-! ## What each lane makes of it (R43) -/

theorem State.sweepRunning_eq {s : State} (nodup : (s.queue.map Entry.port).Nodup) (p : Port) :
    s.sweepRunning p = s.queue.any fun x => decide (x.port = p) && decide (x.state = .running) := by
  rw [Bool.eq_iff_iff, List.any_eq_true]
  unfold State.sweepRunning
  cases entry : s.entryOf p with
  | none =>
    refine ⟨nofun, fun ⟨x, member, running⟩ => ?_⟩
    rw [Bool.and_eq_true, decide_eq_true_iff] at running
    exact absurd running.1 (State.entryOf_none.1 entry x member)
  | some x =>
    obtain ⟨member, port⟩ := State.entryOf_some entry
    refine ⟨fun running => ⟨x, member, by rw [Bool.and_eq_true]; exact ⟨decide_eq_true port, running⟩⟩, ?_⟩
    rintro ⟨y, other, running⟩
    rw [Bool.and_eq_true, decide_eq_true_iff] at running
    obtain ⟨samePort, running⟩ := running
    cases List.inj_on_of_nodup_map nodup other member (samePort.trans port.symm)
    exact running

theorem State.applyProfile_eq {s : State} (nodup : (s.queue.map Entry.port).Nodup) (p : Port) (now : Bool) :
    s.applyProfile p now = s.appliesShadow p now := by
  unfold State.applyProfile State.appliesShadow
  simp only [State.enterAdvertise_transfer, State.transferInPlace_eq, State.sweepRunning_eq nodup, State.leaveUp_eq]
  cases (s.lane p).state <;> cases now <;> simp only [reduceIte, Bool.false_eq_true, true_and, false_and]
  case up.true => cases inPortSet s.guards p <;> rfl

/-- The lanes apply in port order, with the queue standing as it was. -/
theorem State.foldl_applyProfile {s : State} (nodup : (s.queue.map Entry.port).Nodup) (l : List Port) (now : Bool) :
    l.foldl (fun t p => t.applyProfile p now) s = l.foldl (fun (t : State) p => t.appliesShadow p now) s := by
  induction l generalizing s with
  | nil => rfl
  | cons p l ih =>
    rw [List.foldl_cons, List.foldl_cons, ← State.applyProfile_eq nodup]
    exact ih (by rw [(Touches.applyProfile (p := p) now).queue]; exact nodup)

theorem State.foldl_modifyLane_queue (f : Lane → Lane) (l : List Port) (s : State) :
    (l.foldl (fun (t : State) p => t.modifyLane p f) s).queue = s.queue := by
  induction l generalizing s with
  | nil => rfl
  | cons p l ih => exact ih _

/-! ## The reply (R41) -/

theorem portsOf_setWidth (mask : BitVec 16) : portsOf (mask.setWidth 12) = allPorts.filter fun p => mask.getLsbD p.val :=
  List.filter_congr fun p _ => inPortSet_setWidth mask p

theorem setWidth_eq_zero_iff {advertised : Byte} (h : advertised.toNat < 16) :
    advertised.setWidth 4 = (0 : GradeSet) ↔ advertised = 0 := by
  constructor <;> intro zero <;> bv_omega

theorem State.profileRequest_passes {s : State} {b : ProfileBytes} (mask : b.mask.toNat < 2 ^ s.portCount)
    (mode : b.apply.toNat < 2) (advertised : b.advertised.toNat < 16) (select : b.optionSelect.toNat < 32)
    (value : b.optionValue.toNat < 32) : s.profileRequest b = State.conclude .setProfile (s.profileDecision b) := by
  rw [State.profileRequest, if_neg (by simp [State.maskPasses_true mask]), if_neg (by omega)]

theorem State.profileDecision_refused {s : State} {b : ProfileBytes} (short : b.advertised.toNat < 16)
    (empty : b.mask = 0 ∨ b.advertised = 0) : s.profileDecision b = (s, .refused .badValue) := by
  by_cases mask : b.mask = 0
  · exact if_pos mask
  · exact (if_neg mask).trans (if_pos ((setWidth_eq_zero_iff short).2 (empty.resolve_left mask)))

theorem State.defersNow_any {s : State} {b : ProfileBytes} {ports : List Port} :
    (decide (b.apply = 1) && ports.any s.defersNow) = true ↔
      b.apply = 1 ∧ ∃ p ∈ ports, (s.lane p).state = .up ∧ inPortSet s.guards p = true := by
  simp [State.defersNow]

end Sys2Proof.Machine
end

section
/-! The statement on SET_PROFILE. -/

open Sys2Proof Sys2Proof.Machine

/-- Settles O31: the decision is that of the flat shadow and the flat application, and its reply follows the two tests in their
order. -/
theorem setProfile : Obligations.SetProfile := by
  intro s b decides mask mode advertised select value ports clamp option written inRange defers shadows applied out
  have decided : out = .next (State.conclude .setProfile (s.profileDecision b)).settle :=
    (State.request_decided _ decides).trans
      (State.next_settle (State.profileRequest_passes mask mode advertised select value))
  refine ⟨fun empty => ?_, fun named some_ nodup => ?_⟩
  · rw [decided, State.profileDecision_refused advertised empty]
    exact State.next_settle (State.answer_refused _ _ _)
  have shadowed : ports.foldl (fun (t : State) p => t.modifyLane p fun l => l.writeShadow b) s = shadows := by
    simp only [Lane.writeShadow_eq]
    rfl
  have queue : (shadows.queue.map Entry.port).Nodup := by
    rw [show shadows.queue = s.queue from State.foldl_modifyLane_queue written ports s]
    exact nodup
  have decision : s.profileDecision b = (applied, .accepted
      (if ¬inRange then .clamped else if defers then .deferred else .done)) := by
    unfold State.profileDecision
    rw [if_neg named, if_neg (mt (setWidth_eq_zero_iff advertised).1 some_), portsOf_setWidth]
    simp only [ne_eq, ProfileFields.received_eq_clamped_iff, State.defersNow_any, decide_eq_true_eq]
    rw [shadowed, State.foldl_applyProfile queue]
  rw [decided, decision]
  refine ⟨fun out_ => ?_, fun in_ now => ?_, fun in_ now => ?_⟩
  · rw [if_pos out_]; rfl
  · rw [if_neg (not_not.2 in_), if_pos now]; rfl
  · rw [if_neg (not_not.2 in_), if_neg now]; rfl

end

section
/-! SUPPORT. The binding of engines, entries and ports (R36, R37, R47, R82, R118, R119): what an engine works on, and the
changes of lanes, engines and queue that leave the binding sound. -/

namespace Sys2Proof.Machine

/-! ## What an engine works on -/

theorem Engine.worksOn_iff {g : Engine} {p : Port} : g.worksOn p = true ↔
    g.bound = some p ∨ (∃ j, g.job = some j ∧ ∃ m ∈ j.members, m.port = p) ∨ ∃ w, g.cal = some w ∧ w.port = p := by
  unfold Engine.worksOn
  cases g.job <;> cases g.cal <;> simp [or_assoc]

theorem Engine.idle_worksOn (p : Port) : Engine.idle.worksOn p = false := by
  simp [Engine.worksOn, Engine.idle]

theorem Engine.sound_of_bound {g : Engine} {p : Port} (h : g.sound = true) (bound : g.bound = some p) :
    g.job = none ∧ g.cal = none ∧ (g.state = .preparing ∨ g.state = .shooting ∨ g.state = .analysing) := by
  unfold Engine.sound at h
  cases state : g.state <;> simp_all

theorem Engine.sound_of_job {g : Engine} {j : ListenJob} (h : g.sound = true) (job : g.job = some j) :
    g.bound = none ∧ g.cal = none ∧ g.state = .listening := by
  unfold Engine.sound at h
  cases state : g.state <;> simp_all

theorem Engine.sound_of_cal {g : Engine} {w : CalWork} (h : g.sound = true) (cal : g.cal = some w) :
    g.bound = none ∧ g.job = none ∧ g.state = .calibrating := by
  unfold Engine.sound at h
  cases state : g.state <;> simp_all

theorem Engine.sound_of_idle {g : Engine} (h : g.sound = true) (idle : g.state = .idle) :
    g.bound = none ∧ g.job = none ∧ g.cal = none := by
  simp only [Engine.sound, idle, Bool.and_eq_true, Option.isNone_iff_eq_none] at h
  obtain ⟨⟨⟨bound, job⟩, cal⟩, -⟩ := h
  exact ⟨bound, job, cal⟩

/-- An engine that works on an entry's port: PREPARING, SHOOTING or ANALYSING, with no job and no calibration. -/
theorem Engine.sound_sweeping {g : Engine} {p : Port} (bound : g.bound = some p) (job : g.job = none) (cal : g.cal = none)
    (state : g.state = .preparing ∨ g.state = .shooting ∨ g.state = .analysing) : g.sound = true := by
  rcases state with state | state | state <;> simp [Engine.sound, state, bound, job, cal]

/-- A sweeping engine works on its bound port alone. -/
theorem Engine.worksOn_of_bound {g : Engine} {p q : Port} (h : g.sound = true) (bound : g.bound = some p) :
    g.worksOn q = true ↔ q = p := by
  obtain ⟨job, cal, -⟩ := Engine.sound_of_bound h bound
  simp [Engine.worksOn, bound, job, cal, eq_comm]

theorem Engine.worksOn_of_cal {g : Engine} {w : CalWork} {q : Port} (h : g.sound = true) (cal : g.cal = some w) :
    g.worksOn q = true ↔ q = w.port := by
  obtain ⟨bound, job, -⟩ := Engine.sound_of_cal h cal
  simp [Engine.worksOn, bound, job, cal, eq_comm]

theorem Engine.worksOn_of_idle {g : Engine} {q : Port} (h : g.sound = true) (idle : g.state = .idle) :
    g.worksOn q = false := by
  obtain ⟨bound, job, cal⟩ := Engine.sound_of_idle h idle
  simp [Engine.worksOn, bound, job, cal]

/-! ## An engine's ties -/

/-- Engine h has no tie that engine g has not: the same bound port, and no further port of a job or a calibration. -/
structure Engine.Shrinks (g h : Engine) : Prop where
  sound : g.sound = true → h.sound = true
  bound : g.sound = true → h.bound = g.bound
  works : ∀ p, h.worksOn p = true → g.worksOn p = true
  cal : ∀ w, h.cal = some w → ∃ v, g.cal = some v ∧ v.port = w.port

theorem Engine.Shrinks.refl (g : Engine) : g.Shrinks g := ⟨id, fun _ => rfl, fun _ => id, fun w h => ⟨w, h, rfl⟩⟩

/-- Engine h has the ties of engine g: the same bound port, the same job members, the same port being calibrated. -/
structure Engine.SameTies (g h : Engine) : Prop extends g.Shrinks h where
  keeps : ∀ p, g.worksOn p = true → h.worksOn p = true

theorem Engine.SameTies.of_fields {g h : Engine} (bound : h.bound = g.bound) (job : h.job = g.job) (cal : h.cal = g.cal)
    (sound : g.sound = true → h.sound = true) : g.SameTies h := by
  have works (p : Port) : h.worksOn p = g.worksOn p := by simp [Engine.worksOn, bound, job, cal]
  exact ⟨⟨sound, fun _ => bound, fun p => (works p ▸ ·), fun w c => ⟨w, cal ▸ c, rfl⟩⟩, fun p => (works p ▸ ·)⟩

/-- A sweeping engine that goes on to another of its three states. -/
theorem Engine.SameTies.sweeping {g h : Engine} {p : Port} (own : g.bound = some p) (bound : h.bound = g.bound)
    (job : h.job = g.job) (cal : h.cal = g.cal)
    (state : g.state = .preparing ∨ g.state = .shooting ∨ g.state = .analysing →
      h.state = .preparing ∨ h.state = .shooting ∨ h.state = .analysing) : g.SameTies h := by
  refine .of_fields bound job cal fun sound => ?_
  obtain ⟨noJob, noCal, sweeping⟩ := Engine.sound_of_bound sound own
  exact Engine.sound_sweeping (bound.trans own) (job.trans noJob) (cal.trans noCal) (state sweeping)

/-- A listening engine that goes IDLE keeps no tie; it had no bound port. -/
theorem Engine.Shrinks.idle_of_job {g : Engine} {j : ListenJob} (job : g.job = some j) : g.Shrinks .idle where
  sound := fun _ => rfl
  bound := fun sound => (Engine.sound_of_job sound job).1.symm
  works := fun p h => absurd h (by rw [Engine.idle_worksOn]; exact Bool.false_ne_true)
  cal := nofun

theorem Engine.without_cases (g : Engine) (p : Port) :
    g.job = none ∧ g.without p = g ∨
    ∃ j, g.job = some j ∧ ((∀ m ∈ j.members, m.port = p) ∧ g.without p = .idle ∨
      g.without p = { g with job := some { j with members := j.members.filter fun m => decide (m.port ≠ p) } }) := by
  unfold Engine.without
  cases job : g.job with
  | none => exact .inl ⟨rfl, rfl⟩
  | some j =>
    refine .inr ⟨j, rfl, ?_⟩
    simp only
    split
    next empty => exact .inl ⟨by simpa using empty, rfl⟩
    next => exact .inr rfl

theorem Engine.Shrinks.without (g : Engine) (p : Port) : g.Shrinks (g.without p) := by
  rcases g.without_cases p with ⟨-, same⟩ | ⟨j, job, ⟨-, idle⟩ | fewer⟩
  · rw [same]; exact .refl g
  · rw [idle]; exact .idle_of_job job
  · rw [fewer]
    refine ⟨fun sound => ?_, fun _ => rfl, fun q works => ?_, fun w cal => ⟨w, cal, rfl⟩⟩
    · obtain ⟨bound, cal, state⟩ := Engine.sound_of_job sound job
      simp [Engine.sound, state, bound, cal]
    · rw [Engine.worksOn_iff] at works ⊢
      rcases works with bound | ⟨k, isJob, m, member, port⟩ | cal
      · exact .inl bound
      · cases isJob
        exact .inr (.inl ⟨j, job, m, (List.mem_filter.1 member).1, port⟩)
      · exact .inr (.inr cal)

/-- The other members stay with the engine. -/
theorem Engine.without_worksOn_ne {g : Engine} (sound : g.sound = true) {p q : Port} (other : q ≠ p)
    (works : g.worksOn q = true) : (g.without p).worksOn q = true := by
  rcases g.without_cases p with ⟨-, same⟩ | ⟨j, job, ⟨all, -⟩ | fewer⟩
  · rw [same]; exact works
  · obtain ⟨bound, cal, -⟩ := Engine.sound_of_job sound job
    rw [Engine.worksOn_iff, bound, cal, job] at works
    rcases works with none_ | ⟨k, isJob, m, member, port⟩ | ⟨_, none_, _⟩
    · cases none_
    · cases isJob
      exact absurd (port.symm.trans (all m member)) other
    · cases none_
  · rw [fewer]
    rw [Engine.worksOn_iff] at works ⊢
    rcases works with bound | ⟨k, isJob, m, member, port⟩ | cal
    · exact .inl bound
    · cases job.symm.trans isJob
      exact .inr (.inl ⟨_, rfl, m, List.mem_filter.2 ⟨member, decide_eq_true (port ▸ other)⟩, port⟩)
    · exact .inr (.inr cal)

theorem Engine.without_worksOn_same {g : Engine} {j : ListenJob} (sound : g.sound = true) (job : g.job = some j)
    (p : Port) : (g.without p).worksOn p = false := by
  obtain ⟨bound, cal, -⟩ := Engine.sound_of_job sound job
  rcases g.without_cases p with ⟨none_, -⟩ | ⟨k, isJob, ⟨-, idle⟩ | fewer⟩
  · cases job.symm.trans none_
  · rw [idle]; exact Engine.idle_worksOn p
  · rw [fewer]; simp [Engine.worksOn, bound, cal]

theorem Engine.without_idle {g : Engine} {p : Port} (idle : g.state = .idle) : (g.without p).state = .idle := by
  rcases g.without_cases p with ⟨-, same⟩ | ⟨_, -, ⟨-, gone⟩ | fewer⟩
  · rw [same]; exact idle
  · rw [gone]; rfl
  · rw [fewer]; exact idle

/-! ## The binding -/

/-- The port's entry is RUNNING. -/
def State.runs (s : State) (p : Port) : Bool := s.queue.any fun x => decide (x.port = p) && decide (x.state = .running)

theorem State.runs_iff {s : State} {p : Port} : s.runs p = true ↔ ∃ x ∈ s.queue, x.port = p ∧ x.state = .running := by
  simp [State.runs]

theorem State.runs_false {s : State} {p : Port} : s.runs p = false ↔ ∀ x ∈ s.queue, x.port = p → x.state ≠ .running := by
  simp [State.runs]

/-- Engines, entries and ports are bound to one another; at port `x` the agreement of SWEEP with the entry is left open, as
it is between the steps of a start or an end of a sweep (R116, R119, R126). -/
structure Binding (x : Option Port) (s : State) : Prop where
  ports : (s.queue.map Entry.port).Nodup
  sound : ∀ e, (s.engine e).sound = true
  bound : ∀ e p, (s.engine e).bound = some p → ∃ y ∈ s.queue, y.port = p ∧ y.engine = some e
  entry : ∀ y ∈ s.queue, s.entryBound y = true
  present : ∀ y ∈ s.queue, s.present y.port = true
  holder : ∀ p e, (s.lane p).holder = .engine e → (s.engine e).worksOn p = true
  sweep : ∀ p, x ≠ some p → (s.lane p).hold.sweep = s.runs p
  listed : s.calList.Nodup
  waiting : ∀ p ∈ s.calList, s.present p = true ∧ (s.lane p).state = .starting ∧ ∀ e, (s.engine e).worksOn p = false
  calibrated : ∀ e w, (s.engine e).cal = some w → s.present w.port = true ∧ (s.lane w.port).state = .starting
  apart : ∀ d e p, d ≠ e → (s.engine d).worksOn p = true → (s.engine e).worksOn p = false

theorem State.entryBound_iff {s : State} {x : Entry} : s.entryBound x = true ↔
    (∃ e, x.engine = some e ∧ x.state = .running ∧ (s.engine e).bound = some x.port) ∨
      x.engine = none ∧ x.state ≠ .running := by
  unfold State.entryBound
  cases x.engine <;> simp

theorem State.engineBound_iff {s : State} {e : EngineId} : s.engineBound e = true ↔
    ∀ p, (s.engine e).bound = some p → ∃ y ∈ s.queue, y.port = p ∧ y.engine = some e := by
  unfold State.engineBound
  cases (s.engine e).bound <;> simp

theorem forall_engine {f : EngineId → Prop} : (∀ e, f e) ↔ f 0 ∧ f 1 := Fin.forall_fin_two

theorem State.calibrationSound_iff {s : State} : s.calibrationSound = true ↔
    s.calList.Nodup ∧
    (∀ p ∈ s.calList, s.present p = true ∧ (s.lane p).state = .starting ∧ ∀ e, (s.engine e).worksOn p = false) ∧
    ∀ e w, (s.engine e).cal = some w → s.present w.port = true ∧ (s.lane w.port).state = .starting := by
  unfold State.calibrationSound
  simp only [Bool.and_eq_true, decide_eq_true_eq, List.all_eq_true, Bool.not_eq_true', Bool.or_eq_false_iff, forall_engine,
    mem_allEngines, forall_const, and_assoc]
  cases (s.engine 0).cal <;> cases (s.engine 1).cal <;> simp

theorem State.bindingSound_iff {s : State} : s.bindingSound = true ↔ Binding none s := by
  have port (p : Port) : s.portBound p = true ↔
      (∀ e, (s.lane p).holder = .engine e → (s.engine e).worksOn p = true) ∧ (s.lane p).hold.sweep = s.runs p := by
    unfold State.portBound State.runs
    cases (s.lane p).holder <;> simp
  unfold State.bindingSound
  simp only [Bool.and_eq_true, decide_eq_true_eq, List.all_eq_true, mem_allPorts, mem_allEngines, forall_const,
    State.calibrationSound_iff, State.engineBound_iff, port]
  constructor
  · rintro ⟨⟨⟨⟨⟨ports, engines⟩, entries⟩, lanes⟩, listed, waiting, calibrated⟩, apart⟩
    refine ⟨ports, fun e => (engines e).1, fun e => (engines e).2, fun y here => (entries y here).1,
      fun y here => (entries y here).2, fun p => (lanes p).1, fun p _ => (lanes p).2, listed, waiting, calibrated, ?_⟩
    simp only [forall_engine]
    refine ⟨⟨fun p ne => absurd rfl ne, fun p _ works => ?_⟩, fun p _ works => ?_, fun p ne => absurd rfl ne⟩ <;>
      simpa [works] using apart p
  · rintro ⟨ports, sound, bound, entry, present, holder, sweep, listed, waiting, calibrated, apart⟩
    refine ⟨⟨⟨⟨⟨ports, fun e => ⟨sound e, bound e⟩⟩, fun y here => ⟨entry y here, present y here⟩⟩,
      fun p => ⟨holder p, sweep p nofun⟩⟩, listed, waiting, calibrated⟩, fun p => ?_⟩
    cases works : (s.engine 0).worksOn p with
    | false => rfl
    | true => simp [apart 0 1 p (by decide) works]

end Sys2Proof.Machine
end

section
/-! SUPPORT. What keeps the binding: writes beside it, lane operations, and the steps of the Sweep Queue and the tap that open
and close it at a port. -/

namespace Sys2Proof.Machine

/-- The lane of port p waits for its calibration, or an engine calibrates it (R37). -/
def State.Awaits (s : State) (p : Port) : Prop := p ∈ s.calList ∨ ∃ e w, (s.engine e).cal = some w ∧ w.port = p

namespace Binding

variable {x : Option Port} {p : Port} {e : EngineId} {s t : State}

theorem awaits (h : Binding x s) (waits : s.Awaits p) : s.present p = true ∧ (s.lane p).state = .starting := by
  rcases waits with listed | ⟨e, w, cal, rfl⟩
  · obtain ⟨present, starting, -⟩ := h.waiting p listed
    exact ⟨present, starting⟩
  · exact h.calibrated e w cal

/-- A change that leaves queue and calibration list, takes no engine's tie away but those of a listen job, and keeps STARTING
where a calibration is to come. -/
theorem transfer (h : Binding x s) (queue : t.queue = s.queue) (calList : t.calList = s.calList)
    (straps : t.twelvePorts = s.twelvePorts) (engines : ∀ e, (s.engine e).Shrinks (t.engine e))
    (holder : ∀ p e, (t.lane p).holder = .engine e → (t.engine e).worksOn p = true)
    (sweep : ∀ p, x ≠ some p → (t.lane p).hold.sweep = (s.lane p).hold.sweep)
    (starting : ∀ p, s.Awaits p → (t.lane p).state = .starting) : Binding x t := by
  have present (p : Port) : t.present p = s.present p := by
    rw [State.present, State.present, State.portCount, State.portCount, straps]
  have bound (e : EngineId) : (t.engine e).bound = (s.engine e).bound := (engines e).bound (h.sound e)
  have works (e : EngineId) (p : Port) (free : (s.engine e).worksOn p = false) : (t.engine e).worksOn p = false :=
    Bool.eq_false_iff.2 fun still => by rw [(engines e).works p still] at free; cases free
  refine ⟨queue ▸ h.ports, fun e => (engines e).sound (h.sound e), fun e p b => queue ▸ h.bound e p (bound e ▸ b),
    fun y here => ?_, fun y here => (present y.port).trans (h.present y (queue ▸ here)), holder, fun p other => ?_,
    calList ▸ h.listed, fun p here => ?_, fun e w cal => ?_, fun d e p other still => ?_⟩
  · have kept := h.entry y (queue ▸ here)
    rw [State.entryBound_iff] at kept ⊢
    exact kept.imp_left fun ⟨e, own, running, b⟩ => ⟨e, own, running, (bound e).trans b⟩
  · rw [sweep p other, h.sweep p other, State.runs, State.runs, queue]
  · have listed : p ∈ s.calList := calList ▸ here
    obtain ⟨there, -, free⟩ := h.waiting p listed
    exact ⟨(present p).trans there, starting p (.inl listed), fun e => works e p (free e)⟩
  · obtain ⟨v, old, port⟩ := (engines e).cal w cal
    have waits : s.Awaits w.port := .inr ⟨e, v, old, port⟩
    exact ⟨(present _).trans (h.awaits waits).1, starting _ waits⟩
  · exact works e p (h.apart d e p other ((engines d).works p still))

/-- Writes beside lanes, engines, queue and calibration list. -/
theorem of_same (h : Binding x s) (lanes : t.lanes = s.lanes) (engines : t.engines = s.engines) (queue : t.queue = s.queue)
    (calList : t.calList = s.calList) (straps : t.twelvePorts = s.twelvePorts) : Binding x t := by
  have lane := State.lane_of_lanes lanes
  have engine := State.engine_of_engines engines
  refine h.transfer queue calList straps (fun e => by rw [engine]; exact .refl _) (fun p e held => ?_)
    (fun p _ => by rw [lane]) fun p waits => ?_
  · rw [engine]; rw [lane] at held; exact h.holder p e held
  · rw [lane]; exact (h.awaits waits).2

/-- A write to a lane that keeps SWEEP and its state and gives its port to an engine that works on it, if to any. -/
theorem handLane (h : Binding x s) {l : Lane} (holder : ∀ e, l.holder = .engine e → (s.engine e).worksOn p = true)
    (sweep : l.hold.sweep = (s.lane p).hold.sweep) (state : l.state = (s.lane p).state) : Binding x (s.setLane p l) := by
  refine h.transfer rfl rfl rfl (fun e => .refl _) (fun q e held => ?_) (fun q _ => ?_) fun q waits => ?_ <;>
    by_cases here : q = p
  · subst here; rw [State.lane_setLane_same] at held; exact holder e held
  · rw [State.lane_setLane_ne _ _ _ _ here] at held; exact h.holder q e held
  · subst here; rw [State.lane_setLane_same, sweep]
  · rw [State.lane_setLane_ne _ _ _ _ here]
  · subst here; rw [State.lane_setLane_same, state]; exact (h.awaits waits).2
  · rw [State.lane_setLane_ne _ _ _ _ here]; exact (h.awaits waits).2

/-- A write to a lane that keeps its holder, SWEEP and its state. -/
theorem setLane (h : Binding x s) {l : Lane} (holder : l.holder = (s.lane p).holder)
    (sweep : l.hold.sweep = (s.lane p).hold.sweep) (state : l.state = (s.lane p).state) : Binding x (s.setLane p l) :=
  h.handLane (fun e held => h.holder p e (holder ▸ held)) sweep state

theorem laneOp {g : Prop} (h : Binding x s) (k : LaneOp g p s t)
    (sweep : x ≠ some p → (t.lane p).hold.sweep = (s.lane p).hold.sweep)
    (starting : s.Awaits p → (t.lane p).state = .starting) : Binding x t := by
  refine h.transfer k.touches.queue k.touches.calList k.touches.twelvePorts (fun e => ?_) (fun q e held => ?_)
    (fun q other => ?_) fun q waits => ?_
  · rcases k.engine e with same | ⟨-, -, dropped⟩
    · rw [same]; exact .refl _
    · rw [dropped]; exact .without _ _
  · by_cases here : q = p
    · subst here
      have holder : (s.lane q).holder = .engine e := by
        rcases k.holder with same | back
        · exact same.symm.trans held
        · cases back.symm.trans held
      rcases k.engine e with same | ⟨-, back, -⟩
      · rw [same]; exact h.holder q e holder
      · cases back.symm.trans held
    · rw [k.touches.lane q here] at held
      have works := h.holder q e held
      rcases k.engine e with same | ⟨-, -, dropped⟩
      · rw [same]; exact works
      · rw [dropped]; exact Engine.without_worksOn_ne (h.sound e) here works
  · by_cases here : q = p
    · subst here; exact sweep other
    · rw [k.touches.lane q here]
  · by_cases here : q = p
    · subst here; exact starting waits
    · rw [k.touches.lane q here]; exact (h.awaits waits).2

/-- A lane operation that keeps SWEEP, and STARTING where the lane is in it. -/
theorem lane (h : Binding x s) (k : LaneKept False p s t)
    (starting : (s.lane p).state = .starting → (t.lane p).state = .starting) : Binding x t :=
  h.laneOp k.toLaneOp (fun _ => k.sweep) fun waits => starting (h.awaits waits).2

/-- A lane operation that keeps SWEEP, on a lane that start-up has left. -/
theorem laneAwake (h : Binding x s) (k : LaneKept False p s t) (awake : (s.lane p).state ≠ .starting) : Binding x t :=
  h.lane k fun starting => absurd starting awake

/-! ## Opening and closing a port -/

theorem open_ (h : Binding none s) : Binding x s := { h with sweep := fun p _ => h.sweep p nofun }

theorem close (h : Binding (some p) s) (sweep : (s.lane p).hold.sweep = s.runs p) : Binding none s where
  __ := h
  sweep := fun q _ => by
    by_cases here : q = p
    · subst here; exact sweep
    · exact h.sweep q fun same => here (Option.some.inj same).symm

end Binding

/-! ## What a lane in STARTING ignores -/

section Starting

variable {s : State} {p : Port}

theorem State.putReason_state (s : State) (p : Port) (r : HoldReason) (b : Bool) :
    ((s.putReason p r b).lane p).state = (s.lane p).state := by
  rw [State.putReason, State.lane_modifyLane_same]

theorem State.leaveHeldIfFree_starting (starting : (s.lane p).state = .starting) : s.leaveHeldIfFree p = s :=
  if_neg (by rintro ⟨state, -⟩; cases starting.symm.trans state)

theorem State.sweepWaitTest_starting (starting : (s.lane p).state = .starting) : s.sweepWaitTest p = s :=
  if_neg (by rintro ⟨state, -⟩; cases starting.symm.trans state)

theorem State.addReason_starting (starting : (s.lane p).state = .starting) (r : HoldReason) :
    ((s.addReason p r).lane p).state = .starting := by
  rcases s.addReason_cases p r with ⟨same, -⟩ | put | ⟨⟨st, state, -, other⟩, -⟩ | ⟨up, -, -⟩
  · rw [same]; exact starting
  · rw [put, State.putReason_state]; exact starting
  · exact absurd (state.symm.trans starting) other
  · cases starting.symm.trans up

theorem State.dropReason_starting (starting : (s.lane p).state = .starting) (r : HoldReason) :
    ((s.dropReason p r).lane p).state = .starting := by
  unfold State.dropReason
  split
  · have put := (s.putReason_state p r false).trans starting
    rw [State.leaveHeldIfFree_starting put]; exact put
  · exact starting

theorem State.laneEntryRemoved_starting (starting : (s.lane p).state = .starting) :
    ((s.laneEntryRemoved p).lane p).state = .starting := by
  have put := (s.putReason_state p .sweep false).trans starting
  unfold State.laneEntryRemoved
  simp only
  rw [if_neg (by rw [put]; decide), State.leaveHeldIfFree_starting put]
  exact put

theorem State.laneEntrySuspended_starting (starting : (s.lane p).state = .starting) :
    ((s.laneEntrySuspended p).lane p).state = .starting := by
  have dropped := State.dropReason_starting starting .sweep
  rw [State.laneEntrySuspended, State.sweepWaitTest_starting dropped]
  exact dropped

theorem State.quietAskLane_starting (starting : (s.lane p).state = .starting) (ask : QuietRecord) :
    ((s.quietAskLane p ask).lane p).state = .starting := by
  unfold State.quietAskLane
  simp only
  split
  · exact State.addReason_starting (by rw [State.lane_modifyLane_same]; exact starting) _
  · rw [State.lane_modifyLane_same]; exact starting

theorem State.quietEndLane_starting (starting : (s.lane p).state = .starting) (st : Station) (port : Port) :
    ((s.quietEndLane p st port).lane p).state = .starting := by
  unfold State.quietEndLane
  simp only
  split
  · split
    · exact State.dropReason_starting (by rw [State.lane_modifyLane_same]; exact starting) _
    · rw [State.lane_modifyLane_same]; exact starting
  · exact starting

end Starting

/-! ## SWEEP as the operations leave it -/

section Sweep

variable {s : State} {p : Port}

theorem State.putReason_sweep (s : State) (p : Port) (b : Bool) :
    ((s.putReason p .sweep b).lane p).hold.sweep = b := by
  rw [State.putReason, State.lane_modifyLane_same]
  rfl

/-- A lane that adds SWEEP holds it (R65). -/
theorem State.addReason_sweep (s : State) (p : Port) : ((s.addReason p .sweep).lane p).hold.sweep = true := by
  rcases s.addReason_cases p .sweep with ⟨same, has⟩ | put | ⟨⟨st, state, awake, -⟩, held⟩ | ⟨up, -, held⟩
  · rw [same]; exact has rfl
  · rw [put, State.putReason_sweep]
  · rw [held, (LaneKept.enterHeld (g := False) fun f => f.elim).sweep, State.putReason_sweep]
  · rw [held, (LaneKept.enterHeld (g := False) fun f => f.elim).sweep, State.putReason_sweep]

/-- A lane whose entry has been removed does not hold SWEEP (R82). -/
theorem State.laneEntryRemoved_sweep (s : State) (p : Port) : ((s.laneEntryRemoved p).lane p).hold.sweep = false := by
  unfold State.laneEntryRemoved
  simp only
  split
  · rw [(LaneKept.enterBackoff (g := False) fun f => f.elim).sweep, State.putReason_sweep]
  · rw [(LaneKept.leaveHeldIfFree (g := False)).sweep, State.putReason_sweep]

theorem State.laneEntrySuspended_sweep (s : State) (p : Port) :
    ((s.laneEntrySuspended p).lane p).hold.sweep = false := by
  rw [State.laneEntrySuspended, (LaneKept.sweepWaitTest (g := False)).sweep, State.dropReason]
  split
  · rw [(LaneKept.leaveHeldIfFree (g := False)).sweep, State.putReason_sweep]
  next has => exact Bool.eq_false_iff.2 has

end Sweep

end Sys2Proof.Machine
end

section
/-! SUPPORT. The binding through the steps of a sweep's start and end: the queue, the engine that takes an entry and the engine
that gives it up (R110 to R119, R125, R126). -/

namespace Sys2Proof.Machine

theorem State.setEngine_comm (s : State) {d e : EngineId} (other : d ≠ e) (g h : Engine) :
    (s.setEngine d g).setEngine e h = (s.setEngine e h).setEngine d g := by
  simp only [State.setEngine]
  rw [Vector.set_comm _ _ (Fin.val_ne_of_ne other)]

/-! ## A port that comes back to its lane -/

theorem Lane.release_holder (l : Lane) : l.release.holder = .lane := by
  unfold Lane.release
  simp only
  split <;> rfl

theorem Lane.release_hold (l : Lane) : l.release.hold = l.hold := by
  unfold Lane.release
  simp only
  split <;> rfl

theorem State.lane_releasePort_same (s : State) (e : EngineId) (p : Port) :
    (s.releasePort e p).lane p = if (s.lane p).holder = .engine e then (s.lane p).release else s.lane p := by
  unfold State.releasePort
  split
  · exact State.lane_modifyLane_same ..
  · rfl

theorem State.releasePort_free {s : State} {d e : EngineId} {p q : Port}
    (held : ((s.releasePort e p).lane q).holder = .engine d) : (s.lane q).holder = .engine d ∧ ¬(q = p ∧ d = e) := by
  by_cases here : q = p
  · subst here
    rw [State.lane_releasePort_same] at held
    split at held
    · rw [Lane.release_holder] at held; cases held
    next other => exact ⟨held, fun ⟨_, same⟩ => other (same ▸ held)⟩
  · rw [(Touches.releasePort e).lane q here] at held
    exact ⟨held, fun both => here both.1⟩

theorem State.releasePort_sweep (s : State) (e : EngineId) (p q : Port) :
    ((s.releasePort e p).lane q).hold.sweep = (s.lane q).hold.sweep := by
  by_cases here : q = p
  · subst here
    rw [State.lane_releasePort_same]
    split
    · rw [Lane.release_hold]
    · rfl
  · rw [(Touches.releasePort e).lane q here]

theorem State.releasePort_engine (s : State) (d e : EngineId) (p : Port) :
    (s.releasePort e p).engine d = s.engine d := by
  unfold State.releasePort
  split <;> rfl

/-- Two entries alike in port, state and engine. -/
structure Entry.Alike (y z : Entry) : Prop where
  port : y.port = z.port
  state : y.state = z.state
  engine : y.engine = z.engine

namespace Binding

variable {x : Option Port} {p : Port} {e : EngineId} {s t : State}

theorem releasePort (h : Binding x s) (e : EngineId) (p : Port) : Binding x (s.releasePort e p) := by
  unfold State.releasePort
  split
  · exact h.handLane (fun d held => by rw [Lane.release_holder] at held; cases held) (by rw [Lane.release_hold])
      (Lane.release_state _)
  · exact h

/-- Engine e goes on with the ties it has. -/
theorem setEngine (h : Binding x s) {g : Engine} (ties : (s.engine e).SameTies g) : Binding x (s.setEngine e g) := by
  refine h.transfer rfl rfl rfl (fun d => ?_) (fun q d held => ?_) (fun _ _ => rfl) fun q waits => (h.awaits waits).2 <;>
    by_cases own : d = e
  · subst own; rw [State.engine_setEngine_same]; exact ties.toShrinks
  · rw [State.engine_setEngine_ne _ _ _ _ own]; exact .refl _
  · subst own; rw [State.engine_setEngine_same]; exact ties.keeps q (h.holder q d held)
  · rw [State.engine_setEngine_ne _ _ _ _ own]; exact h.holder q d held

/-! ## The Sweep Queue -/

theorem entry_cases (h : Binding x s) {y : Entry} (here : y ∈ s.queue) :
    (∃ e, y.engine = some e ∧ y.state = .running ∧ (s.engine e).bound = some y.port) ∨
      y.engine = none ∧ y.state ≠ .running := State.entryBound_iff.1 (h.entry y here)

/-- The entry of a bound port is RUNNING on the engine bound to it. -/
theorem running_entry (h : Binding x s) (own : (s.engine e).bound = some p) {y : Entry} (here : y ∈ s.queue)
    (port : y.port = p) : y.engine = some e ∧ y.state = .running := by
  obtain ⟨z, there, named, engine⟩ := h.bound e p own
  cases List.inj_on_of_nodup_map h.ports here there (port.trans named.symm)
  rcases h.entry_cases here with ⟨_, _, running, _⟩ | ⟨none_, _⟩
  · exact ⟨engine, running⟩
  · cases none_.symm.trans engine

theorem not_bound (h : Binding x s) (free : s.runs p = false) (e : EngineId) : (s.engine e).bound ≠ some p := fun own => by
  obtain ⟨y, here, port, -⟩ := h.bound e p own
  exact State.runs_false.1 free y here port (h.running_entry own here port).2

/-- A queue with the same RUNNING entries, and others that are alike to old ones or wait for present ports. -/
theorem withQueue (h : Binding x s) {q : List Entry} (ports : (q.map Entry.port).Nodup)
    (entries : ∀ y ∈ q, (∃ z ∈ s.queue, y.Alike z) ∨ y.engine = none ∧ y.state ≠ .running ∧ s.present y.port = true)
    (running : ∀ z ∈ s.queue, z.state = .running → ∃ y ∈ q, y.Alike z) : Binding x { s with queue := q } where
  __ := h
  ports := ports
  bound := fun e p own => by
    obtain ⟨z, here, port, engine⟩ := h.bound e p own
    obtain ⟨y, there, alike⟩ := running z here (h.running_entry own here port).2
    exact ⟨y, there, alike.port.trans port, alike.engine.trans engine⟩
  entry := fun y here => by
    rw [State.entryBound_iff]
    rcases entries y here with ⟨z, there, port, state, engine⟩ | ⟨none_, waits, -⟩
    · rw [port, state, engine]; exact h.entry_cases there
    · exact .inr ⟨none_, waits⟩
  present := fun y here => by
    rcases entries y here with ⟨z, there, alike⟩ | ⟨-, -, present⟩
    · rw [alike.port]; exact h.present z there
    · exact present
  sweep := fun p other => by
    refine (h.sweep p other).trans ?_
    rw [Bool.eq_iff_iff, State.runs_iff, State.runs_iff]
    constructor
    · rintro ⟨z, here, port, state⟩
      obtain ⟨y, there, alike⟩ := running z here state
      exact ⟨y, there, alike.port.trans port, alike.state.trans state⟩
    · rintro ⟨y, here, port, state⟩
      rcases entries y here with ⟨z, there, alike⟩ | ⟨-, waits, -⟩
      · exact ⟨z, there, alike.port.symm.trans port, alike.state.symm.trans state⟩
      · exact absurd state waits

/-- A change of an entry that keeps its port, its state and its engine. -/
theorem modifyEntry (h : Binding x s) {f : Entry → Entry} (alike : ∀ y, (f y).Alike y) :
    Binding x (s.modifyEntry p f) := by
  have change (z : Entry) : (if z.port = p then f z else z).Alike z := by
    split
    exacts [alike z, ⟨rfl, rfl, rfl⟩]
  refine h.withQueue ?_ (fun y here => ?_) fun z here _ => ⟨_, List.mem_map.2 ⟨z, here, rfl⟩, change z⟩
  · rw [map_port_modify fun y => (alike y).port]; exact h.ports
  · obtain ⟨z, old, rfl⟩ := List.mem_map.1 here
    exact .inl ⟨z, old, change z⟩

theorem requestSweep (h : Binding x s) {r : SweepRequest} (present : s.present r.port = true) :
    Binding x (s.requestSweep r) := by
  unfold State.requestSweep
  split
  next new =>
    have absent : s.entryOf r.port = none := by
      unfold State.requestOutcome at new
      split at new
      · split at new <;> cases new
      · assumption
    refine h.withQueue ?_ (fun y here => ?_) fun z here _ => ⟨z, List.mem_append_left _ here, rfl, rfl, rfl⟩
    · rw [List.map_append, List.nodup_append]
      refine ⟨h.ports, List.nodup_singleton _, fun a old b fresh => ?_⟩
      obtain ⟨z, here, rfl⟩ := List.mem_map.1 old
      rw [List.mem_singleton.1 fresh]
      exact State.entryOf_none.1 absent z here
    · rcases List.mem_append.1 here with old | fresh
      · exact .inl ⟨y, old, rfl, rfl, rfl⟩
      · cases List.mem_singleton.1 fresh
        exact .inr ⟨rfl, nofun, present⟩
  next => exact h.modifyEntry fun _ => ⟨rfl, rfl, rfl⟩
  next => exact h
  next => exact h

/-! ## Removal and suspension -/

/-- The lane is told that its port has no RUNNING entry, and the port is closed (R82). -/
theorem laneEntryRemoved (h : Binding (some p) s) (free : s.runs p = false) : Binding none (s.laneEntryRemoved p) := by
  have told := LaneOp.laneEntryRemoved (g := False) (s := s) (p := p)
  refine (h.laneOp told (fun other => absurd rfl other)
    fun waits => State.laneEntryRemoved_starting (h.awaits waits).2).close ?_
  rw [State.laneEntryRemoved_sweep, State.runs, told.touches.queue]
  exact free.symm

theorem laneEntrySuspended (h : Binding (some p) s) (free : s.runs p = false) : Binding none (s.laneEntrySuspended p) := by
  have told := LaneOp.laneEntrySuspended (g := False) (s := s) (p := p)
  refine (h.laneOp told (fun other => absurd rfl other)
    fun waits => State.laneEntrySuspended_starting (h.awaits waits).2).close ?_
  rw [State.laneEntrySuspended_sweep, State.runs, told.touches.queue]
  exact free.symm

theorem runs_filter (s : State) (p : Port) :
    ({ s with queue := s.queue.filter fun y => decide (y.port ≠ p) } : State).runs p = false :=
  State.runs_false.2 fun _ here port => absurd port (of_decide_eq_true (List.mem_filter.1 here).2)

/-- The removal of an entry that is not RUNNING. -/
theorem removeEntry (h : Binding none s) (free : s.runs p = false) (o : RemovalOutcome) :
    Binding none (s.removeEntry p o) := by
  have posted : Binding none (s.post p (removalFlag o)) := h.of_same rfl rfl rfl rfl rfl
  refine (posted.withQueue (h.ports.sublist (List.filter_sublist.map _)) (fun y here => ?_) fun z here state => ?_).open_
    |>.laneEntryRemoved (runs_filter (s.post p (removalFlag o)) p)
  · exact .inl ⟨y, (List.mem_filter.1 here).1, rfl, rfl, rfl⟩
  · refine ⟨z, List.mem_filter.2 ⟨here, decide_eq_true fun port => ?_⟩, rfl, rfl, rfl⟩
    exact State.runs_false.1 free z here port state

/-- Engine e has given up its port p, whose entry is gone or waits again; the lane has not yet been told (R116, R126). -/
theorem freeEngine (h : Binding none s) (own : (s.engine e).bound = some p) {q : List Entry}
    (ports : (q.map Entry.port).Nodup)
    (entries : ∀ y ∈ q, y.port ≠ p ∧ y ∈ s.queue ∨ y.port = p ∧ y.engine = none ∧ y.state ≠ .running)
    (others : ∀ z ∈ s.queue, z.port ≠ p → z ∈ q) : Binding (some p) { s.freeEngine e p with queue := q } := by
  have released := h.releasePort e p
  have queue : (s.releasePort e p).queue = s.queue := (Touches.releasePort (p := p) e).queue
  let t : State := { s.freeEngine e p with queue := q }
  have here : t.engine e = .idle := State.engine_setEngine_same _ _ _
  have there (d : EngineId) (other : d ≠ e) : t.engine d = s.engine d :=
    (State.engine_setEngine_ne _ _ _ _ other).trans (s.releasePort_engine d e p)
  have present (r : Port) : t.present r = s.present r := (Touches.releasePort (p := p) e).present r
  have calList : t.calList = s.calList := (Touches.releasePort (p := p) e).calList
  have state (r : Port) : (t.lane r).state = (s.lane r).state := s.lane_state_releasePort e p r
  have works (d : EngineId) (r : Port) (free : (s.engine d).worksOn r = false) : (t.engine d).worksOn r = false := by
    by_cases same : d = e
    · rw [same, here]; exact Engine.idle_worksOn r
    · rw [there d same]; exact free
  have sole : s.present p = true := by
    obtain ⟨z, old, port, -⟩ := h.bound e p own
    exact port ▸ h.present z old
  refine
    { ports := ports, sound := fun d => ?_, bound := fun d r tied => ?_, entry := fun y new => ?_, present := fun y new => ?_,
      holder := fun r d held => ?_, sweep := fun r other => ?_, listed := calList ▸ h.listed, waiting := fun r listed => ?_,
      calibrated := fun d w cal => ?_, apart := fun d f r other working => ?_ }
  · by_cases same : d = e
    · rw [same, here]; rfl
    · rw [there d same]; exact h.sound d
  · by_cases same : d = e
    · rw [same, here] at tied; cases tied
    · rw [there d same] at tied
      obtain ⟨z, old, port, engine⟩ := h.bound d r tied
      refine ⟨z, others z old fun named => same ?_, port, engine⟩
      exact Option.some.inj (engine.symm.trans (h.running_entry own old named).1)
  · rw [State.entryBound_iff]
    rcases entries y new with ⟨away, old⟩ | ⟨-, none_, waits⟩
    · rcases h.entry_cases old with ⟨d, engine, running, tied⟩ | none_
      · refine .inl ⟨d, engine, running, ?_⟩
        rw [there d fun same => away (Option.some.inj (tied.symm.trans (same ▸ own)))]
        exact tied
      · exact .inr none_
    · exact .inr ⟨none_, waits⟩
  · rw [present]
    rcases entries y new with ⟨-, old⟩ | ⟨named, -⟩
    · exact h.present y old
    · rw [named]; exact sole
  · obtain ⟨before, apart⟩ := State.releasePort_free (s := s) (d := d) (e := e) (p := p) (q := r) held
    by_cases same : d = e
    · subst same
      have working := h.holder r d before
      rw [Engine.worksOn_of_bound (h.sound d) own] at working
      exact absurd ⟨working, rfl⟩ apart
    · rw [there d same]; exact h.holder r d before
  · have away : r ≠ p := fun same => other (same ▸ rfl)
    rw [show (t.lane r).hold.sweep = (s.lane r).hold.sweep from s.releasePort_sweep e p r, h.sweep r nofun, Bool.eq_iff_iff,
      State.runs_iff, State.runs_iff]
    constructor
    · rintro ⟨z, old, port, running⟩
      exact ⟨z, others z old fun named => away (port.symm.trans named), port, running⟩
    · rintro ⟨y, new, port, running⟩
      rcases entries y new with ⟨-, old⟩ | ⟨named, -⟩
      · exact ⟨y, old, port, running⟩
      · exact absurd (port.symm.trans named) away
  · obtain ⟨there_, starting, free⟩ := h.waiting r (calList ▸ listed)
    exact ⟨(present r).trans there_, (state r).trans starting, fun d => works d r (free d)⟩
  · by_cases same : d = e
    · rw [same, here] at cal; cases cal
    · rw [there d same] at cal
      rw [present, state]
      exact h.calibrated d w cal
  · refine works f r (h.apart d f r other ?_)
    by_contra idle
    rw [works d r (Bool.eq_false_iff.2 idle)] at working
    cases working

/-- The engine bound to a port gives it up and the entry is removed (R115, R125). -/
theorem freeEngine_removeEntry (h : Binding none s) (own : (s.engine e).bound = some p) (o : RemovalOutcome) :
    Binding none ((s.freeEngine e p).removeEntry p o) := by
  have queue : (s.freeEngine e p).queue = s.queue := (Touches.freeEngine (p := p) e).queue
  have freed := h.freeEngine own (q := s.queue.filter fun y => decide (y.port ≠ p))
    (h.ports.sublist (List.filter_sublist.map _))
    (fun y here => .inl ⟨of_decide_eq_true (List.mem_filter.1 here).2, (List.mem_filter.1 here).1⟩)
    fun z here away => List.mem_filter.2 ⟨here, decide_eq_true away⟩
  have posted : Binding (some p) { (s.freeEngine e p).post p (removalFlag o) with
      queue := (s.freeEngine e p).queue.filter fun y => decide (y.port ≠ p) } := by
    rw [queue]
    exact freed.of_same rfl rfl rfl rfl rfl
  exact posted.laneEntryRemoved (runs_filter ((s.freeEngine e p).post p (removalFlag o)) p)

/-- The engine bound to a port gives it up and the entry is suspended (R126). -/
theorem freeEngine_suspend (h : Binding none s) (own : (s.engine e).bound = some p) :
    Binding none (((s.freeEngine e p).modifyEntry p fun y =>
      { y with state := .suspended, engine := none, cancelPending := false }).laneEntrySuspended p) := by
  have queue : (s.freeEngine e p).queue = s.queue := (Touches.freeEngine (p := p) e).queue
  have suspended : Binding (some p) ((s.freeEngine e p).modifyEntry p fun y =>
      { y with state := .suspended, engine := none, cancelPending := false }) := by
    refine h.freeEngine own ?_ (fun y here => ?_) fun z here away => ?_
    · rw [queue, map_port_modify
        (f := fun y => { y with state := .suspended, engine := none, cancelPending := false }) fun _ => rfl]
      exact h.ports
    · rw [queue] at here
      obtain ⟨z, old, rfl⟩ := List.mem_map.1 here
      split
      next named => exact .inr ⟨named, rfl, nofun⟩
      next away => exact .inl ⟨away, old⟩
    · rw [queue]
      exact List.mem_map.2 ⟨z, here, if_neg away⟩
  refine suspended.laneEntrySuspended (State.runs_false.2 fun y here port => ?_)
  obtain ⟨z, -, rfl⟩ := List.mem_map.1 here
  split
  · nofun
  next away => rw [if_neg away] at port; exact absurd port away

end Binding

end Sys2Proof.Machine
end

section
/-! SUPPORT. The binding through the start choice: a lane leaves its listen job, an engine takes an entry, and each IDLE engine
chooses (R117 to R119, R171). -/

namespace Sys2Proof.Machine

/-! ## Leaving a listen job -/

theorem State.memberOf_some {s : State} {p : Port} {e : EngineId} {m : Member} (h : s.memberOf p = some (e, m)) :
    ∃ j, (s.engine e).job = some j ∧ m ∈ j.members ∧ m.port = p := by
  obtain ⟨d, -, found⟩ := List.exists_of_findSome?_eq_some h
  obtain ⟨j, job, found⟩ := Option.bind_eq_some_iff.1 found
  obtain ⟨n, found, pair⟩ := Option.map_eq_some_iff.1 found
  cases pair
  exact ⟨j, job, List.mem_of_find?_eq_some found, of_decide_eq_true (List.find?_some found :)⟩

theorem State.memberOf_none {s : State} {p : Port} (h : s.memberOf p = none) {e : EngineId} {j : ListenJob}
    (job : (s.engine e).job = some j) {m : Member} (member : m ∈ j.members) : m.port ≠ p := by
  have found := List.findSome?_eq_none_iff.1 h e (mem_allEngines e)
  rw [job, Option.bind_some, Option.map_eq_none_iff, List.find?_eq_none] at found
  exact fun port => found m member (decide_eq_true port)

theorem State.memberOf_congr {s t : State} (jobs : ∀ e, (t.engine e).job = (s.engine e).job) (p : Port) :
    t.memberOf p = s.memberOf p := by
  simp only [State.memberOf, jobs]

/-- A listening engine works on its members' ports. -/
theorem Engine.worksOn_of_member {g : Engine} {j : ListenJob} {m : Member} (job : g.job = some j) (member : m ∈ j.members) :
    g.worksOn m.port = true := Engine.worksOn_iff.2 (.inr (.inl ⟨j, job, m, member, rfl⟩))

/-! ## The binding of an engine to an entry -/

/-- Engine e is bound to the entry of port p, which f makes RUNNING on it (R119 steps 1 to 3). -/
def State.binds (s : State) (e : EngineId) (p : Port) (f : Entry → Entry) : State :=
  (s.modifyEntry p f).setEngine e { Engine.idle with state := .preparing, bound := some p }

theorem State.binds_engine_same (s : State) (e : EngineId) (p : Port) (f : Entry → Entry) :
    (s.binds e p f).engine e = { Engine.idle with state := .preparing, bound := some p } := State.engine_setEngine_same _ _ _

theorem State.binds_engine_ne (s : State) {d e : EngineId} (other : d ≠ e) (p : Port) (f : Entry → Entry) :
    (s.binds e p f).engine d = s.engine d := State.engine_setEngine_ne _ _ _ _ other

/-- The release of a port by another engine, before or after the binding. -/
theorem State.binds_detach (s : State) {d e : EngineId} (other : d ≠ e) (p : Port) (f : Entry → Entry) :
    ((s.binds e p f).detachMember d p).releasePort d p = ((s.detachMember d p).releasePort d p).binds e p f := by
  have detached : (s.binds e p f).detachMember d p = (s.detachMember d p).binds e p f := by
    rw [State.detachMember_eq, State.detachMember_eq, State.binds_engine_ne s other]
    exact State.setEngine_comm _ other.symm _ _
  rw [detached]
  unfold State.releasePort
  split <;> split
  · rfl
  next yes no => exact absurd yes no
  next no yes => exact absurd yes no
  · rfl

namespace Binding

variable {x : Option Port} {p : Port} {e : EngineId} {s t : State}

/-- An engine drops a port from its job and releases it (R171). -/
theorem detachRelease (h : Binding x s) (e : EngineId) (p : Port) :
    Binding x ((s.detachMember e p).releasePort e p) := by
  rw [State.detachMember_eq]
  let t := s.setEngine e ((s.engine e).without p)
  have rest := Touches.releasePort (p := p) (s := t) e
  have engine (d : EngineId) : (t.releasePort e p).engine d = if d = e then (s.engine e).without p else s.engine d := by
    rw [t.releasePort_engine d e p]
    split
    next own => rw [own, State.engine_setEngine_same]
    next other => exact State.engine_setEngine_ne _ _ _ _ other
  refine h.transfer rest.queue rest.calList rest.twelvePorts (fun d => ?_) (fun q d held => ?_)
    (fun q _ => t.releasePort_sweep e p q) fun q waits => (t.lane_state_releasePort e p q).trans (h.awaits waits).2
  · rw [engine]
    split
    next own => rw [own]; exact .without _ _
    next => exact .refl _
  · obtain ⟨before, apart⟩ := State.releasePort_free held
    have working : (s.engine d).worksOn q = true := h.holder q d before
    rw [engine]
    split
    next own =>
      subst own
      exact Engine.without_worksOn_ne (h.sound d) (fun here => apart ⟨here, rfl⟩) working
    next => exact working

theorem dropReason (h : Binding x s) {r : HoldReason} (other : r ≠ .sweep) : Binding x (s.dropReason p r) :=
  h.lane (LaneKept.dropReason other) fun starting => State.dropReason_starting starting r

theorem addReason (h : Binding x s) {r : HoldReason} (other : r ≠ .sweep) : Binding x (s.addReason p r) :=
  h.lane (LaneKept.addReason other) fun starting => State.addReason_starting starting r

theorem listenDrop (h : Binding x s) (p : Port) : Binding x (s.listenDrop p) := by
  unfold State.listenDrop
  split
  · exact h
  · simp only
    split
    · exact (h.detachRelease _ p).dropReason nofun
    · exact h.detachRelease _ p

/-- Engine e, which is IDLE, takes the entry of a port on which no engine works. -/
theorem binds (h : Binding none s) (idle : (s.engine e).state = .idle) (free : ∀ d, (s.engine d).worksOn p = false)
    (queued : ∃ y ∈ s.queue, y.port = p) (unlisted : p ∉ s.calList) {f : Entry → Entry}
    (running : ∀ y, (f y).port = y.port ∧ (f y).engine = some e ∧ (f y).state = .running) :
    Binding (some p) (s.binds e p f) := by
  let g : Engine := { Engine.idle with state := .preparing, bound := some p }
  have own : (s.binds e p f).engine e = g := s.binds_engine_same e p f
  have others (d : EngineId) (other : d ≠ e) : (s.binds e p f).engine d = s.engine d := s.binds_engine_ne other p f
  have sound : g.sound = true := rfl
  have sole (r : Port) (working : g.worksOn r = true) : r = p := (Engine.worksOn_of_bound sound rfl).1 working
  have kept {z : Entry} (old : z ∈ s.queue) (away : z.port ≠ p) : z ∈ (s.binds e p f).queue :=
    List.mem_map.2 ⟨z, old, if_neg away⟩
  have idleFree := fun r => Engine.worksOn_of_idle (q := r) (h.sound e) idle
  obtain ⟨idleBound, -, -⟩ := Engine.sound_of_idle (h.sound e) idle
  refine
    { ports := ?_, sound := fun d => ?_, bound := fun d r tied => ?_, entry := fun y new => ?_, present := fun y new => ?_,
      holder := fun r d held => ?_, sweep := fun r other => ?_, listed := h.listed, waiting := fun r listed => ?_,
      calibrated := fun d w cal => ?_, apart := fun d k r other working => ?_ }
  · exact (map_port_modify fun y => (running y).1).symm ▸ h.ports
  · by_cases same : d = e
    · rw [same, own]; exact sound
    · rw [others d same]; exact h.sound d
  · by_cases same : d = e
    · subst same
      rw [own] at tied
      cases tied
      obtain ⟨y, old, port⟩ := queued
      exact ⟨f y, List.mem_map.2 ⟨y, old, if_pos port⟩, (running y).1.trans port, (running y).2.1⟩
    · rw [others d same] at tied
      obtain ⟨z, old, port, engine⟩ := h.bound d r tied
      refine ⟨z, kept old fun named => ?_, port, engine⟩
      have working := (Engine.worksOn_of_bound (h.sound d) tied).2 (named.symm.trans port)
      rw [free d] at working
      cases working
  · obtain ⟨z, old, rfl⟩ := List.mem_map.1 new
    rw [State.entryBound_iff]
    split
    next named =>
      refine .inl ⟨e, (running z).2.1, (running z).2.2, ?_⟩
      rw [own, (running z).1, named]
    next away =>
      rcases h.entry_cases old with ⟨d, engine, runs, tied⟩ | none_
      · refine .inl ⟨d, engine, runs, ?_⟩
        rw [others d fun same => ?_]
        · exact tied
        · rw [same, idleBound] at tied; cases tied
      · exact .inr none_
  · obtain ⟨z, old, rfl⟩ := List.mem_map.1 new
    split
    · rw [(running z).1]; exact h.present z old
    · exact h.present z old
  · have working := h.holder r d held
    by_cases same : d = e
    · rw [same, idleFree] at working; cases working
    · rw [others d same]; exact working
  · have away : r ≠ p := fun same => other (same ▸ rfl)
    refine (h.sweep r nofun).trans ?_
    rw [Bool.eq_iff_iff, State.runs_iff, State.runs_iff]
    constructor
    · rintro ⟨z, old, port, state⟩
      exact ⟨z, kept old fun named => away (port.symm.trans named), port, state⟩
    · rintro ⟨y, new, port, state⟩
      obtain ⟨z, old, rfl⟩ := List.mem_map.1 new
      split at port
      next named => exact absurd (port.symm.trans ((running z).1.trans named)) away
      next named => exact ⟨z, old, port, by rw [if_neg named] at state; exact state⟩
  · obtain ⟨there, starting, unworked⟩ := h.waiting r listed
    refine ⟨there, starting, fun d => ?_⟩
    by_cases same : d = e
    · rw [same, own]
      exact Bool.eq_false_iff.2 fun working => unlisted (sole r working ▸ listed)
    · rw [others d same]; exact unworked d
  · by_cases same : d = e
    · rw [same, own] at cal; cases cal
    · rw [others d same] at cal; exact h.calibrated d w cal
  · by_cases first : d = e
    · subst first
      rw [own] at working
      rw [others k other.symm, sole r working]
      exact free k
    · rw [others d first] at working
      by_cases second : k = e
      · subst second
        rw [own]
        refine Bool.eq_false_iff.2 fun also => ?_
        rw [sole r also, free d] at working
        cases working
      · rw [others k second]; exact h.apart d k r other working

/-- No engine works on a lane whose entry waits, once the lane is past start-up and in no listen job. -/
theorem free_of_waits (h : Binding none s) (waits : s.runs p = false) (awake : (s.lane p).state ≠ .starting)
    (alone : s.memberOf p = none) (e : EngineId) : (s.engine e).worksOn p = false := by
  refine Bool.eq_false_iff.2 fun working => ?_
  rcases Engine.worksOn_iff.1 working with bound | ⟨j, job, m, member, port⟩ | ⟨w, cal, rfl⟩
  · exact h.not_bound waits e bound
  · exact State.memberOf_none alone job member port
  · exact awake (h.calibrated e w cal).2

theorem waiting_runs (h : Binding x s) {y : Entry} (here : y ∈ s.queue) (waits : y.state ≠ .running) :
    s.runs y.port = false :=
  State.runs_false.2 fun z there port => by
    rw [List.inj_on_of_nodup_map h.ports there here port]
    exact waits

/-- An IDLE engine starts an entry that waits, on a lane past start-up (R119). -/
theorem startEntry (h : Binding none s) (idle : (s.engine e).state = .idle) {y : Entry} (here : y ∈ s.queue)
    (waits : y.state ≠ .running) (awake : (s.lane y.port).state ≠ .starting) :
    Binding none (s.startEntry e y.port) := by
  let p := y.port
  let f (z : Entry) : Entry :=
    { z with state := .running, engine := some e, snapshot := some (z.snapshot.getD (s.lane p).snapshot) }
  have unlisted : p ∉ s.calList := fun listed => awake (h.waiting p listed).2.1
  have free := h.waiting_runs here waits
  obtain ⟨-, jobless, -⟩ := Engine.sound_of_idle (h.sound e) idle
  have jobs (d : EngineId) : ((s.binds e p f).engine d).job = (s.engine d).job := by
    by_cases same : d = e
    · rw [same, State.binds_engine_same, jobless]; rfl
    · rw [State.binds_engine_ne s same]
  have dropped : Binding (some p) ((s.binds e p f).listenDrop p) := by
    cases member : s.memberOf p with
    | none =>
      have bound := h.binds idle (h.free_of_waits free awake member) ⟨y, here, rfl⟩ unlisted
        (f := f) fun _ => ⟨rfl, rfl, rfl⟩
      rw [State.listenDrop, State.memberOf_congr jobs, member]
      exact bound
    | some found =>
      obtain ⟨d, m⟩ := found
      obtain ⟨j, job, among, port⟩ := State.memberOf_some member
      have working := Engine.worksOn_of_member job among
      have other : d ≠ e := fun same => by rw [same, jobless] at job; cases job
      let u := (s.detachMember d p).releasePort d p
      have engine (k : EngineId) : u.engine k = if k = d then (s.engine d).without p else s.engine k := by
        rw [show u.engine k = (s.detachMember d p).engine k from State.releasePort_engine _ k d p, State.detachMember_eq]
        split
        next own => rw [own, State.engine_setEngine_same]
        next away => exact State.engine_setEngine_ne _ _ _ _ away
      have touched : Touches p s u := (Touches.detachMember d p).trans (.releasePort d)
      have bound : Binding (some p) (u.binds e p f) := by
        refine (h.detachRelease d p).binds (by rw [engine, if_neg other.symm]; exact idle) (fun k => ?_)
          ⟨y, touched.queue ▸ here, rfl⟩ (touched.calList ▸ unlisted) fun _ => ⟨rfl, rfl, rfl⟩
        rw [engine]
        split
        · exact Engine.without_worksOn_same (h.sound d) job p
        next away => exact h.apart d k p (Ne.symm away) (port ▸ working)
      rw [State.listenDrop, State.memberOf_congr jobs, member]
      simp only
      rw [State.binds_detach s other]
      split
      · exact bound.dropReason nofun
      · exact bound
  have told := LaneOp.addReason (g := False) (s := (s.binds e p f).listenDrop p) (p := p) .sweep
  have queue : ((s.binds e p f).listenDrop p).queue = (s.binds e p f).queue := (Touches.listenDrop (p := p)).queue
  refine (dropped.laneOp told (fun other => absurd rfl other)
    fun waits => State.addReason_starting (dropped.awaits waits).2 _).close ?_
  rw [State.addReason_sweep]
  refine (State.runs_iff.2 ⟨f y, ?_, rfl, rfl⟩).symm
  rw [told.touches.queue, queue]
  exact List.mem_map.2 ⟨y, here, if_pos rfl⟩

end Binding

/-! ## The choice of each engine (R118) -/

theorem State.removeEntry_queue (s : State) (p : Port) (o : RemovalOutcome) :
    (s.removeEntry p o).queue = s.queue.filter fun y => decide (y.port ≠ p) :=
  (LaneOp.laneEntryRemoved (g := False)).touches.queue

theorem State.removeEntry_idle {s : State} {e : EngineId} (idle : (s.engine e).state = .idle) (p : Port)
    (o : RemovalOutcome) : ((s.removeEntry p o).engine e).state = .idle := by
  rcases (LaneOp.laneEntryRemoved (g := False)
    (s := { s.post p (removalFlag o) with queue := s.queue.filter fun y => decide (y.port ≠ p) }) (p := p)).engine e with
    same | ⟨-, -, dropped⟩
  · exact (congrArg Engine.state same).trans idle
  · exact (congrArg Engine.state dropped).trans (Engine.without_idle idle)

theorem State.startable_iff {s : State} {y : Entry} (h : s.startable y = true) :
    y.state ≠ .running ∧ (s.lane y.port).state ≠ .starting := by
  simp only [State.startable, Bool.and_eq_true, Bool.or_eq_true, decide_eq_true_eq] at h
  obtain ⟨⟨⟨waits, state⟩, -⟩, -⟩ := h
  refine ⟨waits, fun starting => ?_⟩
  rw [starting] at state
  rcases state with sweepable | ⟨up, -⟩
  · cases sweepable
  · cases up

theorem State.chosenEntry_some {s : State} {y : Entry} (h : s.chosenEntry = some y) :
    y ∈ s.queue ∧ s.startable y = true := by
  unfold State.chosenEntry at h
  split at h
  next found =>
    cases h
    have picked : (s.startable y && decide (y.origin = .supervisor)) = true := (List.find?_some found :)
    exact ⟨List.mem_of_find?_eq_some found, (Bool.and_eq_true_iff.1 picked).1⟩
  next => exact ⟨List.mem_of_find?_eq_some h, List.find?_some h⟩

namespace Binding

variable {e : EngineId} {s t : State}

/-- The entries the guard set blocks leave one by one, each of them waiting; an IDLE engine stays IDLE. -/
theorem removeEach (h : Binding none s) (l : List Entry) (waiting : ∀ y ∈ l, y ∈ s.queue ∧ y.state ≠ .running)
    {u : State} (k : Binding none u) (fewer : ∀ y ∈ u.queue, y ∈ s.queue)
    (still : (u.engine e).state = .idle) (o : RemovalOutcome) :
    Binding none (l.foldl (fun v y => v.removeEntry y.port o) u) ∧
      ((l.foldl (fun v y => v.removeEntry y.port o) u).engine e).state = .idle := by
  induction l generalizing u with
  | nil => exact ⟨k, still⟩
  | cons y l ih =>
    obtain ⟨here, waits⟩ := waiting y List.mem_cons_self
    have free : u.runs y.port = false := State.runs_false.2 fun z there port => by
      rw [List.inj_on_of_nodup_map h.ports (fewer z there) here port]
      exact waits
    refine ih (fun z later => waiting z (List.mem_cons_of_mem y later)) (k.removeEntry free o) (fun z there => ?_)
      (State.removeEntry_idle still _ o)
    rw [State.removeEntry_queue] at there
    exact fewer z (List.mem_filter.1 there).1

theorem removeGuarded (h : Binding none s) (idle : (s.engine e).state = .idle) :
    Binding none s.removeGuarded ∧ (s.removeGuarded.engine e).state = .idle := by
  refine h.removeEach _ (fun y blocked => ?_) h (fun _ here => here) idle _
  obtain ⟨here, blocked⟩ := List.mem_filter.1 blocked
  simp only [State.guardBlocked, Bool.and_eq_true, decide_eq_true_eq] at blocked
  exact ⟨here, blocked.1.1.1⟩

theorem engineChooses (h : Binding none s) (e : EngineId) : Binding none (s.engineChooses e) := by
  unfold State.engineChooses
  split
  next idle =>
    obtain ⟨removed, still⟩ := h.removeGuarded idle
    simp only
    split
    next y chosen =>
      obtain ⟨here, startable⟩ := State.chosenEntry_some chosen
      obtain ⟨waits, awake⟩ := State.startable_iff startable
      exact removed.startEntry still here waits awake
    next => exact removed
  next => exact h

theorem startChoice (h : Binding none s) : Binding none s.startChoice :=
  ((h.engineChooses 0).engineChooses 1).engineChooses 0

theorem transmitChoice {x : Option Port} (h : Binding x s) : Binding x s.transmitChoice := by
  obtain ⟨tx, rx, lo, run, same⟩ := s.transmitChoice_rest
  rw [same]
  exact h.of_same rfl rfl rfl rfl rfl

/-- The end of every command. -/
theorem settle (h : Binding none s) : Binding none s.settle := h.startChoice.transmitChoice

end Binding

end Sys2Proof.Machine
end

section
/-! SUPPORT. The binding through a sweep and a calibration: announcements, shots, pairs, pass ends, and the lanes calibrated one
after the other (R37, R38, R115, R120 to R126). -/

namespace Sys2Proof.Machine

namespace Binding

variable {x : Option Port} {p : Port} {e : EngineId} {s t : State}

theorem ite {c : Prop} [Decidable c] {u v : State} (a : c → Binding x u) (b : ¬c → Binding x v) :
    Binding x (if c then u else v) := by
  split
  next h => exact a h
  next h => exact b h

/-! ## Writes beside the binding -/

theorem post (h : Binding x s) (p : Port) (f : ChangeFlag) : Binding x (s.post p f) := h.of_same rfl rfl rfl rfl rfl

theorem setRecord (h : Binding x s) (p : Port) (r : CableRecord) : Binding x (s.setRecord p r) :=
  h.of_same rfl rfl rfl rfl rfl

theorem setHoldoff (h : Binding x s) (p : Port) (due : Option Ms) : Binding x (s.setHoldoff p due) :=
  h.of_same rfl rfl rfl rfl rfl

theorem postCoord (h : Binding x s) (f : Frame) (d : Option EngineId) : Binding x (s.postCoord f d) := by
  unfold State.postCoord
  split
  · exact h.of_same rfl rfl rfl rfl rfl
  · split
    · exact h
    · split
      · exact h
      · exact h.of_same rfl rfl rfl rfl rfl

end Binding

theorem State.postCoord_engine (s : State) (f : Frame) (d : Option EngineId) (e : EngineId) :
    (s.postCoord f d).engine e = s.engine e := by
  unfold State.postCoord
  split
  · rfl
  · split
    · rfl
    · split <;> rfl

/-- A lane operation leaves what each engine is bound to. -/
theorem LaneOp.bound {g : Prop} {p : Port} {s t : State} (k : LaneOp g p s t) {e : EngineId}
    (sound : (s.engine e).sound = true) : (t.engine e).bound = (s.engine e).bound := by
  rcases k.engine e with same | ⟨-, -, dropped⟩
  · rw [same]
  · rw [dropped]; exact (Engine.Shrinks.without _ _).bound sound

/-! ## An engine that sweeps a port -/

/-- Engine e is bound to port p, and everything is bound. -/
structure Sweeping (e : EngineId) (p : Port) (s : State) : Prop where
  binding : Binding none s
  own : (s.engine e).bound = some p

namespace Sweeping

variable {p : Port} {e : EngineId} {s t : State}

theorem works (h : Sweeping e p s) : (s.engine e).worksOn p = true :=
  (Engine.worksOn_of_bound (h.binding.sound e) h.own).2 rfl

/-- The engine goes on in one of the states of a sweep. -/
theorem modifyEngine (h : Sweeping e p s) {f : Engine → Engine}
    (ties : ∀ g : Engine, (f g).bound = g.bound ∧ (f g).job = g.job ∧ (f g).cal = g.cal)
    (state : ∀ g : Engine, g.state = .preparing ∨ g.state = .shooting ∨ g.state = .analysing →
      (f g).state = .preparing ∨ (f g).state = .shooting ∨ (f g).state = .analysing) :
    Sweeping e p (s.modifyEngine e f) where
  binding := h.binding.setEngine (.sweeping h.own (ties _).1 (ties _).2.1 (ties _).2.2 (state _))
  own := by rw [State.engine_modifyEngine_same, (ties _).1]; exact h.own

theorem postCoord (h : Sweeping e p s) (f : Frame) (d : Option EngineId) : Sweeping e p (s.postCoord f d) :=
  ⟨h.binding.postCoord f d, by rw [State.postCoord_engine]; exact h.own⟩

theorem modifyEntry (h : Sweeping e p s) (q : Port) {f : Entry → Entry} (alike : ∀ y, (f y).Alike y) :
    Sweeping e p (s.modifyEntry q f) := ⟨h.binding.modifyEntry alike, h.own⟩

theorem shootPort (h : Sweeping e p s) (c : Byte → TapCommand) : Sweeping e p (s.shootPort e p c) where
  binding := h.binding.handLane (fun d held => by cases held; exact h.works) rfl rfl
  own := h.own

theorem closeCapture (h : Sweeping e p s) : Sweeping e p (s.modifyLane p Lane.closeCapture) :=
  ⟨h.binding.setLane rfl rfl rfl, h.own⟩

theorem postEndFrame (h : Sweeping e p s) : Sweeping e p (s.postEndFrame e p) := by
  unfold State.postEndFrame
  refine Sweeping.modifyEngine ?_ (fun _ => ⟨rfl, rfl, rfl⟩) fun _ state => state
  split
  · exact h
  · exact h.postCoord _ _
  · exact h.postCoord _ _

/-! ## The ends of a sweep -/

theorem completeSweep (h : Sweeping e p s) : Binding none (s.completeSweep e p) := by
  have ended : Sweeping e p ((s.postCoord (sweepEndFrame p) (some e)).modifyEngine e fun g =>
      { g with announcement := .none }) :=
    (h.postCoord _ _).modifyEngine (fun _ => ⟨rfl, rfl, rfl⟩) fun _ state => state
  exact ended.binding.freeEngine_removeEntry ended.own .done

theorem cancelStop (h : Sweeping e p s) : Binding none (s.cancelStop e p) :=
  h.postEndFrame.binding.freeEngine_removeEntry h.postEndFrame.own .cancelled

theorem suspendSweep (h : Sweeping e p s) : Binding none (s.suspendSweep e p) :=
  h.postEndFrame.binding.freeEngine_suspend h.postEndFrame.own

/-! ## Shots and pairs -/

theorem fireShot (h : Sweeping e p s) (q : Pair) : Sweeping e p (s.fireShot e p q) :=
  (h.modifyEngine (f := fun g => { g with issued := g.issued + 1 }) (fun _ => ⟨rfl, rfl, rfl⟩) fun _ state => state).shootPort _

theorem beginPair (h : Sweeping e p s) (q : Pair) : Sweeping e p (s.beginPair e p q) :=
  (h.modifyEngine (f := (·.beginPair q)) (fun _ => ⟨rfl, rfl, rfl⟩) fun _ _ => .inr (.inl rfl)).fireShot q

theorem passEnd (h : Sweeping e p s) {y : Entry} (port : y.port = p) : Binding none (s.passEnd e y) := by
  subst port
  refine .ite (fun _ => h.completeSweep) fun _ => .ite (fun _ => h.suspendSweep) fun _ => ?_
  have retried : Sweeping e y.port ((s.postCoord (sweepEndFrame y.port) (some e)).modifyEntry y.port fun z =>
      { z with retries := z.retries + 1 }) := (h.postCoord _ _).modifyEntry _ fun _ => ⟨rfl, rfl, rfl⟩
  let due := s.after Config.retryWaitMs
  exact (retried.modifyEngine (f := fun g => { g with
    state := .preparing, current := none, announcement := .none, timer := some (.retryWait, due) })
    (fun _ => ⟨rfl, rfl, rfl⟩) fun _ _ => .inl rfl).binding

theorem afterPair (h : Sweeping e p s) (q : Pair) : Binding none (s.afterPair e p q) := by
  unfold State.afterPair
  split
  next => exact h.binding
  next y entry =>
    refine .ite (fun _ => .ite (fun _ => h.completeSweep) fun _ => h.cancelStop) fun _ => ?_
    split
    · exact .ite (fun _ => h.suspendSweep) fun _ => (h.beginPair _).binding
    · exact h.passEnd (State.entryOf_some entry).2

theorem pairWrite (h : Sweeping e p s) (q : Pair) (r : PairResult) (o : Origin) (c : Bool) :
    Sweeping e p (s.pairWrite p q r o c) := by
  let old := s.record p
  let new := old.write q r o c
  have written : Sweeping e p (s.setRecord p new) := ⟨h.binding.setRecord p new, h.own⟩
  have handed : Sweeping e p ((s.setRecord p new).handOver p old.allowed new.allowed) := by
    unfold State.handOver
    split
    next parked =>
      have kept := LaneKept.unparkByRecord (g := False) (s := s.setRecord p new) (p := p)
      exact ⟨written.binding.laneAwake kept (by rw [parked.1]; decide),
        (kept.bound (written.binding.sound e)).trans written.own⟩
    next => exact written
  unfold State.pairWrite State.postOption
  simp only
  split
  · exact ⟨handed.binding.post p _, handed.own⟩
  · exact handed

theorem writePair (h : Sweeping e p s) (q : Pair) (r : PairResult) : Binding none (s.writePair e p q r) := by
  unfold State.writePair
  split
  next => exact h.binding
  next y _ =>
    have counted : Sweeping e p (s.modifyEntry p fun z => { z with completed := addPair y.completed q }) :=
      h.modifyEntry p fun _ => ⟨rfl, rfl, rfl⟩
    have cleared : Sweeping e p ((s.modifyEntry p fun z => { z with completed := addPair y.completed q }).modifyEngine e
        (·.clearPair)) := counted.modifyEngine (fun _ => ⟨rfl, rfl, rfl⟩) fun _ state => state
    exact (cleared.pairWrite q r y.origin _).afterPair q

theorem afterShot (h : Sweeping e p s) (q : Pair) (depth : Nat) : Binding none (s.afterShot e p q depth) :=
  .ite (fun _ => h.writePair _ _) fun _ => .ite (fun _ => (h.fireShot q).binding) fun _ =>
    .ite (fun _ => h.writePair _ _) fun _ =>
      (h.modifyEngine (f := fun g => { g with
        state := .analysing, timer := some (.analysis, s.after Config.analysisMs) })
        (fun _ => ⟨rfl, rfl, rfl⟩) fun _ _ => .inr (.inr rfl)).binding

theorem endAnalysis (h : Sweeping e p s) (q : Pair) : Binding none (s.endAnalysis e p q) := by
  unfold State.endAnalysis
  split
  next => exact h.binding
  next =>
    refine .ite (fun _ => ?_) fun _ => h.writePair _ _
    have held : Sweeping e p (s.modifyEngine e fun g => { g.clearPair with heldBack := addPair g.heldBack q }) :=
      h.modifyEngine (fun _ => ⟨rfl, rfl, rfl⟩) fun _ state => state
    exact held.afterPair q

theorem preparePass (h : Sweeping e p s) (y : Entry) : Binding none (s.preparePass e y) :=
  ((h.postCoord _ _).modifyEngine (f := fun g => { g with
    passPairs := y.remaining, heldBack := 0, announcement := .asked
    timer := some (.settle, s.after Config.settleMs) }) (fun _ => ⟨rfl, rfl, rfl⟩) fun _ state => state).binding

theorem settled (h : Sweeping e p s) {y : Entry} (port : y.port = p) : Binding none (s.settled e y) := by
  subst port
  let pairs := (s.engine e).passPairs
  have started : Sweeping e y.port ((s.postCoord
      (sweepStartFrame y.port pairs (listenUnits (pairsOf pairs).length y.depth)) (some e)).modifyEngine e
        fun g => { g.stopTimer with announcement := .started }) :=
    (h.postCoord _ _).modifyEngine (fun _ => ⟨rfl, rfl, rfl⟩) fun _ state => state
  unfold State.settled
  simp only
  split
  · exact (started.beginPair _).binding
  · exact started.binding

end Sweeping

/-! ## Captures -/

theorem Engine.bound_of_shooting {g : Engine} {p : Port} (sound : g.sound = true) (state : g.state = .shooting)
    (works : g.worksOn p = true) : g.bound = some p := by
  simp only [Engine.sound, state, Bool.and_eq_true, Option.isNone_iff_eq_none] at sound
  obtain ⟨⟨-, job⟩, cal⟩ := sound
  rcases Engine.worksOn_iff.1 works with bound | ⟨j, isJob, -⟩ | ⟨w, isCal, -⟩
  · exact bound
  · cases job.symm.trans isJob
  · cases cal.symm.trans isCal

/-- The calibration in progress goes on with the same lane. -/
theorem Engine.SameTies.recalibrates {g h : Engine} {w v : CalWork} (cal : g.cal = some w) (calNext : h.cal = some v)
    (port : v.port = w.port) (bound : h.bound = g.bound) (job : h.job = g.job)
    (state : h.state = g.state) : g.SameTies h := by
  have works (p : Port) : h.worksOn p = g.worksOn p := by simp [Engine.worksOn, bound, job, cal, calNext, port]
  refine ⟨⟨fun sound => ?_, fun _ => bound, fun p => (works p ▸ ·), fun u c => ⟨w, cal, ?_⟩⟩, fun p => (works p ▸ ·)⟩
  · obtain ⟨unbound, jobless, calibrating⟩ := Engine.sound_of_cal sound cal
    simp [Engine.sound, state, calibrating, bound, unbound, job, jobless, calNext]
  · cases calNext.symm.trans c
    exact port.symm

namespace Binding

variable {x : Option Port} {p : Port} {e : EngineId} {s t : State}

theorem sweeping_of_holder (h : Binding none s) (held : (s.lane p).holder = .engine e)
    (state : (s.engine e).state = .shooting) : Sweeping e p s :=
  ⟨h, Engine.bound_of_shooting (h.sound e) state (h.holder p e held)⟩

theorem closeCapture (h : Binding x s) (p : Port) : Binding x (s.modifyLane p Lane.closeCapture) := h.setLane rfl rfl rfl

theorem shotCompleted (h : Sweeping e p s) (b : Four ShotBlock) : Binding none (s.shotCompleted e p b) := by
  unfold State.shotCompleted
  split
  next q _ _ _ =>
    exact (h.closeCapture.modifyEngine (f := (·.accumulate q b)) (fun _ => ⟨rfl, rfl, rfl⟩)
      fun _ state => state).afterShot _ _
  · exact h.closeCapture.binding

/-! ## Calibration -/

theorem fireCal (h : Binding x s) {w : CalWork} (cal : (s.engine e).cal = some w) : Binding x (s.fireCal e w.port) := by
  let f (g : Engine) : Engine := { g with cal := g.cal.map fun w => { w with issued := w.issued + 1 } }
  have next : (f (s.engine e)).cal = some { w with issued := w.issued + 1 } := by
    show (s.engine e).cal.map _ = _
    rw [cal]
    rfl
  have counted : Binding x (s.modifyEngine e f) := h.setEngine (.recalibrates cal next rfl rfl rfl rfl)
  refine counted.handLane (fun d held => ?_) rfl rfl
  cases held
  rw [State.engine_modifyEngine_same]
  exact Engine.worksOn_iff.2 (.inr (.inr ⟨_, next, rfl⟩))

theorem afterCalShot (h : Binding x s) (e : EngineId) : Binding x (s.afterCalShot e) := by
  unfold State.afterCalShot
  split
  next => exact h
  next w cal => exact .ite (fun _ => h.fireCal cal) fun _ => h.setEngine (.of_fields rfl rfl rfl id)

theorem calShotCompleted (h : Binding x s) (e : EngineId) (p : Port) (b : ShotBlock) :
    Binding x (s.calShotCompleted e p b) := by
  refine Binding.afterCalShot ?_ e
  refine (h.closeCapture p).setEngine ?_
  change ((s.modifyLane p Lane.closeCapture).engine e).SameTies (Engine.accumulateCal _ b)
  cases cal : ((s.modifyLane p Lane.closeCapture).engine e).cal with
  | none =>
    refine .of_fields rfl rfl (by simp [Engine.accumulateCal, cal]) fun sound => ?_
    simpa [Engine.sound, Engine.accumulateCal, cal] using sound
  | some w =>
    exact .recalibrates (v := { w with
      completed := w.completed + 1, sums := addSamples w.sums (sampleInts b.window) }) cal
      (by simp [Engine.accumulateCal, cal]) rfl rfl rfl rfl

theorem shotFailed (h : Binding none s) (p : Port) : Binding none (s.shotFailed p) := by
  cases held : (s.lane p).holder with
  | lane => simp only [State.shotFailed, held]; exact h.closeCapture p
  | engine e =>
    rw [State.shotFailed_eq held]
    split
    · exact (h.closeCapture p).afterCalShot e
    next state =>
      have sweeping := (h.sweeping_of_holder held state).closeCapture
      split
      · exact (sweeping.modifyEngine (f := fun g => { g with failedRun := g.failedRun + 1 }) (fun _ => ⟨rfl, rfl, rfl⟩)
          fun _ state => state).afterShot _ _
      · exact sweeping.binding
    all_goals exact h.closeCapture p

/-- Another calibration list of lanes in STARTING on which no engine works. -/
theorem withCalList (h : Binding x s) {l : List Port} (nodup : l.Nodup) (each : ∀ p ∈ l,
    s.present p = true ∧ (s.lane p).state = .starting ∧ ∀ e, (s.engine e).worksOn p = false) :
    Binding x { s with calList := l } := { h with listed := nodup, waiting := each }

/-- An engine that holds no port and is bound to none takes up other work, on ports where the other engine does not work. -/
theorem takesUp (h : Binding x s) (unheld : ∀ q, (s.lane q).holder ≠ .engine e) (unbound : (s.engine e).bound = none)
    {g : Engine} (sound : g.sound = true) (bound : g.bound = none)
    (works : ∀ r, g.worksOn r = true → r ∉ s.calList ∧ ∀ d, d ≠ e → (s.engine d).worksOn r = false)
    (cal : ∀ w, g.cal = some w → s.present w.port = true ∧ (s.lane w.port).state = .starting) :
    Binding x (s.setEngine e g) := by
  let t := s.setEngine e g
  have own : t.engine e = g := State.engine_setEngine_same _ _ _
  have others (d : EngineId) (other : d ≠ e) : t.engine d = s.engine d := State.engine_setEngine_ne _ _ _ _ other
  refine
    { ports := h.ports, sound := fun d => ?_, bound := fun d r tied => ?_, entry := fun y here => ?_,
      present := h.present, holder := fun r d held => ?_, sweep := h.sweep, listed := h.listed,
      waiting := fun r listed => ?_, calibrated := fun d w isCal => ?_, apart := fun d k r other working => ?_ }
  · by_cases same : d = e
    · rw [same, own]; exact sound
    · rw [others d same]; exact h.sound d
  · by_cases same : d = e
    · rw [same, own, bound] at tied; cases tied
    · rw [others d same] at tied; exact h.bound d r tied
  · rw [State.entryBound_iff]
    refine (h.entry_cases here).imp_left fun ⟨d, engine, running, tied⟩ => ⟨d, engine, running, ?_⟩
    rw [others d fun same => ?_]
    · exact tied
    · rw [same, unbound] at tied; cases tied
  · rw [others d fun same => unheld r (same ▸ held)]
    exact h.holder r d held
  · obtain ⟨present, starting, unworked⟩ := h.waiting r listed
    refine ⟨present, starting, fun d => ?_⟩
    by_cases same : d = e
    · rw [same, own]
      exact Bool.eq_false_iff.2 fun working => (works r working).1 listed
    · rw [others d same]; exact unworked d
  · by_cases same : d = e
    · rw [same, own] at isCal; exact cal w isCal
    · rw [others d same] at isCal; exact h.calibrated d w isCal
  · by_cases first : d = e
    · subst first
      rw [own] at working
      rw [others k other.symm]
      exact (works r working).2 k other.symm
    · rw [others d first] at working
      by_cases second : k = e
      · subst second
        rw [own]
        refine Bool.eq_false_iff.2 fun also => ?_
        rw [(works r also).2 d first] at working
        cases working
      · rw [others k second]; exact h.apart d k r other working

theorem goesIdle (h : Binding x s) (unheld : ∀ q, (s.lane q).holder ≠ .engine e) (unbound : (s.engine e).bound = none) :
    Binding x (s.setEngine e .idle) :=
  h.takesUp unheld unbound rfl rfl (fun r working => absurd working (by simp [Engine.idle_worksOn])) nofun

/-- A free engine takes the next lane of the calibration list, or goes IDLE (R37). -/
theorem takeCalibration (h : Binding none s) (unheld : ∀ q, (s.lane q).holder ≠ .engine e)
    (unbound : (s.engine e).bound = none) : Binding none (s.takeCalibration e) := by
  unfold State.takeCalibration
  split
  next => exact h.goesIdle unheld unbound
  next p rest waits =>
    let g : Engine := { Engine.idle with state := .calibrating, cal := some ⟨p, 0, 0, clearedSums⟩ }
    have listed := h.listed
    rw [waits, List.nodup_cons] at listed
    obtain ⟨present, starting, free⟩ := h.waiting p (waits ▸ List.mem_cons_self)
    have taken : Binding none (({ s with calList := rest } : State).setEngine e g) := by
      refine (h.withCalList listed.2 fun r later => h.waiting r (waits ▸ List.mem_cons_of_mem p later)).takesUp unheld unbound
        rfl rfl (fun r working => ?_) fun w isCal => ?_
      · have sole : r = p := (Engine.worksOn_of_cal (g := g) rfl rfl).1 working
        exact ⟨fun later => listed.1 (sole ▸ later), fun d _ => sole ▸ free d⟩
      · cases isCal
        exact ⟨present, starting⟩
    exact taken.fireCal (w := ⟨p, 0, 0, clearedSums⟩) (congrArg Engine.cal (State.engine_setEngine_same _ _ _))

theorem finishCalibration (h : Binding none s) (e : EngineId) : Binding none (s.finishCalibration e) := by
  unfold State.finishCalibration
  split
  next => exact h
  next w cal =>
    let result := calibrationOffset (pulseCode s.station) w.sums w.completed
    let t := s.modifyLane w.port fun l => { l with offsetT := result.1, calDefaulted := result.2 }
    have set_ : Binding none t := h.setLane rfl rfl rfl
    obtain ⟨unbound, -, -⟩ := Engine.sound_of_cal (h.sound e) cal
    refine (set_.releasePort e w.port).takeCalibration (fun q held => ?_) ?_
    · obtain ⟨before, apart⟩ := State.releasePort_free held
      exact apart ⟨(Engine.worksOn_of_cal (h.sound e) cal).1 (set_.holder q e before), rfl⟩
    · rw [t.releasePort_engine e e w.port]; exact unbound

end Binding

/-! ## The end of start-up -/

theorem LaneOp.awaits {g : Prop} {p q : Port} {s t : State} (k : LaneOp g p s t) (waits : t.Awaits q) : s.Awaits q := by
  rcases waits with listed | ⟨e, w, cal, port⟩
  · exact .inl (k.touches.calList ▸ listed)
  · refine .inr ⟨e, ?_⟩
    rcases k.engine e with same | ⟨-, -, dropped⟩
    · exact ⟨w, same ▸ cal, port⟩
    · obtain ⟨v, old, named⟩ := (Engine.Shrinks.without (s.engine e) p).cal w (dropped ▸ cal)
      exact ⟨v, old, named.trans port⟩

theorem LaneKept.leaveStarting {p : Port} {s : State} : LaneKept False p s (s.leaveStarting p) := by
  unfold State.leaveStarting
  simp only
  split
  · exact .transferAndRestore_enterAdvertise true
  · exact LaneKept.transferAndRestore.trans .enterDisabled

namespace Binding

variable {s : State}

/-- Lanes leave STARTING once no calibration is to come. -/
theorem leaveEach (h : Binding none s) (none_ : ∀ q, ¬s.Awaits q) (l : List Port) :
    Binding none (l.foldl State.leaveStarting s) := by
  induction l generalizing s with
  | nil => exact h
  | cons p l ih =>
    have kept := LaneKept.leaveStarting (p := p) (s := s)
    exact ih (h.laneOp kept.toLaneOp (fun _ => kept.sweep) fun waits => absurd waits (none_ p))
      fun q waits => none_ q (kept.awaits waits)

theorem startupEnd (h : Binding none s) : Binding none s.startupEnd := by
  refine .ite (fun ended => ?_) fun _ => h
  obtain ⟨-, empty, zero, one⟩ := ended
  have idle (e : EngineId) : (s.engine e).state = .idle := (forall_engine (f := fun e => (s.engine e).state = .idle)).2 ⟨zero, one⟩ e
  refine (h.leaveEach (fun q waits => ?_) _).of_same rfl rfl rfl rfl rfl
  rcases waits with listed | ⟨e, w, cal, -⟩
  · rw [empty] at listed; cases listed
  · obtain ⟨-, -, none_⟩ := Engine.sound_of_idle (h.sound e) (idle e)
    cases none_.symm.trans cal

end Binding

end Sys2Proof.Machine
end

section
/-! SUPPORT. The binding through listen jobs, the frames of peers, failures, and the events of taps and timers (R47, R52 to R85,
R165 to R181). -/

namespace Sys2Proof.Machine

/-- An engine's listen job goes on with the same ports. -/
theorem Engine.SameTies.rereads {g h : Engine} {f : ListenJob → ListenJob} (job : h.job = g.job.map f)
    (members : ∀ j, (f j).members.map Member.port = j.members.map Member.port) (bound : h.bound = g.bound)
    (cal : h.cal = g.cal) (state : h.state = g.state) (announcement : h.announcement = g.announcement) : g.SameTies h := by
  have ports (j : ListenJob) (p : Port) :
      ((f j).members.any fun m => decide (m.port = p)) = j.members.any fun m => decide (m.port = p) := by
    have named (l : List Member) : (l.any fun m => decide (m.port = p)) = (l.map Member.port).any fun q => decide (q = p) := by
      rw [List.any_map]; rfl
    rw [named, named, members]
  have works (p : Port) : h.worksOn p = g.worksOn p := by
    unfold Engine.worksOn
    rw [bound, job, cal]
    cases g.job with
    | none => rfl
    | some j => simp only [Option.map_some, ports]
  refine ⟨⟨fun sound => ?_, fun _ => bound, fun p => (works p ▸ ·), fun w c => ⟨w, cal ▸ c, rfl⟩⟩, fun p => (works p ▸ ·)⟩
  unfold Engine.sound at sound ⊢
  rw [state, bound, cal, job, announcement]
  simpa using sound

theorem State.releasePort_setEngine (s : State) (d e : EngineId) (g : Engine) (p : Port) :
    (s.setEngine d g).releasePort e p = (s.releasePort e p).setEngine d g := by
  unfold State.releasePort
  split <;> split
  · rfl
  next yes no => exact absurd yes no
  next no yes => exact absurd yes no
  · rfl

theorem State.leaveUp_state (s : State) (p : Port) : ((s.leaveUp p).lane p).state = (s.lane p).state := by
  rw [State.leaveUp, State.lane_modifyLane_same]
  rfl

theorem State.surveyPick_present {s : State} {p : Port} (h : s.surveyPick = some p) : s.present p = true := by
  have best (l : List Port) (q : Port) (all : ∀ r ∈ q :: l, s.present r = true) : s.present (s.bestCandidate q l) = true := by
    induction l generalizing q with
    | nil => exact all q List.mem_cons_self
    | cons r l ih =>
      refine ih _ fun k here => ?_
      rcases List.mem_cons.1 here with rfl | later
      · split
        · exact all r (List.mem_cons_of_mem _ List.mem_cons_self)
        · exact all q List.mem_cons_self
      · exact all k (List.mem_cons_of_mem _ (List.mem_cons_of_mem _ later))
  unfold State.surveyPick at h
  split at h
  · cases h
  next q rest listed =>
    cases h
    refine best rest q fun r here => ?_
    rw [← listed] at here
    exact State.mem_presentPorts.1 (List.mem_filter.1 here).1

/-! ## The release of every member -/

theorem State.foldl_releasePort_setEngine (l : List Member) (s : State) (d e : EngineId) (g : Engine) :
    l.foldl (fun t m => t.releasePort e m.port) (s.setEngine d g) =
      (l.foldl (fun t m => t.releasePort e m.port) s).setEngine d g := by
  induction l generalizing s with
  | nil => rfl
  | cons m l ih => rw [List.foldl_cons, List.foldl_cons, State.releasePort_setEngine, ih]

theorem State.foldl_releasePort_engine (l : List Member) (s : State) (d e : EngineId) :
    (l.foldl (fun t m => t.releasePort e m.port) s).engine d = s.engine d := by
  induction l generalizing s with
  | nil => rfl
  | cons m l ih => rw [List.foldl_cons, ih, State.releasePort_engine]

theorem State.foldl_releasePort_free {l : List Member} {s : State} {d e : EngineId} {q : Port}
    (held : ((l.foldl (fun t m => t.releasePort e m.port) s).lane q).holder = .engine d) :
    (s.lane q).holder = .engine d ∧ ∀ m ∈ l, ¬(q = m.port ∧ d = e) := by
  induction l generalizing s with
  | nil => exact ⟨held, nofun⟩
  | cons m l ih =>
    obtain ⟨before, later⟩ := ih held
    obtain ⟨first, apart⟩ := State.releasePort_free before
    refine ⟨first, fun n among => ?_⟩
    rcases List.mem_cons.1 among with rfl | there
    · exact apart
    · exact later n there

namespace Binding

variable {x : Option Port} {p : Port} {e : EngineId} {s t : State}

theorem foldl {α : Type} {f : State → α → State} (k : ∀ t a, Binding x t → Binding x (f t a)) (l : List α)
    (h : Binding x s) : Binding x (l.foldl f s) := by
  induction l generalizing s with
  | nil => exact h
  | cons a l ih => exact ih (k s a h)

/-! ## Listen jobs (R168 to R173) -/

/-- No engine works on a lane that is eligible for a listen job. -/
theorem free_of_eligible (h : Binding none s) (eligible : s.listenEligible p = true) :
    p ∉ s.calList ∧ ∀ d, (s.engine d).worksOn p = false := by
  simp only [State.listenEligible, Bool.and_eq_true, Option.isNone_iff_eq_none, Bool.not_eq_true'] at eligible
  obtain ⟨⟨⟨⟨-, state⟩, sweep⟩, -⟩, alone⟩ := eligible
  have awake : (s.lane p).state ≠ .starting := fun starting => by rw [starting] at state; cases state
  have waits : s.runs p = false := (h.sweep p nofun).symm.trans sweep
  exact ⟨fun listed => awake (h.waiting p listed).2.1, h.free_of_waits waits awake alone⟩

theorem unheld_of_free (h : Binding x s) (free : ∀ d, (s.engine d).worksOn p = false) : (s.lane p).holder = .lane := by
  cases held : (s.lane p).holder with
  | lane => rfl
  | engine d =>
    have working := h.holder p d held
    rw [free d] at working
    cases working

/-- LISTEN reaches lanes that hold their own ports: no engine is told (R169 step 2). -/
theorem addListenEach {ports : List Port} (l : List Member) (among : ∀ m ∈ l, m.port ∈ ports) (h : Binding none s)
    (own : ∀ p ∈ ports, (s.lane p).holder = .lane) :
    Binding none (l.foldl (fun t m => t.addReason m.port .listen) s) ∧
      ∀ d, (l.foldl (fun t m => t.addReason m.port .listen) s).engine d = s.engine d := by
  induction l generalizing s with
  | nil => exact ⟨h, fun _ => rfl⟩
  | cons m l ih =>
    have told := LaneKept.addReason (g := False) (p := m.port) (s := s) (r := .listen) nofun
    obtain ⟨binding, engines⟩ := ih (fun n later => among n (List.mem_cons_of_mem m later))
      (h.addReason (p := m.port) (r := .listen) nofun) fun p here => by
        by_cases same : p = m.port
        · subst same
          rcases told.holder with kept | back
          · exact kept.trans (own _ here)
          · exact back
        · rw [told.touches.lane p same]; exact own p here
    refine ⟨binding, fun d => (engines d).trans ?_⟩
    rcases told.engine d with same | ⟨held, -, -⟩
    · exact same
    · cases (own m.port (among m List.mem_cons_self)).symm.trans held

theorem listenEach (l : List Port) (h : Binding x s) (works : ∀ p ∈ l, (s.engine e).worksOn p = true) :
    Binding x (l.foldl (fun t p => t.listenPort e p) s) := by
  induction l generalizing s with
  | nil => exact h
  | cons p l ih =>
    have listens : Binding x (s.listenPort e p) :=
      h.handLane (fun d held => by cases held; exact works p List.mem_cons_self) rfl rfl
    exact ih listens fun q later => works q (List.mem_cons_of_mem p later)

theorem takeSweepStart (h : Binding none s) (st : Station) (port : Port) (units : Byte) :
    Binding none (s.takeSweepStart st port units) := by
  let eligible := s.presentPorts.filter s.listenEligible
  have free (p : Port) (here : p ∈ eligible) := h.free_of_eligible (List.mem_filter.1 here).2
  unfold State.takeSweepStart
  simp only
  split
  next => exact h
  next e lowest =>
    refine .ite (fun _ => h) fun _ => ?_
    have idle : (s.engine e).state = .idle := of_decide_eq_true (List.find?_some lowest :)
    obtain ⟨unbound, -, -⟩ := Engine.sound_of_idle (h.sound e) idle
    let members := eligible.map fun p => (⟨p, 0, (s.lane p).state.takesListen⟩ : Member)
    let job : ListenJob := ⟨st, port, s.after (units.toNat * 10 + 10), members⟩
    let g : Engine := { Engine.idle with state := .listening, job := some job }
    have works (r : Port) : g.worksOn r = true ↔ r ∈ eligible := by
      rw [Engine.worksOn_iff]
      constructor
      · rintro (none_ | ⟨j, isJob, m, member, rfl⟩ | ⟨w, none_, -⟩)
        · cases none_
        · cases isJob
          obtain ⟨q, here, rfl⟩ := List.mem_map.1 member
          exact here
        · cases none_
      · exact fun here => .inr (.inl ⟨job, rfl, _, List.mem_map.2 ⟨r, here, rfl⟩, rfl⟩)
    have begun : Binding none (s.setEngine e g) := by
      refine h.takesUp (fun q held => ?_) unbound rfl rfl (fun r working => ?_) nofun
      · have working := h.holder q e held
        rw [Engine.worksOn_of_idle (h.sound e) idle] at working
        cases working
      · obtain ⟨unlisted, unworked⟩ := free r ((works r).1 working)
        exact ⟨unlisted, fun d _ => unworked d⟩
    have among (m : Member) (here : m ∈ members.filter (·.given)) : m.port ∈ eligible := by
      obtain ⟨q, there, rfl⟩ := List.mem_map.1 (List.mem_filter.1 here).1
      exact there
    obtain ⟨told, engines⟩ := begun.addListenEach (members.filter (·.given)) among
      fun p here => h.unheld_of_free (free p here).2
    refine told.listenEach _ fun p here => ?_
    rw [engines, State.engine_setEngine_same]
    exact (works p).2 here

theorem foldBlock (h : Binding x s) (e : EngineId) (p : Port) (b : Four (Vector Sample 512)) :
    Binding x (s.foldBlock e p b) := by
  refine h.setEngine (.rereads rfl (fun j => ?_) rfl rfl rfl rfl)
  rw [List.map_map]
  refine List.map_congr_left fun m _ => ?_
  simp only [Function.comp]
  split <;> rfl

theorem recordEach (j : ListenJob) (l : List Member) (h : Binding x s) :
    Binding x (l.foldl (fun t m => t.recordMember j m) s) ∧
      ∀ d, (l.foldl (fun t m => t.recordMember j m) s).engine d = s.engine d := by
  induction l generalizing s with
  | nil => exact ⟨h, fun _ => rfl⟩
  | cons m l ih =>
    have one : Binding x (s.recordMember j m) ∧ ∀ d, (s.recordMember j m).engine d = s.engine d := by
      unfold State.recordMember
      simp only
      split
      · have learnt : Binding x (s.learn ⟨m.port, j.station, j.port⟩ (alienLevel m.reading) .heard) :=
          h.of_same rfl rfl rfl rfl rfl
        exact ⟨learnt.postCoord _ _, fun d => State.postCoord_engine _ _ _ d⟩
      · exact ⟨h, fun _ => rfl⟩
    obtain ⟨binding, engines⟩ := ih one.1
    exact ⟨binding, fun d => (engines d).trans (one.2 d)⟩

/-- The engine of a listen job has released every port it held and is IDLE (R173). -/
theorem endListenJob (h : Binding none s) (e : EngineId) : Binding none (s.endListenJob e) := by
  unfold State.endListenJob
  split
  next => exact h
  next j job =>
    obtain ⟨recorded, engines⟩ := h.recordEach j j.members
    let u := j.members.foldl (fun t m => t.recordMember j m) s
    obtain ⟨unbound, uncal, -⟩ := Engine.sound_of_job (h.sound e) job
    have released : Binding none (j.members.foldl (fun t m => t.releasePort e m.port) u) :=
      foldl (fun t m k => k.releasePort e (Member.port m)) j.members recorded
    have ended : Binding none (j.members.foldl (fun t m => t.releasePort e m.port) (u.setEngine e .idle)) := by
      rw [State.foldl_releasePort_setEngine]
      refine released.goesIdle (fun q held => ?_) ?_
      · obtain ⟨before, apart⟩ := State.foldl_releasePort_free held
        have working := recorded.holder q e before
        rw [engines] at working
        rcases Engine.worksOn_iff.1 working with bound | ⟨k, isJob, m, member, port⟩ | ⟨w, cal, -⟩
        · cases unbound.symm.trans bound
        · cases job.symm.trans isJob
          exact apart m member ⟨port.symm, rfl⟩
        · cases uncal.symm.trans cal
      · rw [State.foldl_releasePort_engine, engines]; exact unbound
    exact (foldl (fun t m k => k.dropReason (p := Member.port m) (r := .listen) nofun) (j.members.filter (·.given))
      ended).startChoice

theorem quietEndLane (h : Binding x s) (p : Port) (st : Station) (port : Port) : Binding x (s.quietEndLane p st port) :=
  h.lane (LaneKept.quietEndLane st port) fun starting => State.quietEndLane_starting starting st port

theorem takeQuietAsk (h : Binding x s) (st : Station) (port : Port) (units : Byte) :
    Binding x (s.takeQuietAsk st port units) :=
  foldl (fun _ _ k => k.lane (LaneKept.quietAskLane _) fun starting => State.quietAskLane_starting starting _) _ h

theorem endQuiet (h : Binding x s) (st : Station) (port : Port) : Binding x (s.endQuiet st port) :=
  foldl (fun _ p k => k.quietEndLane p st port) _ h

theorem endJobOf (h : Binding none s) (e : EngineId) (st : Station) (port : Port) : Binding none (s.endJobOf e st port) :=
  .ite (fun _ => h.endListenJob e) fun _ => h

theorem takeSweepEnd (h : Binding none s) (st : Station) (port : Port) : Binding none (s.takeSweepEnd st port) :=
  ((h.endQuiet st port).endJobOf 0 st port).endJobOf 1 st port

/-! ## The frames of peers (R164) -/

theorem fromPeer (h : Binding x s) (st : Station) {f : State → State} (k : Binding x (f s)) : Binding x (s.fromPeer st f) :=
  .ite (fun _ => h) fun _ => .ite (fun _ => k) fun _ => h

theorem withPeerPort (h : Binding x s) (b : Byte) {f : Port → State} (k : ∀ p, Binding x (f p)) :
    Binding x (s.withPeerPort b f) := by
  unfold State.withPeerPort
  split
  · exact k _
  · exact h

theorem quietAskFrom (h : Binding x s) (st : Station) (port units : Byte) : Binding x (s.quietAskFrom st port units) :=
  h.fromPeer st (h.withPeerPort port fun p => h.takeQuietAsk st p units)

theorem sweepStartFrom (h : Binding none s) (st : Station) (port units : Byte) :
    Binding none (s.sweepStartFrom st port units) :=
  h.fromPeer st (h.withPeerPort port fun p => h.takeSweepStart st p units)

theorem sweepEndFrom (h : Binding none s) (st : Station) (port : Byte) : Binding none (s.sweepEndFrom st port) :=
  h.fromPeer st (h.withPeerPort port fun p => h.takeSweepEnd st p)

theorem quietEndFrom (h : Binding x s) (st : Station) (port : Byte) : Binding x (s.quietEndFrom st port) :=
  h.fromPeer st (h.withPeerPort port fun p => h.endQuiet st p)

theorem couplingSeenFrom (h : Binding x s) (st : Station) (swept port : Byte) (level : BitVec 16) :
    Binding x (s.couplingSeenFrom st swept port level) := by
  refine h.fromPeer st ?_
  split
  · exact .ite (fun _ => h) fun _ => h.of_same rfl rfl rfl rfl rfl
  · exact h

theorem takeCoordination (h : Binding none s) (kind : Byte) (st : Station) (payload : List Byte) :
    Binding none (s.takeCoordination kind st payload) := by
  unfold State.takeCoordination
  split
  · exact h.quietAskFrom st _ _
  · exact h.sweepStartFrom st _ _
  · exact h.sweepEndFrom st _
  · exact h.quietEndFrom st _
  · exact h.couplingSeenFrom st _ _ _
  · exact h

/-! ## Failures and the way to UP (R79, R84, R85) -/

/-- A failure of a present lane past start-up. -/
theorem failLane (h : Binding x s) (awake : (s.lane p).state ≠ .starting) (present : s.present p = true)
    (r : LastFailure) (cable : Bool) : Binding x (s.failLane p r cable) := by
  let u := s.modifyLane p (·.countFailure r)
  let asked := if (s.lane p).asksSweep cable then u.requestSweep (u.automaticRequest p .laneFailure) else u
  have counted : Binding x u := h.setLane rfl rfl rfl
  have request : Binding x asked := .ite (fun _ => counted.requestSweep present) fun _ => counted
  have lane : asked.lane p = u.lane p := by
    refine State.lane_of_lanes ?_ p
    show (if _ then u.requestSweep _ else u).lanes = _
    split
    · unfold State.requestSweep
      split <;> rfl
    · rfl
  refine request.laneAwake (LaneKept.ladder_afterFailure (fun f => f.elim) (asked.record p).allowed _) ?_
  rw [lane, State.lane_modifyLane_same]
  exact awake

theorem preempt (h : Binding none s) (p : Port) : Binding none (s.preempt p) := by
  unfold State.preempt
  split
  next y entry =>
    obtain ⟨here, rfl⟩ := State.entryOf_some entry
    exact .ite (fun waits => h.removeEntry (h.waiting_runs here waits.1) _) fun _ => h
  next => exact h

theorem enterUp (h : Binding none s) (awake : (s.lane p).state ≠ .starting) : Binding none (s.enterUp p) :=
  ((h.laneAwake (LaneKept.goUp (fun f => f.elim) s.ms) awake).post p .linkUp).preempt p

theorem loseLink (h : Binding x s) (state : (s.lane p).state = .up) (present : s.present p = true) :
    Binding x (s.loseLink p) := by
  let u := (s.leaveUp p).modifyLane p fun y => { y with transferOwed := true, grade := none }
  let v := if (s.lane p).active.autoSweep then u.setHoldoff p (some (u.after Config.holdoffMs)) else u
  have awake : (s.lane p).state ≠ .starting := by rw [state]; decide
  have dropped : Binding x u := (h.laneAwake LaneKept.leaveUp awake).setLane rfl rfl rfl
  have ready : Binding x v := .ite (fun _ => dropped.setHoldoff p _) fun _ => dropped
  have same : v.lanes = u.lanes ∧ v.twelvePorts = s.twelvePorts := by
    show (if _ then u.setHoldoff p _ else u).lanes = _ ∧ (if _ then u.setHoldoff p _ else u).twelvePorts = _
    split <;> exact ⟨rfl, rfl⟩
  have stays : (v.lane p).state ≠ .starting := by
    rw [State.lane_of_lanes same.1, show (u.lane p).state = ((s.leaveUp p).lane p).state by
      rw [State.lane_modifyLane_same], State.leaveUp_state]
    exact awake
  have there : v.present p = true := by
    rw [State.present, State.portCount, same.2]
    exact present
  refine .ite (fun _ => ready.failLane stays there _ _) fun _ =>
    .ite (fun _ => ready.laneAwake (LaneKept.enterAdvertise (fun f => f.elim) _) stays) fun _ => ?_
  exact ready.laneAwake ((LaneKept.restoreCeiling _).trans (LaneKept.enterAdvertise (fun f => f.elim) _)) stays

/-! ## The events of the taps -/

theorem suspendOn (h : Binding none s) (p : Port) (b : Bool) : Binding none (s.suspendOn p b) := by
  unfold State.suspendOn
  split
  next y entry =>
    obtain ⟨here, rfl⟩ := State.entryOf_some entry
    split
    next e engine =>
      refine .ite (fun _ => ?_) fun _ => h
      rcases h.entry_cases here with ⟨d, own, -, bound⟩ | ⟨none_, -⟩
      · cases engine.symm.trans own
        exact Sweeping.suspendSweep ⟨h, bound⟩
      · cases engine.symm.trans none_
    next => exact h
  next => exact h

theorem sweepWaitTest (h : Binding x s) (p : Port) : Binding x (s.sweepWaitTest p) :=
  h.lane LaneKept.sweepWaitTest fun starting => by rw [State.sweepWaitTest_starting starting]; exact starting

theorem energyRises (h : Binding none s) (p : Port) : Binding none (s.energyRises p) := by
  have noted : Binding none (s.modifyLane p fun l => { l with energy := true }) := h.setLane rfl rfl rfl
  exact (((noted.suspendOn p true).listenDrop p).setHoldoff p none).sweepWaitTest p

theorem energyFalls (h : Binding none s) (present : s.present p = true) : Binding none (s.energyFalls p) := by
  have off : Binding none (s.modifyLane p fun l => { l with energy := false }) := h.setLane rfl rfl rfl
  refine .ite (fun negotiates => ?_) fun _ => .ite (fun trains => ?_) fun _ => off
  · exact off.laneAwake (LaneKept.enterAdvertise (fun f => f.elim) false) (by rw [negotiates]; decide)
  · exact off.failLane (by rw [trains]; decide) present _ _

theorem firstWord (h : Binding x s) (awake : (s.lane p).state ≠ .starting) (present : s.present p = true)
    (offer : GradeSet) (fault : Bool) : Binding x (s.firstWord p offer fault) := by
  have entered : Binding x (s.enterNegotiate p) := h.laneAwake (LaneKept.enterNegotiate fun f => f.elim) awake
  refine .ite (fun _ => entered.failLane ?_ present _ _) fun _ => entered.setLane rfl rfl rfl
  rw [State.enterNegotiate, State.lane_setLane_same]
  nofun

theorem completeNegotiation (h : Binding x s) (awake : (s.lane p).state ≠ .starting) (present : s.present p = true) :
    Binding x (s.completeNegotiation p) := by
  unfold State.completeNegotiation
  simp only
  split
  · exact h.laneAwake (LaneKept.enterTrain (fun f => f.elim) _) awake
  · exact h.failLane awake present _ _

theorem nextWord (h : Binding x s) (awake : (s.lane p).state ≠ .starting) (present : s.present p = true)
    (offer : GradeSet) (ack fault : Bool) : Binding x (s.nextWord p offer ack fault) := by
  have noted : Binding x (s.setLane p { s.lane p with neg := (s.lane p).neg.word offer ack }) := h.setLane rfl rfl rfl
  have still : ((s.setLane p { s.lane p with neg := (s.lane p).neg.word offer ack }).lane p).state ≠ .starting := by
    rw [State.lane_setLane_same]; exact awake
  exact .ite (fun _ => h.failLane awake present _ _) fun _ => .ite (fun _ => noted.laneAwake (LaneKept.laneIssue _) still)
    fun _ => .ite (fun _ => noted.completeNegotiation still present) fun _ => noted

theorem legacyDetected (h : Binding x s) (awake : (s.lane p).state ≠ .starting) (present : s.present p = true) :
    Binding x (s.legacyDetected p) :=
  .ite (fun _ => h.laneAwake (LaneKept.enterTrain (fun f => f.elim) _) awake) fun _ => h.failLane awake present _ _

/-! ## The survey, holdoffs and the minute -/

theorem restartSurvey (h : Binding x s) : Binding x s.restartSurvey := h.of_same rfl rfl rfl rfl rfl

theorem expireSurvey (h : Binding x s) : Binding x s.expireSurvey := by
  unfold State.expireSurvey
  split
  next p picked =>
    have asked : Binding x (s.requestSweep (s.automaticRequest p .survey)) :=
      h.requestSweep (State.surveyPick_present picked)
    exact restartSurvey (.ite (fun _ => asked.of_same rfl rfl rfl rfl rfl) fun _ => asked)
  next => exact .ite (fun _ => h.restartSurvey) fun _ => h.of_same rfl rfl rfl rfl rfl

theorem expireHoldoff (h : Binding x s) (present : s.present p = true) : Binding x (s.expireHoldoff p) :=
  .ite (fun _ => (h.setHoldoff p none).requestSweep present) fun _ => h.setHoldoff p none

theorem advanceMinute (h : Binding x s) : Binding x s.advanceMinute := by
  have aged : Binding x s.ageRecords := by
    rw [State.ageRecords_eq, State.modifyRecords_rest]
    exact h.of_same rfl rfl rfl rfl rfl
  exact aged.of_same rfl rfl rfl rfl rfl

end Binding

end Sys2Proof.Machine
end

section
/-! SUPPORT. The binding through requests, resets and every command (R9, R19 to R30, R35 to R37). -/

namespace Sys2Proof.Machine

/-! ## Ports that a request names -/

theorem State.portField_some {s : State} {b : Byte} {p : Port} (h : s.portField b = some p) : s.present p = true := by
  unfold State.portField at h
  split at h
  · simp only at h
    split at h
    next present => cases h; exact present
    next => cases h
  · cases h

/-- Once start-up is over no present lane is in STARTING (R19). -/
theorem State.awake_of_started {s : State} {p : Port} (started : s.anyStarting = false) (present : s.present p = true) :
    (s.lane p).state ≠ .starting := fun starting => by
  have any : s.anyStarting = true :=
    List.any_eq_true.2 ⟨p, State.mem_presentPorts.2 present, decide_eq_true starting⟩
  rw [started] at any
  cases any

theorem LaneKept.disableLane {p : Port} {s : State} : LaneKept False p s (s.disableLane p) := by
  have quieted (u : State) : LaneKept False p u (u.modifyLane p Lane.clearQuiet) :=
    .modifyLane (fun _ => rfl) (fun _ h => ⟨h.active, h.shadow⟩) fun _ => ⟨rfl, rfl⟩
  have owing (u : State) : LaneKept False p u (u.modifyLane p fun l => { l with transferOwed := true }) :=
    .modifyLane (fun _ => rfl) (fun _ h => ⟨h.active, h.shadow⟩) fun _ => ⟨rfl, rfl⟩
  have dropped : LaneKept False p s (if (s.lane p).state = .up
      then (s.leaveUp p).modifyLane p fun l => { l with transferOwed := true } else s) :=
    .ite (fun _ => LaneKept.leaveUp.trans (owing _)) fun _ => .refl s
  exact dropped.trans (.ite (fun _ => quieted _) fun _ => (quieted _).trans .enterDisabled)

theorem LaneKept.carryOutRetrain {p : Port} {s : State} : LaneKept False p s (s.carryOutRetrain p) := by
  have dropped : LaneKept False p s (if (s.lane p).state = .up then s.leaveUp p else s) :=
    .ite (fun _ => .leaveUp) fun _ => .refl s
  exact dropped.trans (.transferAndRestore_enterAdvertise true)

/-- A lane in STARTING applies no shadow; any other keeps its holder and SWEEP as it applies one (R43). -/
theorem State.applyProfile_cases (s : State) (p : Port) (now : Bool) :
    (s.lane p).state = .starting ∧ s.applyProfile p now = s ∨
      (s.lane p).state ≠ .starting ∧ LaneKept False p s (s.applyProfile p now) := by
  have afresh : LaneKept False p s (s.enterAdvertise p true) := .enterAdvertise (fun f => f.elim) true
  by_cases starting : (s.lane p).state = .starting
  · refine .inl ⟨starting, ?_⟩
    unfold State.applyProfile
    rw [starting]
    cases now <;> rfl
  · refine .inr ⟨starting, ?_⟩
    unfold State.applyProfile
    split
    case h_1 | h_4 => exact .transferInPlace
    case h_2 | h_3 | h_5 | h_7 | h_8 => exact afresh
    case h_6 => exact .ite (fun _ => .transferInPlace) fun _ => afresh
    case h_9 => exact .ite (fun _ => .refl s) fun _ => LaneKept.leaveUp.trans (.enterAdvertise (fun f => f.elim) true)
    all_goals exact .refl s

namespace Binding

variable {x : Option Port} {p : Port} {e : EngineId} {s t : State}

theorem place (h : Binding x s) (r : ReplyEntry) : Binding x (s.place r) := h.of_same rfl rfl rfl rfl rfl

theorem answer (h : Binding x s) (k : RequestKind) (v : Decision) : Binding x (s.answer k v) := h.place _

/-! ## The owners' decisions -/

theorem cancelDecision (h : Binding none s) (p : Port) : Binding none (s.cancelDecision p) := by
  unfold State.cancelDecision
  split
  next => exact h
  next y entry =>
    obtain ⟨here, rfl⟩ := State.entryOf_some entry
    split
    next e running engine =>
      have bound : (s.engine e).bound = some y.port := by
        rcases h.entry_cases here with ⟨d, own, -, bound⟩ | ⟨none_, -⟩
        · cases engine.symm.trans own; exact bound
        · cases engine.symm.trans none_
      have marked : Sweeping e y.port (s.modifyEntry y.port fun z => { z with cancelPending := true }) :=
        Sweeping.modifyEntry ⟨h, bound⟩ _ fun _ => ⟨rfl, rfl, rfl⟩
      exact .ite (fun _ => h) fun _ => .ite (fun _ => marked.cancelStop) fun _ => marked.binding
    next => exact h
    next runs idle =>
      refine h.removeEntry (h.waiting_runs here fun running => ?_) _
      cases engine : y.engine with
      | none => exact idle running engine
      | some e => exact runs e running engine

theorem applyProfile (h : Binding x s) (p : Port) (now : Bool) : Binding x (s.applyProfile p now) := by
  rcases s.applyProfile_cases p now with ⟨-, same⟩ | ⟨awake, kept⟩
  · rw [same]; exact h
  · exact h.laneAwake kept awake

theorem profileDecision (h : Binding x s) (b : ProfileBytes) : Binding x (s.profileDecision b).1 := by
  unfold State.profileDecision
  simp only
  split
  · exact h
  · split
    · exact h
    · have shadow (u : State) (p : Port) (k : Binding x u) : Binding x (u.modifyLane p fun l => l.writeShadow b) :=
        k.setLane rfl rfl rfl
      exact foldl (fun _ p k => k.applyProfile p _) _ (foldl shadow _ h)

theorem sweepDecision (h : Binding x s) (present : s.present p = true) (mask : PairSet) (depth : Nat) (force : Bool) :
    Binding x (s.sweepDecision p mask depth force).1 := by
  unfold State.sweepDecision
  simp only
  repeat (split; exact h)
  exact h.requestSweep present

theorem retrainLane (h : Binding x s) (awake : (s.lane p).state ≠ .starting) : Binding x (s.retrainLane p).1 := by
  unfold State.retrainLane
  split
  · exact h
  · split
    · exact h
    · exact h.laneAwake .carryOutRetrain awake

theorem unparkLane (h : Binding x s) (awake : (s.lane p).state ≠ .starting) : Binding x (s.unparkLane p).1 := by
  unfold State.unparkLane
  split
  · exact h.retrainLane awake
  · exact h

theorem enableLane (h : Binding x s) (awake : (s.lane p).state ≠ .starting) : Binding x (s.enableLane p) :=
  .ite (fun _ => h.laneAwake (.transferAndRestore_enterAdvertise true) awake) fun _ => h

/-! ## The requests (R18 to R30) -/

theorem withPort (h : Binding x s) {k : RequestKind} {b : Byte} {f : Port → State}
    (decided : ∀ p, s.present p = true → Binding x (f p)) : Binding x (s.withPort k b f) := by
  unfold State.withPort
  split
  next p named => exact decided p (State.portField_some named)
  next => exact h.answer _ _

/-- What no engine works on and nothing is queued for is bound, where every lane holds its port and not SWEEP. -/
theorem fresh (queue : t.queue = []) (engines : ∀ e, t.engine e = .idle) (calList : t.calList = [])
    (lanes : ∀ p, (t.lane p).holder = .lane ∧ (t.lane p).hold.sweep = false) : Binding x t where
  ports := by rw [queue]; exact List.nodup_nil
  sound := fun e => by rw [engines]; rfl
  bound := fun e p tied => by rw [engines] at tied; cases tied
  entry := fun y here => by rw [queue] at here; cases here
  present := fun y here => by rw [queue] at here; cases here
  holder := fun p e held => by rw [(lanes p).1] at held; cases held
  sweep := fun p _ => by rw [(lanes p).2, State.runs, queue]; rfl
  listed := by rw [calList]; exact List.nodup_nil
  waiting := fun p here => by rw [calList] at here; cases here
  calibrated := fun e w cal => by rw [engines] at cal; cases cal
  apart := fun d e p _ _ => by rw [engines]; exact Engine.idle_worksOn p

section Started

variable (h : Binding none s) (started : s.anyStarting = false)
include h started

theorem laneControl (port action : Byte) : Binding none (s.laneControl port action) := by
  refine h.withPort fun p present => ?_
  have awake := State.awake_of_started started present
  split
  · exact (h.enableLane awake).answer _ _
  · exact (h.laneAwake .disableLane awake).answer _ _
  · exact (h.retrainLane awake).answer _ _
  · exact (h.unparkLane awake).answer _ _
  · exact h.answer _ _

/-- After the reset sequence nothing is bound (R30); an absent lane held no SWEEP before it. -/
theorem stationReset : Binding none s.stationReset := by
  obtain ⟨⟨lanes, flags, rest⟩, lane⟩ := State.foldl_resetLane (l := s.presentPorts) s.presentPorts_nodup
    (s := s.resetEnginesAndSurvey) fun q _ => by rw [State.lane_resetEnginesAndSurvey]
  have unlisted : s.calList = [] := List.eq_nil_iff_forall_not_mem.2 fun p listed => by
    obtain ⟨present, starting, -⟩ := h.waiting p listed
    exact State.awake_of_started started present starting
  let u := s.presentPorts.foldl State.resetLane s.resetEnginesAndSurvey
  have sequence : s.stationReset = u.resetLine.answer .stationReset (.accepted .done) := by
    rw [State.stationReset, State.resetSweeps_resetSurvey]
    rfl
  have reset : Binding none u := by
    refine fresh (by rw [show u = _ from rest]; rfl) (fun e => ?_) (by rw [show u = _ from rest]; exact unlisted) fun p => ?_
    · rw [show u = _ from rest]
      fin_cases e <;> rfl
    · rw [lane, State.lane_resetEnginesAndSurvey]
      split
      next =>
        simp only [Lane.afterReset]
        split
        · exact ⟨rfl, rfl⟩
        · split <;> exact ⟨rfl, rfl⟩
      next absent =>
        refine ⟨rfl, (h.sweep p nofun).trans (State.runs_false.2 fun y here port _ => absent ?_)⟩
        exact State.mem_presentPorts.2 (port ▸ h.present y here)
  rw [sequence]
  exact reset.of_same rfl rfl rfl rfl rfl

end Started

theorem sweepRequest (h : Binding x s) (port mask depth flags : Byte) : Binding x (s.sweepRequest port mask depth flags) :=
  h.withPort fun _ present => .ite (fun _ => h.answer _ _) fun _ => (h.sweepDecision present _ _ _).answer _ _

theorem cancelRequest (h : Binding none s) (port : Byte) : Binding none (s.cancelRequest port) :=
  h.withPort fun p _ => (h.cancelDecision p).answer _ _

theorem profileRequest (h : Binding x s) (b : ProfileBytes) : Binding x (s.profileRequest b) :=
  .ite (fun _ => h.answer _ _) fun _ => .ite (fun _ => h.answer _ _) fun _ => (h.profileDecision b).answer _ _

theorem guardRequest (h : Binding x s) (mask : BitVec 16) : Binding x (s.guardRequest mask) :=
  .ite (fun _ => h.answer _ _) fun _ => h.of_same rfl rfl rfl rfl rfl

theorem surveyRequest (h : Binding x s) (interval mode : Byte) : Binding x (s.surveyRequest interval mode) := by
  have decided (n : Nat) (b : Bool) : Binding x (s.surveyDecision n b).1 :=
    .ite (fun _ => h.of_same rfl rfl rfl rfl rfl) fun _ => h.of_same rfl rfl rfl rfl rfl
  exact .ite (fun _ => h.answer _ _) fun _ => (decided _ _).answer _ _

theorem portQuery (h : Binding x s) (port : Byte) : Binding x (s.portQuery port) := h.withPort fun _ _ => h.place _

theorem recordRead (h : Binding x s) (port : Byte) : Binding x (s.recordRead port) := h.withPort fun _ _ => h.place _

theorem couplingClear (h : Binding x s) : Binding x s.couplingClear := h.of_same rfl rfl rfl rfl rfl

/-! ## Requests and frames handed on (R8, R9) -/

theorem takeRequest (h : Binding x s) {f : State → State} (decided : s.anyStarting = false → Binding x (f s)) :
    Binding x (s.takeRequest f) :=
  .ite (fun _ => h.of_same rfl rfl rfl rfl rfl) fun _ => .ite (fun _ => h.of_same rfl rfl rfl rfl rfl) fun started =>
    decided (Bool.eq_false_iff.2 started)

theorem decideRequest (h : Binding none s) (started : s.anyStarting = false) {k : RequestKind} {payload : List Byte}
    {f : State → State} (decided : Machine.decideRequest k payload = some f) : Binding none (f s) := by
  cases k with
  | stationReset => match payload, decided with | [], rfl => exact h.stationReset started
  | laneControl => match payload, decided with | [_, _], rfl => exact h.laneControl started _ _
  | sweep => match payload, decided with | [_, _, _, _], rfl => exact h.sweepRequest _ _ _ _
  | cancelSweep => match payload, decided with | [_], rfl => exact h.cancelRequest _
  | setProfile =>
    match payload, decided with
    | [_, _, _, _, _, _, _, _, _, _, _, _, _], rfl => exact h.profileRequest _
  | setGuard => match payload, decided with | [_, _], rfl => exact h.guardRequest _
  | setSurvey => match payload, decided with | [_, _], rfl => exact h.surveyRequest _ _
  | queryStation => match payload, decided with | [], rfl => exact h.place _
  | queryPort => match payload, decided with | [_], rfl => exact h.portQuery _
  | readRecord => match payload, decided with | [_], rfl => exact h.recordRead _
  | readCoupling => match payload, decided with | [_], rfl => exact h.place _
  | clearCoupling => match payload, decided with | [], rfl => exact h.couplingClear

theorem accept (h : Binding none s) (kind : Byte) (originator target : Station) (payload : List Byte) :
    Binding none (s.accept kind originator target payload) := by
  rcases s.accept_cases kind originator target payload with e | e | e | ⟨k, f, -, decided, e⟩ | e <;> rw [e]
  · exact h
  · exact h.of_same rfl rfl rfl rfl rfl
  · exact h.of_same rfl rfl rfl rfl rfl
  · exact h.takeRequest fun started => h.decideRequest started decided
  · exact h.takeCoordination _ _ _

theorem takeFrame (h : Binding none s) (kind header : Byte) (payload : List Byte) (check : Byte) :
    Binding none (s.takeFrame kind header payload check) := by
  have after : Binding none { s with rx := .afterFrame } := h.of_same rfl rfl rfl rfl rfl
  exact .ite (fun _ => h.of_same rfl rfl rfl rfl rfl) fun _ => .ite (fun _ => after.accept _ _ _ _) fun _ =>
    after.of_same rfl rfl rfl rfl rfl

theorem leaveQueue (h : Binding x s) (place : TxPlace) : Binding x (s.leaveQueue place) := by
  cases place with
  | coordination => exact h.of_same rfl rfl rfl rfl rfl
  | reply =>
    cases list : s.replyList with
    | nil => rw [State.leaveQueue_reply_nil list]; exact h
    | cons r rest => rw [State.leaveQueue_reply_cons list]; exact h.of_same rfl rfl rfl rfl rfl
  | stationNotice r => exact .ite (fun _ => h.of_same rfl rfl rfl rfl rfl) fun _ => h
  | portNotice p carried => exact h.of_same rfl rfl rfl rfl rfl

theorem collide (h : Binding x s) (f : TxFrame) : Binding x (s.collide f) := by
  have stopped : Binding x s.collided := h.of_same rfl rfl rfl rfl rfl
  rcases Nat.lt_or_ge (s.collisionRun + 1) 8 with few | eighth
  · rw [State.collide_few few]
    exact stopped
  · rw [State.collide_eighth eighth]
    exact (stopped.leaveQueue f.place).of_same rfl rfl rfl rfl rfl

end Binding

/-! ## The forms of a command -/

/-- Where the outcome is a state, it is bound. -/
def BoundAfter (o : Host.Outcome State Fault Refusal) : Prop := ∀ t, o = .next t → Binding none t

namespace BoundAfter

variable {s : State}

theorem perform (h : Binding none s) {f : State → State} (k : Binding none (f s)) : BoundAfter (s.perform f) := by
  intro t ht
  unfold State.perform at ht
  split at ht <;> cases ht
  · exact h
  · exact k.settle

theorem tapEvent (h : Binding none s) {p : Port} {f : State → State} (k : s.present p = true → Binding none (f s)) :
    BoundAfter (s.tapEvent p f) :=
  perform h (.ite k fun _ => h)

theorem request (h : Binding none s) {f : State → State} (k : s.anyStarting = false → Binding none (f s)) :
    BoundAfter (s.perform fun t => t.takeRequest f) :=
  perform h (h.takeRequest k)

end BoundAfter

/-! ## The resets (R35, R36) -/

theorem execResetAssert_bound {s : State} : BoundAfter (execResetAssert s) := by
  rintro _ ⟨⟩
  refine Binding.fresh rfl (fun e => s.powerOnValues_engine s.station s.twelvePorts s.autostart e) rfl fun p => ?_
  have lane : State.lane _ p = Lane.powerOn := s.powerOnValues_lane s.station s.twelvePorts s.autostart p
  exact lane ▸ ⟨rfl, rfl⟩

theorem execResetRelease_bound {s : State} {sta : BitVec 3} {pcs aut : Bool} :
    BoundAfter (execResetRelease sta pcs aut s) := by
  rintro _ ⟨⟩
  rw [State.beginCalibration_powerOnValues]
  refine State.bindingSound_iff.1 ?_
  cases pcs <;> rfl

/-! ## Every command -/

section Commands

variable {s : State} (h : Binding none s)
include h

theorem execNegWindowExpiry_bound (sound : ∀ p, (s.lane p).stateSound = true) {p : Port} :
    BoundAfter (execNegWindowExpiry p s) :=
  .tapEvent h fun present => .ite (fun due => h.failLane (by rw [State.state_of_laneTimerDue due sound]; decide) present _ _)
    fun _ => h

theorem execTrainWindowExpiry_bound (sound : ∀ p, (s.lane p).stateSound = true) {p : Port} :
    BoundAfter (execTrainWindowExpiry p s) :=
  .tapEvent h fun present => .ite (fun due => h.failLane (by rw [State.state_of_laneTimerDue due sound]; decide) present _ _)
    fun _ => h

theorem execBackoffExpiry_bound (sound : ∀ p, (s.lane p).stateSound = true) {p : Port} :
    BoundAfter (execBackoffExpiry p s) :=
  .tapEvent h fun _ => .ite (fun due => h.laneAwake (.enterAdvertise (fun f => f.elim) false)
    (by rw [State.state_of_laneTimerDue due sound]; decide)) fun _ => h

theorem execBurst_bound {p : Port} {offer : GradeSet} {ack fault : Bool} : BoundAfter (execBurst p offer ack fault s) := by
  refine .tapEvent h fun present => ?_
  split
  next state => exact h.firstWord (by rw [state]; decide) present offer fault
  next state => exact h.nextWord (by rw [state]; decide) present offer ack fault
  all_goals exact h

theorem execPlainPulse_bound {p : Port} : BoundAfter (execPlainPulse p s) := by
  have cleared : Binding none (s.setLane p { s.lane p with pulseCount := 0, lastPulse := none }) := h.setLane rfl rfl rfl
  refine .tapEvent h fun present => .ite (fun state => .ite (fun _ => cleared.legacyDetected ?_ present) fun _ => ?_) fun _ => h
  · rw [State.lane_setLane_same, state]
    decide
  · exact h.setLane rfl rfl rfl

theorem execTrainProgress_bound {p : Port} {stage : TrainStage} : BoundAfter (execTrainProgress p stage s) :=
  .tapEvent h fun _ => .ite (fun locked => h.enterUp (by rw [locked.1]; decide)) fun _ => h

theorem execTrainFault_bound {p : Port} {kind : TrainFaultKind} {q : Pair} : BoundAfter (execTrainFault p kind q s) := by
  refine .tapEvent h fun present => ?_
  split
  next state _ => exact .ite (fun _ => h.failLane (by rw [state]; decide) present _ _) fun _ => h
  next => exact h

theorem execLinkLost_bound {p : Port} : BoundAfter (execLinkLost p s) :=
  .tapEvent h fun present => .ite (fun up => h.loseLink up present) fun _ => h

theorem execPowerDetectBegin_bound {p : Port} : BoundAfter (execPowerDetectBegin p s) := by
  have noted : Binding none (s.modifyLane p fun l => { l with power := true }) := h.setLane rfl rfl rfl
  exact .tapEvent h fun _ => .ite (fun _ => h) fun _ => (noted.addReason (r := .power) nofun).suspendOn p false

theorem execPowerDetectEnd_bound {p : Port} : BoundAfter (execPowerDetectEnd p s) := by
  have noted : Binding none (s.modifyLane p fun l => { l with power := false }) := h.setLane rfl rfl rfl
  exact .tapEvent h fun _ => .ite (fun _ => noted.dropReason (r := .power) nofun) fun _ => h

theorem execEnergyOn_bound {p : Port} : BoundAfter (execEnergyOn p s) :=
  .tapEvent h fun _ => .ite (fun _ => h) fun _ => h.energyRises p

theorem execEnergyOff_bound {p : Port} : BoundAfter (execEnergyOff p s) :=
  .tapEvent h fun present => .ite (fun _ => h.energyFalls present) fun _ => h

theorem execCaptureDone_bound {p : Port} {tag : Byte} {data : Capture} : BoundAfter (execCaptureDone p tag data s) := by
  have ignored : BoundAfter (s.perform id) := .perform h h
  unfold execCaptureDone
  split
  next => exact ignored
  next =>
    split
    next => exact ignored
    next e held =>
      split
      case h_1 state => exact .perform h (Binding.shotCompleted (h.sweeping_of_holder held state) _)
      case h_2 => exact .perform h (h.calShotCompleted e p _)
      case h_3 => exact .perform h (h.foldBlock e p _)
      case h_10 | h_11 | h_12 => exact ignored
      all_goals exact fun _ stopped => nomatch stopped

theorem execCaptureTimeout_bound {p : Port} : BoundAfter (execCaptureTimeout p s) :=
  .tapEvent h fun _ => .ite (fun _ => h.shotFailed p) fun _ => h

theorem execQuietRecordExpiry_bound {p q : Port} {st : Station} : BoundAfter (execQuietRecordExpiry p st q s) :=
  .tapEvent h fun _ => .ite (fun _ => h.quietEndLane p st q) fun _ => h

theorem execHoldoffExpiry_bound {p : Port} : BoundAfter (execHoldoffExpiry p s) :=
  .tapEvent h fun present => .ite (fun _ => h.expireHoldoff present) fun _ => h

theorem execMinuteAdvance_bound : BoundAfter (execMinuteAdvance s) :=
  .perform h (.ite (fun _ => h.advanceMinute) fun _ => h)

theorem execSurveyExpiry_bound : BoundAfter (execSurveyExpiry s) :=
  .perform h (.ite (fun _ => h.expireSurvey) fun _ => h)

theorem execListenJobEnd_bound {e : EngineId} : BoundAfter (execListenJobEnd e s) :=
  .perform h (.ite (fun _ => h.endListenJob e) fun _ => h)

theorem Binding.stopTimer (e : EngineId) : Binding none (s.modifyEngine e Engine.stopTimer) :=
  h.setEngine (.of_fields rfl rfl rfl id)

theorem execRetryWaitExpiry_bound {e : EngineId} : BoundAfter (execRetryWaitExpiry e s) :=
  .perform h (.ite (fun _ => h.stopTimer e) fun _ => h)

theorem execCalibrationResult_bound {e : EngineId} : BoundAfter (execCalibrationResult e s) :=
  .perform h (.ite (fun _ => .ite (fun _ => ((h.finishCalibration 0).finishCalibration 1).startupEnd) fun _ =>
    (h.finishCalibration e).startupEnd) fun _ => h)

/-- The entry an engine is bound to, and its port. -/
theorem Binding.sweeping_of_boundEntry {e : EngineId} {y : Entry} (entry : s.boundEntry e = some y) :
    Sweeping e y.port s := by
  obtain ⟨p, bound, found⟩ := Option.bind_eq_some_iff.1 entry
  exact ⟨h, (State.entryOf_some found).2 ▸ bound⟩

theorem execPreparePass_bound {e : EngineId} : BoundAfter (execPreparePass e s) := by
  refine .perform h (.ite (fun _ => ?_) fun _ => h)
  split
  next entry => exact (h.sweeping_of_boundEntry entry).preparePass _
  next => exact h

theorem execSettleExpiry_bound {e : EngineId} : BoundAfter (execSettleExpiry e s) := by
  refine .perform h (.ite (fun _ => ?_) fun _ => h)
  split
  next entry => exact (h.sweeping_of_boundEntry entry).settled rfl
  next => exact h.stopTimer e

theorem execAnalysisEnd_bound {e : EngineId} : BoundAfter (execAnalysisEnd e s) := by
  refine .perform h (.ite (fun _ => ?_) fun _ => h)
  simp only
  split
  next bound _ => exact Sweeping.endAnalysis ⟨h.stopTimer e, bound⟩ _
  next => exact h.stopTimer e

theorem execFrameReceived_bound {kind header : Byte} {payload : List Byte} {check : Byte} :
    BoundAfter (execFrameReceived kind header payload check s) :=
  .perform h (.ite (fun _ => h.takeFrame _ _ _ _) fun _ => h)

theorem execFrameBreak_bound : BoundAfter (execFrameBreak s) :=
  .perform h (.ite (fun _ => h.of_same rfl rfl rfl rfl rfl) fun _ => h)

theorem execFrameLengthOverflow_bound {len : Byte} : BoundAfter (execFrameLengthOverflow len s) :=
  .perform h (.ite (fun _ => h.of_same rfl rfl rfl rfl rfl) fun _ => h)

theorem execTrailingCell_bound : BoundAfter (execTrailingCell s) :=
  .perform h (.ite (fun _ => h.of_same rfl rfl rfl rfl rfl) fun _ => h)

theorem execLineIdle_bound : BoundAfter (execLineIdle s) :=
  .perform h (.ite (fun _ => h.of_same rfl rfl rfl rfl rfl) fun _ => h)

theorem execNewFrame_bound : BoundAfter (execNewFrame s) :=
  .perform h (.ite (fun _ => h.of_same rfl rfl rfl rfl rfl) fun _ => h)

theorem execArbitrationLost_bound : BoundAfter (execArbitrationLost s) :=
  .perform h (.ite (fun _ => h.of_same rfl rfl rfl rfl rfl) fun _ => h)

theorem execCollisionError_bound : BoundAfter (execCollisionError s) := by
  refine .perform h ?_
  split
  · exact h.collide _
  · exact h

theorem execFrameSent_bound : BoundAfter (execFrameSent s) := by
  refine .perform h ?_
  split
  next f _ => exact (h.leaveQueue f.place).of_same rfl rfl rfl rfl rfl
  next => exact h

theorem execQuietAsk_bound {st : Station} {port units : Byte} : BoundAfter (execQuietAsk st port units s) :=
  .perform h (h.quietAskFrom st port units)

theorem execQuietEnd_bound {st : Station} {port : Byte} : BoundAfter (execQuietEnd st port s) :=
  .perform h (h.quietEndFrom st port)

theorem execSweepStart_bound {st : Station} {port units : Byte} (mask : Byte) :
    BoundAfter (execSweepStart st port mask units s) :=
  .perform h (h.sweepStartFrom st port units)

theorem execSweepEnd_bound {st : Station} {port : Byte} : BoundAfter (execSweepEnd st port s) :=
  .perform h (h.sweepEndFrom st port)

theorem execCouplingSeen_bound {st : Station} {swept port : Byte} {level : BitVec 16} :
    BoundAfter (execCouplingSeen st swept port level s) :=
  .perform h (h.couplingSeenFrom st swept port level)

theorem execStationReset_bound : BoundAfter (execStationReset s) := .request h fun started => h.stationReset started

/-- Every command keeps the binding, where each lane's timer is that of its state. -/
theorem exec_bound (sound : ∀ p, (s.lane p).stateSound = true) (c : Instr) : BoundAfter (exec c s) := by
  cases c with
  | resetAssert => exact execResetAssert_bound
  | resetRelease => exact execResetRelease_bound
  | minuteAdvance => exact execMinuteAdvance_bound h
  | frameReceived => exact execFrameReceived_bound h
  | frameBreak => exact execFrameBreak_bound h
  | frameLengthOverflow => exact execFrameLengthOverflow_bound h
  | trailingCell => exact execTrailingCell_bound h
  | lineIdle => exact execLineIdle_bound h
  | newFrame => exact execNewFrame_bound h
  | arbitrationLost => exact execArbitrationLost_bound h
  | collisionError => exact execCollisionError_bound h
  | frameSent => exact execFrameSent_bound h
  | stationReset => exact execStationReset_bound h
  | enable | disable | retrain | unpark => exact .request h fun started => h.laneControl started _ _
  | sweep => exact .request h fun _ => h.sweepRequest _ _ _ _
  | cancelSweep => exact .request h fun _ => h.cancelRequest _
  | setProfile => exact .request h fun _ => h.profileRequest _
  | setGuard => exact .request h fun _ => h.guardRequest _
  | setSurvey => exact .request h fun _ => h.surveyRequest _ _
  | queryStation | readCoupling => exact .request h fun _ => h.place _
  | queryPort => exact .request h fun _ => h.portQuery _
  | readRecord => exact .request h fun _ => h.recordRead _
  | clearCoupling => exact .request h fun _ => h.couplingClear
  | quietAsk => exact execQuietAsk_bound h
  | quietEnd => exact execQuietEnd_bound h
  | sweepStart _ _ mask => exact execSweepStart_bound h mask
  | sweepEnd => exact execSweepEnd_bound h
  | couplingSeen => exact execCouplingSeen_bound h
  | energyOn => exact execEnergyOn_bound h
  | energyOff => exact execEnergyOff_bound h
  | burst => exact execBurst_bound h
  | plainPulse => exact execPlainPulse_bound h
  | trainProgress => exact execTrainProgress_bound h
  | trainFault => exact execTrainFault_bound h
  | linkLost => exact execLinkLost_bound h
  | powerDetectBegin => exact execPowerDetectBegin_bound h
  | powerDetectEnd => exact execPowerDetectEnd_bound h
  | captureDone => exact execCaptureDone_bound h
  | captureTimeout => exact execCaptureTimeout_bound h
  | calibrationResult => exact execCalibrationResult_bound h
  | negWindowExpiry => exact execNegWindowExpiry_bound h sound
  | trainWindowExpiry => exact execTrainWindowExpiry_bound h sound
  | backoffExpiry => exact execBackoffExpiry_bound h sound
  | quietRecordExpiry => exact execQuietRecordExpiry_bound h
  | settleExpiry => exact execSettleExpiry_bound h
  | retryWaitExpiry => exact execRetryWaitExpiry_bound h
  | preparePass => exact execPreparePass_bound h
  | analysisEnd => exact execAnalysisEnd_bound h
  | listenJobEnd => exact execListenJobEnd_bound h
  | holdoffExpiry => exact execHoldoffExpiry_bound h
  | surveyExpiry => exact execSurveyExpiry_bound h

end Commands

end Sys2Proof.Machine
end

section
/-! The statement on what every step keeps of engines, entries and ports. -/

open Sys2Proof Sys2Proof.Machine

/-- Settles O15: every operation keeps the binding (`Binding`), which stands open at one port only between the start or the end
of a sweep and what its lane is told of it. -/
theorem stepKeepsBinding : Obligations.StepKeepsBinding := by
  intro s t state bound next
  rw [State.allLanes_iff] at state
  rw [State.bindingSound_iff] at bound ⊢
  rcases step_cases next with ⟨c, pending, free, ran⟩ | rfl | rfl
  · have moved : Binding none { s with pending := pending, freeCount := free } := bound.of_same rfl rfl rfl rfl rfl
    exact exec_bound moved state c t ran
  · exact bound
  · exact bound.of_same rfl rfl rfl rfl rfl

end

section
/-! SUPPORT. What a lane holds agrees with its state (R49, R56, R62, R79, R83, R85, R91): the writes to a lane and the lane
operations that keep it so. -/

namespace Sys2Proof.Machine

/-! ## A lane in agreement with its state -/

/-- `Lane.stateSound` clause by clause. -/
structure Lane.StateSound (l : Lane) : Prop where
  timer : ∀ k due, l.timer = some (k, due) → l.state = timerState k
  grade : l.grade = none ∨ l.state = .up
  training : l.training = none ∨ l.state = .train
  neg : l.neg = .cleared ∨ l.state = .negotiate
  pulses : l.pulseCount = 0 ∧ l.lastPulse = none ∨ l.state = .advertise
  count : l.pulseCount ≤ 2
  offered : l.offered ≠ 0 ∨ ¬(l.state = .advertise ∨ l.state = .negotiate)
  capture : l.captureDue = none ∨ l.outstanding.isSome = true
  failures : l.failureCount ≤ 255

theorem Lane.stateSound_iff {l : Lane} : l.stateSound = true ↔ l.StateSound := by
  have runs : (match l.timer with
      | some (k, _) => decide (l.state = timerState k)
      | none => true) = true ↔ ∀ k due, l.timer = some (k, due) → l.state = timerState k := by
    cases l.timer with
    | none => exact ⟨fun _ => nofun, fun _ => rfl⟩
    | some t => exact ⟨fun h _ _ runs => by cases runs; exact of_decide_eq_true h, fun h => decide_eq_true (h _ _ rfl)⟩
  simp only [Lane.stateSound, Bool.and_eq_true, Bool.or_eq_true, Bool.not_eq_true', Bool.or_eq_false_iff,
    decide_eq_true_eq, decide_eq_false_iff_not, Option.isNone_iff_eq_none]
  constructor
  · rintro ⟨⟨⟨⟨⟨⟨⟨⟨timer, grade⟩, training⟩, neg⟩, pulses⟩, count⟩, offered⟩, capture⟩, failures⟩
    exact ⟨runs.1 timer, grade, training, neg, pulses, count, offered.imp_right not_or.2, capture, failures⟩
  · rintro ⟨timer, grade, training, neg, pulses, count, offered, capture, failures⟩
    exact ⟨⟨⟨⟨⟨⟨⟨⟨runs.2 timer, grade⟩, training⟩, neg⟩, pulses⟩, count⟩, offered.imp_right not_or.1⟩, capture⟩, failures⟩

/-- A write to fields that the agreement does not name. -/
theorem Lane.StateSound.of_eq {l m : Lane} (h : l.StateSound) (same : m.stateSound = l.stateSound) : m.StateSound :=
  Lane.stateSound_iff.1 (same.trans (Lane.stateSound_iff.2 h))

namespace Lane.StateSound

variable {l : Lane} (h : l.StateSound)
include h

/-! ## The tap (R46 to R51) -/

/-- A write to the tap alone: a capture times out only while it is open (R49, R51). -/
theorem tap (tap : Option TapCommand) {out : Option Byte} {due : Option Ms} (holder : Holder) (tag : Byte)
    (open_ : due = none ∨ out.isSome = true) : Lane.StateSound { l with
      tapCommand := tap, outstanding := out, captureDue := due, holder := holder, tagCounter := tag } :=
  { h with capture := open_ }

theorem issue (c : TapCommand) : (l.issue c).StateSound := h.tap _ _ _ (.inl rfl)

theorem closeCapture : l.closeCapture.StateSound := h.tap _ _ _ (.inl rfl)

theorem release : l.release.StateSound := by
  have closed : Lane.StateSound { l.closeCapture with holder := .lane } := h.tap _ _ _ (.inl rfl)
  unfold Lane.release
  simp only
  split
  · exact closed.issue _
  · exact closed

theorem shoot (e : EngineId) (c : Byte → TapCommand) (due : Ms) : (l.shoot e c due).StateSound :=
  h.tap _ _ _ (.inr rfl)

theorem listen (e : EngineId) : (l.listen e).StateSound := h.tap _ _ _ (.inl rfl)

theorem takeBack (c : TapCommand) : (l.takeBack c).StateSound :=
  (h.of_eq (m := { l with hold := { l.hold with listen := false } }) rfl).tap _ _ _ (.inl rfl)

/-! ## Changes of state (R61, R91) -/

/-- Coming to rest clears whatever belongs to another state (R56, R83, R85, R91). -/
theorem rest {st : LaneState} (offered : l.offered ≠ 0 ∨ ¬(st = .advertise ∨ st = .negotiate)) : (l.rest st).StateSound where
  timer := nofun
  grade := .inl rfl
  training := .inl rfl
  neg := .inl rfl
  pulses := .inl ⟨rfl, rfl⟩
  count := Nat.zero_le 2
  offered := offered
  capture := h.capture
  failures := h.failures

theorem startTimer {k : LaneTimer} (state : l.state = timerState k) (due : Ms) : (l.startTimer k due).StateSound :=
  { h with timer := fun _ _ runs => by cases runs; exact state }

theorem formOffer {allowed : GradeSet} (some_ : (l.formOffer allowed).offered ≠ 0) : (l.formOffer allowed).StateSound :=
  { h with timer := nofun, grade := .inl rfl, training := .inl rfl, neg := .inl rfl, pulses := .inl ⟨rfl, rfl⟩
           count := Nat.zero_le 2, offered := .inl some_ }

theorem negotiates (state : l.state = .negotiate) (n : NegRecord) : Lane.StateSound { l with neg := n } :=
  { h with neg := .inr state }

theorem trains (g : Grade) (due : Ms) : Lane.StateSound
    ({ l.rest .train with training := some g }.startTimer .train due) :=
  { h.rest (st := .train) (.inr (by decide)) with
    timer := fun _ _ runs => by cases runs; rfl
    training := .inr rfl }

theorem goUp (now : Ms) : (l.goUp now).StateSound :=
  { h.rest (st := .up) (.inr (by decide)) with grade := .inr rfl }

theorem countFailure (reason : LastFailure) : (l.countFailure reason).StateSound :=
  { h with timer := nofun, failures := Nat.min_le_left 255 _ }

/-- A counted or a cleared pulse (R55). -/
theorem pulse {n : Nat} {last : Option Ms} (count : n ≤ 2) (state : n = 0 ∧ last = none ∨ l.state = .advertise) :
    Lane.StateSound { l with pulseCount := n, lastPulse := last } :=
  { h with count := count, pulses := state }

/-! ## Profiles and counts -/

theorem restoreCeiling (allowed : GradeSet) : (l.restoreCeiling allowed).StateSound := h.of_eq rfl

theorem transfer (allowed : GradeSet) : (l.transfer allowed).StateSound := by
  unfold Lane.transfer
  simp only
  split <;> exact h.of_eq rfl

theorem transferAt (allowed : GradeSet) (b : Bool) : (l.transferAt allowed b).StateSound := by
  unfold Lane.transferAt
  split
  · exact h.transfer allowed
  · exact h

theorem ladder (allowed : GradeSet) : (l.ladder allowed).1.StateSound := by
  rcases l.ladder_cases allowed with ⟨-, rules⟩ | ⟨_, -, rules⟩ | rules <;> rw [rules] <;> exact h.of_eq rfl

theorem clearForReset : l.clearForReset.StateSound :=
  { h with timer := nofun, neg := .inl rfl, pulses := .inl ⟨rfl, rfl⟩, count := Nat.zero_le 2, failures := Nat.zero_le 255 }

end Lane.StateSound

theorem Lane.powerOn_stateSound : Lane.powerOn.StateSound := Lane.stateSound_iff.1 (by decide)

/-! ## The lane operations -/

/-- A lane that issues its state's command changes nothing but its tap and LISTEN. -/
theorem State.laneCommand_lane (s : State) (p : Port) :
    ∃ tap out due holder listen, (s.laneCommand p).lane p =
      { s.lane p with
        tapCommand := tap, outstanding := out, captureDue := due, holder := holder
        hold := { (s.lane p).hold with listen := listen } } := by
  unfold State.laneCommand
  split
  · exact s.laneIssue_lane p _
  · exact ⟨_, _, _, _, _, rfl⟩

theorem State.laneCommand_state (s : State) (p : Port) : ((s.laneCommand p).lane p).state = (s.lane p).state := by
  obtain ⟨_, _, _, _, _, lane⟩ := s.laneCommand_lane p
  rw [lane]

theorem State.restIn_state (s : State) (p : Port) (st : LaneState) : ((s.restIn p st).lane p).state = st := by
  rw [State.restIn, State.laneCommand_state, State.lane_modifyLane_same]
  rfl

/-- Every lane agrees with its state. -/
def LanesSound (s : State) : Prop := ∀ p, (s.lane p).StateSound

theorem State.allLanes_stateSound {s : State} : s.allLanes Lane.stateSound = true ↔ LanesSound s := by
  simp only [State.allLanes_iff, Lane.stateSound_iff, LanesSound]

namespace LanesSound

variable {s : State}

theorem ite {c : Prop} [Decidable c] {t u : State} (a : c → LanesSound t) (b : ¬c → LanesSound u) :
    LanesSound (if c then t else u) := by
  split
  next h => exact a h
  next h => exact b h

variable (h : LanesSound s)
include h

/-- Where no lane is written. -/
theorem same {t : State} (lanes : t.lanes = s.lanes) : LanesSound t := fun p => State.lane_of_lanes lanes p ▸ h p

theorem foldl {α : Type} {f : State → α → State} (k : ∀ t x, LanesSound t → LanesSound (f t x)) (l : List α) :
    LanesSound (l.foldl f s) := by
  induction l generalizing s with
  | nil => exact h
  | cons x l ih => exact ih (k s x h)

theorem setLane {p : Port} {l : Lane} (sound : l.StateSound) : LanesSound (s.setLane p l) := fun q => by
  by_cases here : q = p
  · subst here; rw [State.lane_setLane_same]; exact sound
  · rw [State.lane_setLane_ne _ _ _ _ here]; exact h q

/-- A write to fields that the agreement does not name. -/
theorem modifyLane (p : Port) {f : Lane → Lane} (keeps : ∀ l : Lane, (f l).stateSound = l.stateSound) :
    LanesSound (s.modifyLane p f) := h.setLane ((h p).of_eq (keeps _))

theorem putReason (p : Port) (r : HoldReason) (b : Bool) : LanesSound (s.putReason p r b) := h.modifyLane p fun _ => rfl

theorem closeCapture (p : Port) : LanesSound (s.modifyLane p Lane.closeCapture) := h.setLane (h p).closeCapture

theorem detachMember (e : EngineId) (p : Port) : LanesSound (s.detachMember e p) := by
  rw [State.detachMember_eq]
  exact h.same rfl

theorem laneIssue (p : Port) (c : TapCommand) : LanesSound (s.laneIssue p c) := by
  unfold State.laneIssue
  split
  · exact h.setLane ((h p).issue c)
  next e _ =>
    have detached := h.detachMember e p
    exact ite (fun _ => detached.setLane ((detached p).takeBack c)) fun _ => h

theorem laneCommand (p : Port) : LanesSound (s.laneCommand p) := by
  unfold State.laneCommand
  split
  · exact h.laneIssue p _
  · exact h

theorem releasePort (e : EngineId) (p : Port) : LanesSound (s.releasePort e p) :=
  ite (fun _ => h.setLane (h p).release) fun _ => h

theorem shootPort (e : EngineId) (p : Port) (c : Byte → TapCommand) : LanesSound (s.shootPort e p c) :=
  h.setLane ((h p).shoot e c _)

theorem listenPort (e : EngineId) (p : Port) : LanesSound (s.listenPort e p) := h.setLane ((h p).listen e)

/-! ## Entering a state (R61, R62, R71) -/

theorem restIn (p : Port) {st : LaneState} (silent : ¬(st = .advertise ∨ st = .negotiate)) : LanesSound (s.restIn p st) :=
  (h.setLane ((h p).rest (.inr silent))).laneCommand p

theorem enterHeld (p : Port) : LanesSound (s.enterHeld p) := h.restIn p (by decide)

theorem enterDisabled (p : Port) : LanesSound (s.enterDisabled p) := h.restIn p (by decide)

theorem enterParked (p : Port) : LanesSound (s.enterParked p) := (h.restIn p (by decide)).same rfl

theorem enterBackoff (p : Port) : LanesSound (s.enterBackoff p) := by
  have rested := h.restIn p (st := .backoff) (by decide)
  exact ite (fun _ => rested.setLane ((rested p).startTimer (k := .backoff) (s.restIn_state p .backoff) _)) fun _ => h.enterHeld p

theorem enterTrain (p : Port) (g : Grade) : LanesSound (s.enterTrain p g) :=
  (h.setLane ((h p).trains g _)).laneCommand p

/-- A lane that offers something takes its partner's first word (R72). -/
theorem enterNegotiate {p : Port} (state : (s.lane p).state = .advertise) : LanesSound (s.enterNegotiate p) := by
  have offers : (s.lane p).offered ≠ 0 := (h p).offered.resolve_right (not_not.2 (.inl state))
  exact h.setLane (((h p).rest (st := .negotiate) (.inl offers)).startTimer rfl _)

/-- An entry into ADVERTISE leaves the lane in PARKED, HELD or, with something to offer, ADVERTISE (R62). -/
theorem enterAdvertise (p : Port) (b : Bool) : LanesSound (s.enterAdvertise p b) := by
  let allowed := (s.record p).allowed
  have transferred : ((s.lane p).transferAt allowed b).StateSound := (h p).transferAt allowed b
  unfold State.enterAdvertise State.settleAdvertise
  simp only
  split
  · rw [State.enterParked, State.setLane_restIn]
    have parks : Lane.StateSound ((((s.lane p).transferAt allowed b).formOffer allowed).recordCable.rest .parked) :=
      { transferred.rest (st := .parked) (.inr (by decide)) with
        offered := .inr (by decide : ¬(LaneState.parked = .advertise ∨ LaneState.parked = .negotiate)) }
    exact ((h.setLane parks).laneCommand p).same rfl
  next some_ =>
    have offers := h.setLane (p := p) (transferred.formOffer some_)
    exact ite (fun _ => offers.laneCommand p) fun _ => offers.enterHeld p

theorem enterSweepWait (p : Port) : LanesSound (s.enterSweepWait p) :=
  ite (fun _ => h.enterAdvertise p false) fun _ => h.restIn p (by decide)

theorem transferInPlace (p : Port) : LanesSound (s.transferInPlace p) := h.setLane ((h p).transfer _)

theorem transferAndRestore (p : Port) : LanesSound (s.transferAndRestore p) :=
  h.setLane (((h p).transfer _).restoreCeiling _)

theorem unparkByRecord (p : Port) : LanesSound (s.unparkByRecord p) :=
  have restored := h.modifyLane p (f := fun l => { l.restoreCeiling (s.record p).allowed with lastFailure := .none })
    fun _ => rfl
  restored.enterAdvertise p true

theorem leaveUp (p : Port) : LanesSound (s.leaveUp p) :=
  (h.same rfl : LanesSound (s.post p .linkDown)).modifyLane p fun _ => rfl

/-! ## The hold set and the quiet-hold list (R64 to R68, R81, R82) -/

theorem addReason (p : Port) (r : HoldReason) : LanesSound (s.addReason p r) := by
  rcases s.addReason_cases p r with ⟨same, -⟩ | put | ⟨-, held⟩ | ⟨-, -, held⟩
  · rw [same]; exact h
  · rw [put]; exact h.putReason p r true
  · rw [held]; exact (h.putReason p r true).enterHeld p
  · rw [held]
    have owed := (h.leaveUp p).modifyLane p (f := fun x => { x with transferOwed := true }) fun _ => rfl
    exact (owed.putReason p r true).enterHeld p

theorem leaveHeldIfFree (p : Port) : LanesSound (s.leaveHeldIfFree p) :=
  ite (fun _ => h.enterAdvertise p false) fun _ => h

theorem dropReason (p : Port) (r : HoldReason) : LanesSound (s.dropReason p r) :=
  ite (fun _ => (h.putReason p r false).leaveHeldIfFree p) fun _ => h

theorem sweepWaitTest (p : Port) : LanesSound (s.sweepWaitTest p) := ite (fun _ => h.enterAdvertise p false) fun _ => h

theorem laneEntryRemoved (p : Port) : LanesSound (s.laneEntryRemoved p) :=
  have dropped := h.putReason p .sweep false
  ite (fun _ => dropped.enterBackoff p) fun _ => dropped.leaveHeldIfFree p

theorem laneEntrySuspended (p : Port) : LanesSound (s.laneEntrySuspended p) := (h.dropReason p .sweep).sweepWaitTest p

theorem quietAskLane (p : Port) (ask : QuietRecord) : LanesSound (s.quietAskLane p ask) :=
  have noted := h.modifyLane p (f := fun l => { l with quiet := placeQuiet s.ms l.quiet ask }) fun _ => rfl
  ite (fun _ => noted.addReason p .quiet) fun _ => noted

theorem quietEndLane (p : Port) (st : Station) (port : Port) : LanesSound (s.quietEndLane p st port) :=
  have shorter := h.modifyLane p (f := fun x => { x with quiet := x.quiet.filter fun q => !q.hasKey st port }) fun _ => rfl
  ite (fun _ => ite (fun _ => shorter.dropReason p .quiet) fun _ => shorter) fun _ => h

/-! ## Failures and the way to UP (R79, R80, R84, R85) -/

theorem requestSweep (r : SweepRequest) : LanesSound (s.requestSweep r) :=
  h.same (by unfold State.requestSweep; split <;> rfl)

theorem afterFailure (p : Port) (queued : Bool) (o : LadderOutcome) : LanesSound (s.afterFailure p queued o) := by
  cases o with
  | park => exact h.enterParked p
  | retry | downshift => exact ite (fun _ => h.enterSweepWait p) fun _ => h.enterBackoff p

/-- A counted failure takes every lane to a state that holds nothing of the one it failed in (log 18). -/
theorem failLane (p : Port) (reason : LastFailure) (cable : Bool) : LanesSound (s.failLane p reason cable) := by
  have counted : LanesSound (s.modifyLane p (·.countFailure reason)) := h.setLane ((h p).countFailure reason)
  have asked : LanesSound (if (s.lane p).asksSweep cable
      then (s.modifyLane p (·.countFailure reason)).requestSweep
        ((s.modifyLane p (·.countFailure reason)).automaticRequest p .laneFailure)
      else s.modifyLane p (·.countFailure reason)) :=
    ite (fun _ => counted.requestSweep _) fun _ => counted
  exact (asked.setLane ((asked p).ladder _)).afterFailure p _ _

theorem removeEntry (p : Port) (o : RemovalOutcome) : LanesSound (s.removeEntry p o) :=
  (h.same rfl : LanesSound { s.post p (removalFlag o) with
    queue := s.queue.filter fun x => decide (x.port ≠ p) }).laneEntryRemoved p

theorem preempt (p : Port) : LanesSound (s.preempt p) := by
  unfold State.preempt
  split
  · exact ite (fun _ => h.removeEntry p _) fun _ => h
  · exact h

theorem enterUp (p : Port) : LanesSound (s.enterUp p) :=
  ((h.setLane ((h p).goUp s.ms)).same rfl : LanesSound ((s.modifyLane p (·.goUp s.ms)).post p .linkUp)).preempt p

theorem loseLink (p : Port) : LanesSound (s.loseLink p) := by
  let dropped := (s.leaveUp p).modifyLane p fun x => { x with transferOwed := true, grade := none }
  have down : LanesSound dropped := (h.leaveUp p).setLane { h.leaveUp p p with grade := .inl rfl }
  have ready : LanesSound (if (s.lane p).active.autoSweep
      then dropped.setHoldoff p (some (dropped.after Config.holdoffMs)) else dropped) :=
    ite (fun _ => down.same rfl) fun _ => down
  exact ite (fun _ => ready.failLane p _ _) fun _ => ite (fun _ => ready.enterAdvertise p false) fun _ =>
    (ready.setLane ((ready p).restoreCeiling _)).enterAdvertise p false

end LanesSound

end Sys2Proof.Machine
end

section
/-! SUPPORT. What a lane holds agrees with its state through every command: sweeps, calibration, listen jobs, the frames of peers,
requests, the events of taps and timers, and the resets. -/

namespace Sys2Proof.Machine

namespace LanesSound

variable {s : State} (h : LanesSound s)
include h

/-! ## The start choice (R117 to R119) -/

theorem postCoord (f : Frame) (e : Option EngineId) : LanesSound (s.postCoord f e) := by
  unfold State.postCoord
  split
  · exact h.same rfl
  · refine ite (fun _ => h) fun _ => ?_
    split
    · exact h
    · exact h.same rfl

theorem modifyEngine (e : EngineId) (f : Engine → Engine) : LanesSound (s.modifyEngine e f) := h.same rfl

theorem setEngine (e : EngineId) (g : Engine) : LanesSound (s.setEngine e g) := h.same rfl

theorem modifyEntry (p : Port) (f : Entry → Entry) : LanesSound (s.modifyEntry p f) := h.same rfl

theorem listenDrop (p : Port) : LanesSound (s.listenDrop p) := by
  unfold State.listenDrop
  split
  next => exact h
  next e m _ =>
    have released := (h.detachMember e p).releasePort e p
    exact ite (fun _ => released.dropReason p .listen) fun _ => released

theorem startEntry (e : EngineId) (p : Port) : LanesSound (s.startEntry e p) :=
  (((h.modifyEntry p _).setEngine e _).listenDrop p).addReason p .sweep

theorem engineChooses (e : EngineId) : LanesSound (s.engineChooses e) := by
  have guarded : LanesSound s.removeGuarded := h.foldl (fun _ x k => k.removeEntry (Entry.port x) _) _
  refine ite (fun _ => ?_) fun _ => h
  simp only
  split
  · exact guarded.startEntry e _
  · exact guarded

theorem startChoice : LanesSound s.startChoice := ((h.engineChooses 0).engineChooses 1).engineChooses 0

theorem settle : LanesSound s.settle := by
  obtain ⟨_, _, _, _, opens⟩ := s.startChoice.transmitChoice_rest
  rw [State.settle, opens]
  exact h.startChoice.same rfl

/-! ## The course of a sweep (R120 to R127) -/

theorem pairWrite (p : Port) (q : Pair) (x : PairResult) (o : Origin) (c : Bool) : LanesSound (s.pairWrite p q x o c) := by
  have written (r : CableRecord) : LanesSound (s.setRecord p r) := h.same rfl
  have handed (r : CableRecord) (old new : GradeSet) : LanesSound ((s.setRecord p r).handOver p old new) :=
    ite (fun _ => (written r).unparkByRecord p) fun _ => written r
  unfold State.pairWrite State.postOption
  simp only
  split
  · exact (handed _ _ _).same rfl
  · exact handed _ _ _

theorem freeEngine (e : EngineId) (p : Port) : LanesSound (s.freeEngine e p) := (h.releasePort e p).setEngine e _

theorem postEndFrame (e : EngineId) (p : Port) : LanesSound (s.postEndFrame e p) := by
  unfold State.postEndFrame
  refine LanesSound.modifyEngine ?_ e _
  split
  · exact h
  · exact h.postCoord _ _
  · exact h.postCoord _ _

theorem completeSweep (e : EngineId) (p : Port) : LanesSound (s.completeSweep e p) :=
  (((h.postCoord _ _).modifyEngine e _).freeEngine e p).removeEntry p _

theorem cancelStop (e : EngineId) (p : Port) : LanesSound (s.cancelStop e p) :=
  ((h.postEndFrame e p).freeEngine e p).removeEntry p _

theorem suspendSweep (e : EngineId) (p : Port) : LanesSound (s.suspendSweep e p) :=
  (((h.postEndFrame e p).freeEngine e p).modifyEntry p _).laneEntrySuspended p

theorem suspendOn (p : Port) (b : Bool) : LanesSound (s.suspendOn p b) := by
  unfold State.suspendOn
  split
  · split
    · exact ite (fun _ => h.suspendSweep _ p) fun _ => h
    · exact h
  · exact h

theorem beginPair (e : EngineId) (p : Port) (q : Pair) : LanesSound (s.beginPair e p q) :=
  ((h.modifyEngine e _).modifyEngine e _).shootPort e p _

theorem passEnd (e : EngineId) (x : Entry) : LanesSound (s.passEnd e x) :=
  ite (fun _ => h.completeSweep e x.port) fun _ => ite (fun _ => h.suspendSweep e x.port) fun _ =>
    ((h.postCoord _ _).modifyEntry x.port _).modifyEngine e _

theorem afterPair (e : EngineId) (p : Port) (q : Pair) : LanesSound (s.afterPair e p q) := by
  unfold State.afterPair
  split
  · exact h
  · refine ite (fun _ => ite (fun _ => h.completeSweep e p) fun _ => h.cancelStop e p) fun _ => ?_
    split
    · exact ite (fun _ => h.suspendSweep e p) fun _ => h.beginPair e p _
    · exact h.passEnd e _

theorem writePair (e : EngineId) (p : Port) (q : Pair) (r : PairResult) : LanesSound (s.writePair e p q r) := by
  unfold State.writePair
  split
  · exact h
  · exact (((h.modifyEntry p _).modifyEngine e _).pairWrite p q r _ _).afterPair e p q

theorem afterShot (e : EngineId) (p : Port) (q : Pair) (d : Nat) : LanesSound (s.afterShot e p q d) :=
  ite (fun _ => h.writePair e p q _) fun _ => ite (fun _ => (h.modifyEngine e _).shootPort e p _) fun _ =>
    ite (fun _ => h.writePair e p q _) fun _ => h.modifyEngine e _

theorem endAnalysis (e : EngineId) (p : Port) (q : Pair) : LanesSound (s.endAnalysis e p q) := by
  unfold State.endAnalysis
  split
  · exact h
  · exact ite (fun _ => (h.modifyEngine e _).afterPair e p q) fun _ => h.writePair e p q _

theorem settled (e : EngineId) (x : Entry) : LanesSound (s.settled e x) := by
  unfold State.settled
  simp only
  split
  · exact ((h.postCoord _ _).modifyEngine e _).beginPair e x.port _
  · exact (h.postCoord _ _).modifyEngine e _

theorem shotCompleted (e : EngineId) (p : Port) (b : Four ShotBlock) : LanesSound (s.shotCompleted e p b) := by
  unfold State.shotCompleted
  split
  · exact ((h.closeCapture p).modifyEngine e _).afterShot e p _ _
  · exact h.closeCapture p

/-! ## Calibration and start-up (R37 to R39) -/

theorem takeCalibration (e : EngineId) : LanesSound (s.takeCalibration e) := by
  unfold State.takeCalibration
  split
  next => exact h.setEngine e _
  next p rest _ =>
    have shorter : LanesSound { s with calList := rest } := h.same rfl
    exact ((shorter.setEngine e _).modifyEngine e _).shootPort e p _

theorem afterCalShot (e : EngineId) : LanesSound (s.afterCalShot e) := by
  unfold State.afterCalShot
  split
  · exact h
  · exact ite (fun _ => (h.modifyEngine e _).shootPort e _ _) fun _ => h.modifyEngine e _

theorem shotFailed (p : Port) : LanesSound (s.shotFailed p) := by
  have closed := h.closeCapture p
  unfold State.shotFailed
  simp only
  split
  next => exact closed
  next e _ =>
    split
    case h_1 => exact closed.afterCalShot e
    case h_2 =>
      split
      · exact (closed.modifyEngine e _).afterShot e p _ _
      · exact closed
    all_goals exact closed

theorem finishCalibration (e : EngineId) : LanesSound (s.finishCalibration e) := by
  unfold State.finishCalibration
  split
  · exact h
  next w _ =>
    have measured := h.modifyLane w.port (f := fun l => { l with
      offsetT := (calibrationOffset (pulseCode s.station) w.sums w.completed).1,
      calDefaulted := (calibrationOffset (pulseCode s.station) w.sums w.completed).2 }) fun _ => rfl
    exact (measured.releasePort e w.port).takeCalibration e

theorem leaveStarting (p : Port) : LanesSound (s.leaveStarting p) :=
  have restored := h.transferAndRestore p
  ite (fun _ => restored.enterAdvertise p true) fun _ => restored.enterDisabled p

theorem startupEnd : LanesSound s.startupEnd :=
  ite (fun _ => (h.foldl (fun _ p k => k.leaveStarting p) s.presentPorts).same rfl) fun _ => h

/-! ## Listen jobs and the frames of peers (R164 to R174) -/

theorem takeQuietAsk (st : Station) (port : Port) (units : Byte) : LanesSound (s.takeQuietAsk st port units) :=
  h.foldl (fun _ p k => k.quietAskLane p _) _

theorem endQuiet (st : Station) (port : Port) : LanesSound (s.endQuiet st port) :=
  h.foldl (fun _ p k => k.quietEndLane p st port) _

theorem takeSweepStart (st : Station) (port : Port) (units : Byte) : LanesSound (s.takeSweepStart st port units) := by
  unfold State.takeSweepStart
  simp only
  split
  · exact h
  · exact ite (fun _ => h) fun _ => LanesSound.foldl
      (LanesSound.foldl (h.setEngine _ _) (fun _ m k => k.addReason (Member.port m) .listen) _)
      (fun _ p k => k.listenPort _ p) _

theorem endListenJob (e : EngineId) : LanesSound (s.endListenJob e) := by
  unfold State.endListenJob
  split
  · exact h
  next j _ =>
    have recorded := h.foldl (f := fun t m => t.recordMember j m)
      (fun _ m k => ite (fun _ => (k.same rfl : LanesSound (State.learn _ _ _ _)).postCoord _ _) fun _ => k) j.members
    have released := (recorded.setEngine e .idle).foldl (fun _ m k => k.releasePort e (Member.port m)) j.members
    exact (released.foldl (fun _ m k => k.dropReason (Member.port m) .listen) _).startChoice

theorem takeSweepEnd (st : Station) (port : Port) : LanesSound (s.takeSweepEnd st port) := by
  have endJobOf {t : State} (k : LanesSound t) (e : EngineId) : LanesSound (t.endJobOf e st port) :=
    ite (fun _ => k.endListenJob e) fun _ => k
  exact endJobOf (endJobOf (h.endQuiet st port) 0) 1

theorem fromPeer (st : Station) {f : State → State} (k : LanesSound (f s)) : LanesSound (s.fromPeer st f) :=
  ite (fun _ => h) fun _ => ite (fun _ => k) fun _ => h

theorem withPeerPort (b : Byte) {f : Port → State} (k : ∀ p, LanesSound (f p)) : LanesSound (s.withPeerPort b f) := by
  unfold State.withPeerPort
  split
  · exact k _
  · exact h

theorem quietAskFrom (st : Station) (port units : Byte) : LanesSound (s.quietAskFrom st port units) :=
  h.fromPeer st (h.withPeerPort port fun p => h.takeQuietAsk st p units)

theorem sweepStartFrom (st : Station) (port units : Byte) : LanesSound (s.sweepStartFrom st port units) :=
  h.fromPeer st (h.withPeerPort port fun p => h.takeSweepStart st p units)

theorem sweepEndFrom (st : Station) (port : Byte) : LanesSound (s.sweepEndFrom st port) :=
  h.fromPeer st (h.withPeerPort port fun p => h.takeSweepEnd st p)

theorem quietEndFrom (st : Station) (port : Byte) : LanesSound (s.quietEndFrom st port) :=
  h.fromPeer st (h.withPeerPort port fun p => h.endQuiet st p)

theorem couplingSeenFrom (st : Station) (swept port : Byte) (level : BitVec 16) :
    LanesSound (s.couplingSeenFrom st swept port level) := by
  refine h.fromPeer st ?_
  split
  · exact ite (fun _ => h) fun _ => h.same rfl
  · exact h

theorem takeCoordination (kind : Byte) (st : Station) (payload : List Byte) :
    LanesSound (s.takeCoordination kind st payload) := by
  unfold State.takeCoordination
  split
  · exact h.quietAskFrom st _ _
  · exact h.sweepStartFrom st _ _
  · exact h.sweepEndFrom st _
  · exact h.quietEndFrom st _
  · exact h.couplingSeenFrom st _ _ _
  · exact h

/-! ## The survey, holdoffs and the minute -/

theorem restartSurvey : LanesSound s.restartSurvey := h.same rfl

theorem expireSurvey : LanesSound s.expireSurvey := by
  unfold State.expireSurvey
  split
  next p _ =>
    have asked := h.requestSweep (s.automaticRequest p .survey)
    exact restartSurvey (ite (fun _ => asked.same rfl) fun _ => asked)
  next => exact ite (fun _ => h.same rfl) fun _ => h.same rfl

theorem expireHoldoff (p : Port) : LanesSound (s.expireHoldoff p) :=
  have cleared : LanesSound (s.setHoldoff p none) := h.same rfl
  ite (fun _ => cleared.requestSweep _) fun _ => cleared

theorem advanceMinute : LanesSound s.advanceMinute := by
  unfold State.advanceMinute
  rw [State.ageRecords_eq, State.modifyRecords_rest]
  exact h.same rfl

/-! ## The events of the taps (R52 to R58) -/

theorem energyRises (p : Port) : LanesSound (s.energyRises p) := by
  have noted := h.modifyLane p (f := fun l => { l with energy := true }) fun _ => rfl
  exact (((noted.suspendOn p true).listenDrop p).same rfl : LanesSound (State.setHoldoff _ p none)).sweepWaitTest p

theorem energyFalls (p : Port) : LanesSound (s.energyFalls p) :=
  have noted := h.modifyLane p (f := fun l => { l with energy := false }) fun _ => rfl
  ite (fun _ => noted.enterAdvertise p false) fun _ => ite (fun _ => noted.failLane p _ _) fun _ => noted

theorem firstWord {p : Port} (state : (s.lane p).state = .advertise) (offer : GradeSet) (fault : Bool) :
    LanesSound (s.firstWord p offer fault) := by
  have entered := h.enterNegotiate state
  refine ite (fun _ => entered.failLane p _ _) fun _ => entered.setLane ((entered p).negotiates ?_ _)
  rw [State.enterNegotiate, State.lane_setLane_same]
  rfl

theorem completeNegotiation (p : Port) : LanesSound (s.completeNegotiation p) := by
  unfold State.completeNegotiation
  simp only
  split
  · exact h.enterTrain p _
  · exact h.failLane p _ _

theorem nextWord {p : Port} (state : (s.lane p).state = .negotiate) (offer : GradeSet) (ack fault : Bool) :
    LanesSound (s.nextWord p offer ack fault) :=
  have noted := h.setLane ((h p).negotiates state ((s.lane p).neg.word offer ack))
  ite (fun _ => h.failLane p _ _) fun _ => ite (fun _ => noted.laneIssue p _) fun _ =>
    ite (fun _ => noted.completeNegotiation p) fun _ => noted

theorem legacyDetected (p : Port) : LanesSound (s.legacyDetected p) :=
  ite (fun _ => h.enterTrain p .g1) fun _ => h.failLane p _ _

/-! ## The owners' decisions (R41 to R43, R86 to R89, R113, R114, R177) -/

theorem disableLane (p : Port) : LanesSound (s.disableLane p) := by
  have owed : LanesSound (if (s.lane p).state = .up
      then (s.leaveUp p).modifyLane p fun l => { l with transferOwed := true } else s) :=
    ite (fun _ => (h.leaveUp p).modifyLane p fun _ => rfl) fun _ => h
  have quieted := owed.modifyLane p (f := Lane.clearQuiet) fun _ => rfl
  exact ite (fun _ => quieted) fun _ => quieted.enterDisabled p

theorem carryOutRetrain (p : Port) : LanesSound (s.carryOutRetrain p) :=
  have dropped : LanesSound (if (s.lane p).state = .up then s.leaveUp p else s) :=
    ite (fun _ => h.leaveUp p) fun _ => h
  (dropped.transferAndRestore p).enterAdvertise p true

theorem retrainLane (p : Port) : LanesSound (s.retrainLane p).1 := by
  unfold State.retrainLane
  split
  · exact h
  · split
    · exact h
    · exact h.carryOutRetrain p

theorem unparkLane (p : Port) : LanesSound (s.unparkLane p).1 := by
  unfold State.unparkLane
  split
  · exact h.retrainLane p
  · exact h

theorem sweepDecision (p : Port) (mask : PairSet) (depth : Nat) (force : Bool) :
    LanesSound (s.sweepDecision p mask depth force).1 := by
  unfold State.sweepDecision
  simp only
  repeat (split; exact h)
  exact h.requestSweep _

theorem cancelDecision (p : Port) : LanesSound (s.cancelDecision p) := by
  unfold State.cancelDecision
  split
  · exact h
  · split
    · exact ite (fun _ => h) fun _ => ite (fun _ => (h.modifyEntry p _).cancelStop _ p) fun _ => h.modifyEntry p _
    · exact h
    · exact h.removeEntry p _

theorem applyProfile (p : Port) (now : Bool) : LanesSound (s.applyProfile p now) := by
  have inPlace := h.transferInPlace p
  have afresh := h.enterAdvertise p true
  unfold State.applyProfile
  split
  case h_1 | h_4 => exact inPlace
  case h_2 | h_3 | h_5 | h_7 | h_8 => exact afresh
  case h_6 => exact ite (fun _ => inPlace) fun _ => afresh
  case h_9 => exact ite (fun _ => h) fun _ => (h.leaveUp p).enterAdvertise p true
  all_goals exact h

theorem profileDecision (b : ProfileBytes) : LanesSound (s.profileDecision b).1 := by
  have written := h.foldl (f := fun t p => t.modifyLane p fun l => l.writeShadow b)
    (fun _ p k => k.modifyLane p fun _ => rfl) (portsOf (b.mask.setWidth 12))
  unfold State.profileDecision
  simp only
  split
  · exact h
  · split
    · exact h
    · exact written.foldl (fun _ p k => k.applyProfile p _) _

theorem surveyDecision (interval : Nat) (continuous : Bool) : LanesSound (s.surveyDecision interval continuous).1 :=
  ite (fun _ => h.same rfl) fun _ => h.same rfl

/-! ## The requests (R18 to R30) -/

theorem answer (k : RequestKind) (v : Decision) : LanesSound (s.answer k v) := h.same rfl

theorem withPort {k : RequestKind} {b : Byte} {f : Port → State} (decided : ∀ p, LanesSound (f p)) :
    LanesSound (s.withPort k b f) := by
  unfold State.withPort
  split
  · exact decided _
  · exact h.answer _ _

theorem laneControl (port action : Byte) : LanesSound (s.laneControl port action) := by
  refine h.withPort fun p => ?_
  split
  · exact (ite (fun _ => (h.transferAndRestore p).enterAdvertise p true) fun _ => h : LanesSound (s.enableLane p)).answer _ _
  · exact (h.disableLane p).answer _ _
  · exact (h.retrainLane p).answer _ _
  · exact (h.unparkLane p).answer _ _
  · exact h.answer _ _

theorem sweepRequest (port mask depth flags : Byte) : LanesSound (s.sweepRequest port mask depth flags) :=
  h.withPort fun p => ite (fun _ => h.answer _ _) fun _ => (h.sweepDecision p _ _ _).answer _ _

theorem cancelRequest (port : Byte) : LanesSound (s.cancelRequest port) :=
  h.withPort fun p => (h.cancelDecision p).answer _ _

theorem profileRequest (b : ProfileBytes) : LanesSound (s.profileRequest b) :=
  ite (fun _ => h.answer _ _) fun _ => ite (fun _ => h.answer _ _) fun _ => (h.profileDecision b).answer _ _

theorem guardRequest (mask : BitVec 16) : LanesSound (s.guardRequest mask) :=
  ite (fun _ => h.answer _ _) fun _ => h.same rfl

theorem surveyRequest (interval mode : Byte) : LanesSound (s.surveyRequest interval mode) :=
  ite (fun _ => h.answer _ _) fun _ => (h.surveyDecision _ _).answer _ _

theorem portQuery (port : Byte) : LanesSound (s.portQuery port) := h.withPort fun _ => h.same rfl

theorem recordRead (port : Byte) : LanesSound (s.recordRead port) := h.withPort fun _ => h.same rfl

theorem resetLane (p : Port) : LanesSound (s.resetLane p) :=
  have cleared : LanesSound (s.modifyLane p Lane.clearForReset) := h.setLane (h p).clearForReset
  have restored := cleared.transferAndRestore p
  ite (fun _ => restored.laneCommand p) fun _ => restored.enterAdvertise p true

theorem stationReset : LanesSound s.stationReset := by
  have freed : LanesSound s.resetEnginesAndSurvey := fun p => by
    rw [State.lane_resetEnginesAndSurvey]
    exact (h p).tap _ _ _ (.inl rfl)
  have lanes : LanesSound (s.resetEnginesAndSurvey.presentPorts.foldl State.resetLane s.resetEnginesAndSurvey) :=
    freed.foldl (fun _ p k => k.resetLane p) _
  unfold State.stationReset
  simp only [State.resetSweeps_resetSurvey]
  exact lanes.same rfl

/-! ## Requests and frames handed on, and the transmitter (R7 to R9) -/

theorem takeRequest {f : State → State} (decided : LanesSound (f s)) : LanesSound (s.takeRequest f) :=
  ite (fun _ => h.same rfl) fun _ => ite (fun _ => h.same rfl) fun _ => decided

theorem decideRequest {k : RequestKind} {payload : List Byte} {f : State → State}
    (decided : Machine.decideRequest k payload = some f) : LanesSound (f s) := by
  cases k with
  | stationReset => match payload, decided with | [], rfl => exact h.stationReset
  | laneControl => match payload, decided with | [_, _], rfl => exact h.laneControl _ _
  | sweep => match payload, decided with | [_, _, _, _], rfl => exact h.sweepRequest _ _ _ _
  | cancelSweep => match payload, decided with | [_], rfl => exact h.cancelRequest _
  | setProfile =>
    match payload, decided with
    | [_, _, _, _, _, _, _, _, _, _, _, _, _], rfl => exact h.profileRequest _
  | setGuard => match payload, decided with | [_, _], rfl => exact h.guardRequest _
  | setSurvey => match payload, decided with | [_, _], rfl => exact h.surveyRequest _ _
  | queryStation => match payload, decided with | [], rfl => exact h.same rfl
  | queryPort => match payload, decided with | [_], rfl => exact h.portQuery _
  | readRecord => match payload, decided with | [_], rfl => exact h.recordRead _
  | readCoupling => match payload, decided with | [_], rfl => exact h.same rfl
  | clearCoupling => match payload, decided with | [], rfl => exact h.same rfl

theorem takeFrame (kind header : Byte) (payload : List Byte) (check : Byte) :
    LanesSound (s.takeFrame kind header payload check) := by
  have after : LanesSound { s with rx := .afterFrame } := h.same rfl
  refine ite (fun _ => h.same rfl) fun _ => ite (fun _ => ?_) fun _ => h.same rfl
  rcases State.accept_cases { s with rx := .afterFrame } kind (header.extractLsb' 4 4) (header.extractLsb' 0 4) payload
    with e | e | e | ⟨k, f, -, decided, e⟩ | e <;> rw [e]
  · exact after
  · exact after.same rfl
  · exact after.same rfl
  · exact after.takeRequest (after.decideRequest decided)
  · exact after.takeCoordination _ _ _

theorem leaveQueue (place : TxPlace) : LanesSound (s.leaveQueue place) := by
  cases place with
  | coordination | portNotice => exact h.same rfl
  | stationNotice => exact ite (fun _ => h.same rfl) fun _ => h
  | reply =>
    cases list : s.replyList with
    | nil => rw [State.leaveQueue_reply_nil list]; exact h
    | cons r rest => rw [State.leaveQueue_reply_cons list]; exact h.same rfl

theorem collide (f : TxFrame) : LanesSound (s.collide f) :=
  have stopped : LanesSound s.collided := h.same rfl
  ite (fun _ => (stopped.leaveQueue f.place).same rfl) fun _ => stopped

end LanesSound

/-! ## The forms of a command -/

/-- Where the outcome is a state, its lanes agree with their states. -/
def SoundAfter (o : Host.Outcome State Fault Refusal) : Prop := ∀ t, o = .next t → LanesSound t

namespace SoundAfter

variable {s : State} (h : LanesSound s)
include h

theorem perform {f : State → State} (k : LanesSound (f s)) : SoundAfter (s.perform f) := by
  intro t ran
  unfold State.perform at ran
  split at ran <;> cases ran
  · exact h
  · exact k.settle

theorem tapEvent {p : Port} {f : State → State} (k : LanesSound (f s)) : SoundAfter (s.tapEvent p f) :=
  perform h (.ite (fun _ => k) fun _ => h)

theorem request {f : State → State} (k : LanesSound (f s)) : SoundAfter (s.perform fun t => t.takeRequest f) :=
  perform h (h.takeRequest k)

theorem plainPulse (p : Port) : SoundAfter (execPlainPulse p s) := by
  refine tapEvent h (.ite (fun state => .ite (fun _ => ?_) fun few => ?_) fun _ => h)
  · exact (h.setLane ((h p).pulse (Nat.zero_le 2) (.inl ⟨rfl, rfl⟩))).legacyDetected p
  · exact h.setLane ((h p).pulse (by omega) (.inr state))

theorem captureDone (p : Port) (tag : Byte) (data : Capture) : SoundAfter (execCaptureDone p tag data s) := by
  have ignored : SoundAfter (s.perform id) := perform h h
  unfold execCaptureDone
  split
  next => exact ignored
  next =>
    split
    next => exact ignored
    next e _ =>
      split
      case h_1 => exact perform h (h.shotCompleted e p _)
      case h_2 => exact perform h (((h.closeCapture p).modifyEngine e _).afterCalShot e)
      case h_3 => exact perform h (h.modifyEngine e _)
      case h_10 | h_11 | h_12 => exact ignored
      all_goals exact fun _ stopped => nomatch stopped

theorem collisionError : SoundAfter (execCollisionError s) := by
  refine perform h ?_
  split
  · exact h.collide _
  · exact h

theorem frameSent : SoundAfter (execFrameSent s) := by
  refine perform h ?_
  split
  · exact (h.leaveQueue _).same rfl
  · exact h

theorem burst (p : Port) (offer : GradeSet) (ack fault : Bool) : SoundAfter (execBurst p offer ack fault s) := by
  refine tapEvent h ?_
  split
  next state => exact h.firstWord state offer fault
  next state => exact h.nextWord state offer ack fault
  all_goals exact h

theorem trainFault (p : Port) (kind : TrainFaultKind) (q : Pair) : SoundAfter (execTrainFault p kind q s) := by
  refine tapEvent h ?_
  split
  · exact .ite (fun _ => h.failLane p _ _) fun _ => h
  · exact h

theorem settleExpiry (e : EngineId) : SoundAfter (execSettleExpiry e s) := by
  refine perform h (.ite (fun _ => ?_) fun _ => h)
  split
  · exact h.settled e _
  · exact h.modifyEngine e _

theorem preparePass (e : EngineId) : SoundAfter (execPreparePass e s) := by
  refine perform h (.ite (fun _ => ?_) fun _ => h)
  split
  · exact (h.postCoord _ _).modifyEngine e _
  · exact h

theorem analysisEnd (e : EngineId) : SoundAfter (execAnalysisEnd e s) := by
  refine perform h (.ite (fun _ => ?_) fun _ => h)
  simp only
  split
  · exact (h.modifyEngine e _).endAnalysis e _ _
  · exact h.modifyEngine e _

end SoundAfter

/-! ## The resets (R35, R36) -/

theorem State.powerOnValues_sound (s : State) (station : Station) (twelve aut : Bool) :
    LanesSound (s.powerOnValues station twelve aut) := fun p => by
  rw [State.powerOnValues_lane]
  exact Lane.powerOn_stateSound

theorem execResetAssert_sound (s : State) : SoundAfter (execResetAssert s) := by
  rintro _ ⟨⟩
  exact (s.powerOnValues_sound s.station s.twelvePorts s.autostart).same rfl

theorem execResetRelease_sound (s : State) (sta : BitVec 3) (pcs aut : Bool) :
    SoundAfter (execResetRelease sta pcs aut s) := by
  rintro _ ⟨⟩
  let u := s.powerOnValues (strapStation sta) pcs aut
  have listed : LanesSound { u with calList := u.presentPorts } :=
    (s.powerOnValues_sound (strapStation sta) pcs aut).same rfl
  exact (listed.takeCalibration 0).takeCalibration 1

/-! ## Every command -/

/-- Every command keeps what each lane holds in agreement with its state. -/
theorem exec_sound (c : Instr) {s : State} (h : LanesSound s) : SoundAfter (exec c s) := by
  cases c <;> rw [exec]
  case resetAssert => exact execResetAssert_sound s
  case resetRelease => exact execResetRelease_sound s _ _ _
  case minuteAdvance => exact .perform h (.ite (fun _ => h.advanceMinute) fun _ => h)
  case frameReceived => exact .perform h (.ite (fun _ => h.takeFrame _ _ _ _) fun _ => h)
  case frameBreak | frameLengthOverflow | trailingCell | lineIdle | newFrame | arbitrationLost =>
    exact .perform h (.ite (fun _ => h.same rfl) fun _ => h)
  case collisionError => exact .collisionError h
  case frameSent => exact .frameSent h
  case stationReset => exact .request h h.stationReset
  case enable | disable | retrain | unpark => exact .request h (h.laneControl _ _)
  case sweep => exact .request h (h.sweepRequest _ _ _ _)
  case cancelSweep => exact .request h (h.cancelRequest _)
  case setProfile => exact .request h (h.profileRequest _)
  case setGuard => exact .request h (h.guardRequest _)
  case setSurvey => exact .request h (h.surveyRequest _ _)
  case queryStation | readCoupling | clearCoupling => exact .request h (h.same rfl)
  case queryPort => exact .request h (h.portQuery _)
  case readRecord => exact .request h (h.recordRead _)
  case quietAsk => exact .perform h (h.quietAskFrom _ _ _)
  case quietEnd => exact .perform h (h.quietEndFrom _ _)
  case sweepStart => exact .perform h (h.sweepStartFrom _ _ _)
  case sweepEnd => exact .perform h (h.sweepEndFrom _ _)
  case couplingSeen => exact .perform h (h.couplingSeenFrom _ _ _ _)
  case energyOn p => exact .tapEvent h (.ite (fun _ => h) fun _ => h.energyRises p)
  case energyOff p => exact .tapEvent h (.ite (fun _ => h.energyFalls p) fun _ => h)
  case burst p offer ack fault => exact .burst h p offer ack fault
  case plainPulse p => exact .plainPulse h p
  case trainProgress p _ => exact .tapEvent h (.ite (fun _ => h.enterUp p) fun _ => h)
  case trainFault p kind q => exact .trainFault h p kind q
  case linkLost p => exact .tapEvent h (.ite (fun _ => h.loseLink p) fun _ => h)
  case powerDetectBegin p =>
    have noted := h.modifyLane p (f := fun l => { l with power := true }) fun _ => rfl
    exact .tapEvent h (.ite (fun _ => h) fun _ => (noted.addReason p .power).suspendOn p false)
  case powerDetectEnd p =>
    have noted := h.modifyLane p (f := fun l => { l with power := false }) fun _ => rfl
    exact .tapEvent h (.ite (fun _ => noted.dropReason p .power) fun _ => h)
  case captureDone p tag data => exact .captureDone h p tag data
  case captureTimeout p => exact .tapEvent h (.ite (fun _ => h.shotFailed p) fun _ => h)
  case calibrationResult e =>
    exact .perform h (.ite (fun _ => .ite (fun _ => ((h.finishCalibration 0).finishCalibration 1).startupEnd) fun _ =>
      (h.finishCalibration e).startupEnd) fun _ => h)
  case negWindowExpiry p | trainWindowExpiry p => exact .tapEvent h (.ite (fun _ => h.failLane p _ _) fun _ => h)
  case backoffExpiry p => exact .tapEvent h (.ite (fun _ => h.enterAdvertise p false) fun _ => h)
  case quietRecordExpiry p _ _ => exact .tapEvent h (.ite (fun _ => h.quietEndLane p _ _) fun _ => h)
  case settleExpiry e => exact .settleExpiry h e
  case retryWaitExpiry e => exact .perform h (.ite (fun _ => h.modifyEngine e _) fun _ => h)
  case preparePass e => exact .preparePass h e
  case analysisEnd e => exact .analysisEnd h e
  case listenJobEnd e => exact .perform h (.ite (fun _ => h.endListenJob e) fun _ => h)
  case holdoffExpiry p => exact .tapEvent h (.ite (fun _ => h.expireHoldoff p) fun _ => h)
  case surveyExpiry => exact .perform h (.ite (fun _ => h.expireSurvey) fun _ => h)

end Sys2Proof.Machine
end

section
/-! The statement on what every step keeps of what a lane holds. -/

open Sys2Proof Sys2Proof.Machine

/-- Settles O8: every operation keeps every lane in agreement with its state (`LanesSound`), since a lane leaves a state only by
coming to rest, which clears what the state held. -/
theorem stepKeepsLaneState : Obligations.StepKeepsLaneState := by
  intro s t sound next
  rw [State.allLanes_stateSound] at sound ⊢
  rcases step_cases next with ⟨c, pending, free, ran⟩ | rfl | rfl
  · have moved : LanesSound { s with pending := pending, freeCount := free } := sound.same rfl
    exact exec_sound c moved t ran
  · exact sound
  · exact sound.same rfl

end

section
/-! SUPPORT. The operations of a lane in the form the statements write them, continued: the command of a state, a lane that leaves
HELD, a counted failure (R47, R61, R64, R79 to R82, R99). -/

namespace Sys2Proof.Machine

/-! ## The command of a state (R47, R61) -/

section Issue

variable {s : State} {p : Port} {c : TapCommand} {e : EngineId}

theorem State.setLane_lane (s : State) (p : Port) : s.setLane p (s.lane p) = s := by
  simp [State.setLane, State.lane]

theorem State.laneCommand_none (silent : (s.lane p).stateCommand = none) : s.laneCommand p = s := by
  rw [State.laneCommand, silent]

theorem State.laneCommand_some (command : (s.lane p).stateCommand = some c) : s.laneCommand p = s.laneIssue p c := by
  rw [State.laneCommand, command]

theorem State.laneIssue_own (own : (s.lane p).holder = .lane) : s.laneIssue p c = s.setLane p ((s.lane p).issue c) := by
  rw [State.laneIssue, own]
  rfl

theorem State.laneIssue_withheld (held : (s.lane p).holder = .engine e)
    (withheld : c = .sendQuiet ∨ (s.engine e).state ≠ .listening) : s.laneIssue p c = s := by
  rw [State.laneIssue, held]
  exact if_neg fun takes => withheld.elim takes.2 fun busy => busy takes.1

theorem State.laneIssue_takesBack (held : (s.lane p).holder = .engine e) (listens : (s.engine e).state = .listening)
    (speaks : c ≠ .sendQuiet) : s.laneIssue p c =
      (s.setEngine e ((s.engine e).without p)).setLane p ((s.lane p).takeBack c) := by
  have lane : (s.setEngine e ((s.engine e).without p)).lane p = s.lane p := rfl
  rw [State.laneIssue, held]
  simp only
  rw [if_pos ⟨listens, speaks⟩, State.detachMember_eq, State.modifyLane, lane]

theorem Engine.without_job {g : Engine} {j : ListenJob} (job : g.job = some j) (p : Port) :
    let others := j.members.filter fun m => decide (m.port ≠ p)
    g.without p = if others = [] then .idle else { g with job := some { j with members := others } } := by
  simp only [Engine.without, job, List.isEmpty_iff]

end Issue

/-! ## A lane whose transfer is owed (R62, R63) -/

/-- The lane with the transfer made that it owes. -/
def Lane.dueTransfer (l : Lane) (allowed : GradeSet) : Lane := if l.transferOwed then l.atTransferPoint allowed else l

theorem Lane.transferAt_false (l : Lane) (allowed : GradeSet) : l.transferAt allowed false = l.dueTransfer allowed := by
  simp only [Lane.transferAt, Lane.dueTransfer, Bool.false_or, Lane.transfer_eq]

theorem Lane.rest_dueTransfer (l : Lane) (st : LaneState) (allowed : GradeSet) :
    (l.rest st).dueTransfer allowed = (l.dueTransfer allowed).rest st := by
  unfold Lane.dueTransfer Lane.atTransferPoint Lane.transferred Lane.restored
  cases owed : l.transferOwed <;> cases pending : l.shadowPending <;> simp [Lane.rest, owed, pending]

/-! ## A lane that is written and enters a state -/

section Enter

variable (s : State) (p : Port) (l : Lane)

theorem State.setLane_enterAdvertise (b : Bool) :
    (s.setLane p l).enterAdvertise p b = s.advertises p (l.transferAt (s.record p).allowed b) := by
  rw [State.enterAdvertise_eq, State.lane_setLane_same, State.setLane_advertises]
  rfl

theorem State.setLane_enterAdvertise_due :
    (s.setLane p l).enterAdvertise p false = s.advertises p (l.dueTransfer (s.record p).allowed) := by
  rw [State.setLane_enterAdvertise, Lane.transferAt_false]

theorem State.enterAdvertise_due : s.enterAdvertise p false = s.advertises p ((s.lane p).dueTransfer (s.record p).allowed) := by
  rw [State.enterAdvertise_eq, Lane.transferAt_false]

theorem State.setLane_leaveHeldIfFree : (s.setLane p l).leaveHeldIfFree p = s.leavesHeld p l := by
  unfold State.leaveHeldIfFree State.leavesHeld
  rw [State.lane_setLane_same, State.setLane_enterAdvertise_due]
  rfl

theorem State.setLane_enterParked : (s.setLane p l).enterParked p = (s.rests p l .parked).post p .parked := by
  rw [State.enterParked, State.setLane_restIn]

/-- BACKOFF with its timer, or HELD at once (R71). -/
theorem State.setLane_enterBackoff : (s.setLane p l).enterBackoff p =
    if l.hold = .empty then (s.rests p l .backoff).modifyLane p fun y => { y with timer := some (.backoff, s.ms + 1000) }
    else s.rests p l .held := by
  unfold State.enterBackoff State.enterHeld
  rw [State.lane_setLane_same, State.setLane_restIn, State.setLane_restIn]
  rfl

theorem State.setLane_enterSweepWait : (s.setLane p l).enterSweepWait p =
    if l.energy then s.advertises p (l.dueTransfer (s.record p).allowed) else s.rests p l .sweepWait := by
  unfold State.enterSweepWait
  rw [State.lane_setLane_same, State.setLane_enterAdvertise_due, State.setLane_restIn]

/-- What coming to rest clears has no part in an entry into ADVERTISE. -/
theorem State.advertises_rest (st : LaneState) : s.advertises p (l.rest st) = s.advertises p l := rfl

end Enter

/-! ## Failures (R79, R80) -/

theorem State.setLane_requestSweep (s : State) (p : Port) (l : Lane) (r : SweepRequest) :
    (s.setLane p l).requestSweep r = (s.requestSweep r).setLane p l := by
  have outcome : (s.setLane p l).requestOutcome r.port = s.requestOutcome r.port := rfl
  unfold State.requestSweep
  rw [outcome]
  cases s.requestOutcome r.port <;> rfl

theorem State.requestSweep_records (s : State) (r : SweepRequest) : (s.requestSweep r).records = s.records := by
  unfold State.requestSweep
  split <;> rfl

/-- A request for the port would be queued or merged: its entry is not RUNNING, or the queue has a place for a new one (R110 to
R112). -/
def State.wouldQueue (s : State) (p : Port) : Bool :=
  match s.entryOf p with
  | some x => decide (x.state ≠ .running)
  | none => decide (s.queue.length < 6)

theorem State.requestOutcome_queued (s : State) (p : Port) : (s.requestOutcome p).queued = s.wouldQueue p := by
  unfold State.requestOutcome State.wouldQueue
  cases s.entryOf p with
  | some x => by_cases running : x.state = .running <;> simp [running, RequestOutcome.queued]
  | none => by_cases room : s.queue.length < 6 <;> simp [room, RequestOutcome.queued, Config.queueCapacity]

theorem Lane.downshiftTarget_eq (l : Lane) (allowed : GradeSet) : l.downshiftTarget allowed =
    (highestGrade (l.active.advertised &&& allowed &&& gradesUpTo l.ceiling)).bind fun g =>
      highestGrade (l.active.advertised &&& allowed &&& gradesBelow g) := by
  rw [Lane.downshiftTarget, Lane.effectiveCeiling, Lane.offeredSet]
  cases highestGrade (l.active.advertised &&& allowed &&& gradesUpTo l.ceiling) <;> rfl

/-- A failure of the lane l, at its place in s. -/
theorem State.setLane_failLane (s : State) (p : Port) (l : Lane) (reason : LastFailure) (cable : Bool) :
    let asks := l.asksSweep cable
    let asked := if asks then s.requestSweep ⟨p, allPairSet, l.active.depth, .laneFailure, false⟩ else s
    let ruled := (l.countFailure reason).ladder (s.record p).allowed
    (s.setLane p l).failLane p reason cable =
      (asked.setLane p ruled.1).afterFailure p (asks && s.wouldQueue p) ruled.2 := by
  intro asks asked ruled
  have records : asked.records = s.records := by
    show (if _ then _ else _ : State).records = _
    split
    · exact State.requestSweep_records _ _
    · rfl
  have counted : (if asks then ((s.setLane p l).modifyLane p (·.countFailure reason)).requestSweep
        (((s.setLane p l).modifyLane p (·.countFailure reason)).automaticRequest p .laneFailure)
      else (s.setLane p l).modifyLane p (·.countFailure reason)) = asked.setLane p (l.countFailure reason) := by
    rw [State.setLane_modifyLane, State.automaticRequest, State.lane_setLane_same, State.setLane_requestSweep]
    show _ = State.setLane (if asks then _ else _) p _
    split <;> rfl
  have outcome : (s.setLane p l).requestOutcome p = s.requestOutcome p := rfl
  have record : (asked.setLane p (l.countFailure reason)).record p = s.record p := State.record_of_records records p
  unfold State.failLane
  simp only [State.lane_setLane_same, outcome]
  rw [counted, State.lane_setLane_same, State.setLane_setLane, record, State.requestOutcome_queued]

/-- Where a lane goes that the ladder does not park (R80), as the statements write it: `asked` is the state after the request,
`energy` the flag at the failure, `now` the count. -/
theorem State.setLane_goesOn {asked : State} {p : Port} {x : Lane} {queued energy : Bool} {allowed : GradeSet} {now : Ms}
    (flag : x.energy = energy) (record : (asked.record p).allowed = allowed) (ms : asked.ms = now) :
    (if queued then (asked.setLane p x).enterSweepWait p else (asked.setLane p x).enterBackoff p) =
      if queued then
        (if energy then asked.advertises p (x.dueTransfer allowed) else asked.rests p x .sweepWait)
      else if x.hold = .empty then
        (asked.rests p x .backoff).modifyLane p fun y => { y with timer := some (.backoff, now + 1000) }
      else asked.rests p x .held := by
  subst flag record ms
  rw [State.setLane_enterSweepWait, State.setLane_enterBackoff]

/-- The failure as R79 orders it. -/
theorem State.failLane_eq (s : State) (p : Port) (reason : LastFailure) (cable : Bool) :
    s.failLane p reason cable = s.fails p reason cable := by
  let l := s.lane p
  let counted := l.countFailure reason
  let allowed := (s.record p).allowed
  let asked := if l.asksSweep cable then s.requestSweep ⟨p, allPairSet, l.active.depth, .laneFailure, false⟩ else s
  have failed : s.failLane p reason cable =
      (asked.setLane p (counted.ladder allowed).1).afterFailure p (l.asksSweep cable && s.wouldQueue p)
        (counted.ladder allowed).2 := by
    rw [← State.setLane_failLane, State.setLane_lane]
  have kept : asked.records = s.records ∧ asked.ms = s.ms := by
    show State.records (if _ then _ else _) = _ ∧ State.ms (if _ then _ else _) = _
    split
    · exact ⟨s.requestSweep_records _, s.requestSweep_ms _⟩
    · exact ⟨rfl, rfl⟩
  have record : (asked.record p).allowed = allowed := congrArg CableRecord.allowed (State.record_of_records kept.1 p)
  rw [failed]
  unfold State.fails
  by_cases left : l.attempts + 1 < l.active.attempts
  · have rules : counted.ladder allowed = ({ counted with attempts := l.attempts + 1 }, .retry) := if_pos left
    rw [rules]
    exact (State.setLane_goesOn rfl record kept.2).trans (if_pos left).symm
  · have rules : counted.ladder allowed = match l.active.downshift, l.downshiftTarget allowed with
      | true, some g => ({ counted with ceiling := g, attempts := 0 }, .downshift)
      | _, _ => ({ counted with attempts := l.attempts + 1 }, .park) := if_neg left
    refine Eq.trans ?_ (if_neg left).symm
    rw [← Lane.downshiftTarget_eq, rules]
    cases l.downshiftTarget allowed <;> cases l.active.downshift
    case some.true => exact State.setLane_goesOn rfl record kept.2
    all_goals exact State.setLane_enterParked _ _ _

/-- What coming to rest clears has no part in the ladder. -/
theorem Lane.rest_ladder (l : Lane) (st : LaneState) (allowed : GradeSet) :
    (l.rest st).ladder allowed = ((l.ladder allowed).1.rest st, (l.ladder allowed).2) := by
  have target : (l.rest st).downshiftTarget allowed = l.downshiftTarget allowed := rfl
  unfold Lane.ladder
  by_cases left : l.attempts + 1 < l.active.attempts
  · simp only [if_pos left, if_pos (show (l.rest st).attempts + 1 < (l.rest st).active.attempts from left)]
    rfl
  · simp only [if_neg left, if_neg (show ¬(l.rest st).attempts + 1 < (l.rest st).active.attempts from left), target]
    cases l.downshiftTarget allowed <;> cases down : l.active.downshift <;> simp only [Lane.rest, down]

/-- What coming to rest clears has no part in a failure. -/
theorem State.setLane_rest_failLane (s : State) (p : Port) (l : Lane) (st : LaneState) (reason : LastFailure) (cable : Bool) :
    (s.setLane p (l.rest st)).failLane p reason cable = (s.setLane p l).failLane p reason cable := by
  have rested (t : State) (x : Lane) (queued : Bool) (o : LadderOutcome) :
      (t.setLane p (x.rest st)).afterFailure p queued o = (t.setLane p x).afterFailure p queued o := by
    cases o with
    | park => rw [State.afterFailure, State.afterFailure, State.setLane_enterParked, State.setLane_enterParked]; rfl
    | retry | downshift =>
      simp only [State.afterFailure, State.setLane_enterSweepWait, State.setLane_enterBackoff, Lane.rest_dueTransfer,
        State.advertises_rest]
      rfl
  have counted : (l.rest st).countFailure reason = (l.countFailure reason).rest st := rfl
  rw [State.setLane_failLane, State.setLane_failLane]
  simp only [counted, Lane.rest_ladder, rested]
  rfl

end Sys2Proof.Machine
end

section
/-! The statement on the command of a lane's state. -/

open Sys2Proof Sys2Proof.Machine

/-- Settles O43: the three ways a command is issued, by who holds the port and whether that engine listens. -/
theorem laneCommand : Obligations.LaneCommand := by
  intro s p l command
  have same : l.stateCommand = command := by
    dsimp only [command, Lane.stateCommand]
    cases l.state <;> rfl
  refine ⟨fun silent => State.laneCommand_none (same.trans silent), ?_⟩
  intro c speaks issued
  rw [State.laneCommand_some (same.trans speaks)]
  refine ⟨State.laneIssue_own, fun e => State.laneIssue_withheld, fun e j held listens speaks job => ?_⟩
  rw [State.laneIssue_takesBack held listens speaks, Engine.without_job job]
  rfl

end

section
/-! SUPPORT. Capability words and plain pulses (R54, R55, R72 to R74, R94, R95): what each word makes of the negotiation record,
and where the lane goes. -/

namespace Sys2Proof.Machine

/-! ## The grade resolved (R94) -/

theorem gradeBit_le_highestGrade {gs : GradeSet} {best h : Grade} (found : highestGrade gs = some best)
    (has : hasGrade gs h = true) : gradeBit h ≤ gradeBit best := by
  cases h <;> revert gs best <;> decide

theorem gradeBit_injective : Function.Injective gradeBit := by
  intro g h same
  cases g <;> cases h <;> cases same <;> rfl

theorem highestGrade_eq_some {gs : GradeSet} {g : Grade} (has : hasGrade gs g = true)
    (highest : ∀ h, hasGrade gs h = true → gradeBit h ≤ gradeBit g) : highestGrade gs = some g := by
  obtain ⟨best, found⟩ : ∃ best, highestGrade gs = some best := highestGrade_some fun empty => by
    subst empty
    cases g <;> cases has
  have same := (highest best (highestGrade_mem found)).antisymm (gradeBit_le_highestGrade found has)
  exact found.trans (congrArg some (gradeBit_injective same))

section Words

variable {s : State} {p : Port} {offer : GradeSet} {ack : Bool}

/-! ## Failures of a lane in the middle of an attempt -/

/-- A lane that differs from the port's own only in what coming to rest clears fails as that lane does. -/
theorem State.setLane_failLane_of_rest {m : Lane} (same : m.rest .parked = (s.lane p).rest .parked) (reason : LastFailure)
    (cable : Bool) : (s.setLane p m).failLane p reason cable = s.fails p reason cable := by
  rw [← State.setLane_rest_failLane s p m .parked, same, State.setLane_rest_failLane, State.setLane_lane, State.failLane_eq]

/-! ## The first word (R72) -/

theorem State.firstWord_fault : s.firstWord p offer true = s.fails p .partnerFault false := by
  rw [State.firstWord, if_pos rfl]
  refine State.setLane_failLane_of_rest (s := s) ?_ _ _
  rfl

theorem State.firstWord_offer : s.firstWord p offer false = s.setLane p { (s.lane p).rest .negotiate with
    timer := some (.negotiate, s.ms + BitVec.ofNat 48 ((s.lane p).active.negWindow * 100))
    neg := ⟨some offer, 1, false, 0⟩ } := by
  rw [State.firstWord, if_neg (by decide)]
  exact State.setLane_modifyLane _ _ _ _

/-! ## The negotiation record (R73, R74) -/

theorem NegRecord.word_other {n : NegRecord} (other : n.lastOffer ≠ some offer) :
    n.word offer ack = ⟨some offer, 1, false, 0⟩ := if_neg other

theorem NegRecord.word_unacked {n : NegRecord} (same : n.lastOffer = some offer) (own : n.ownAck = false) :
    n.word offer ack = ⟨some offer, min 3 (n.identical + 1), decide (min 3 (n.identical + 1) = 3), 0⟩ := by
  simp [NegRecord.word, same, own]

theorem NegRecord.word_acked {n : NegRecord} (same : n.lastOffer = some offer) (own : n.ownAck = true) :
    n.word offer ack = ⟨some offer, min 3 (n.identical + 1), true, if ack then n.ackRun + 1 else 0⟩ := by
  simp [NegRecord.word, same, own]

/-! ## A further word (R73, R74) -/

/-- The lane of port p with its negotiation record replaced. -/
def State.notes (s : State) (p : Port) (n : NegRecord) : State := s.setLane p { s.lane p with neg := n }

theorem State.nextWord_fault : s.nextWord p offer ack true = s.fails p .partnerFault false := by
  rw [← State.failLane_eq]
  rfl

/-- The lane's ack changes, and its word goes out again. -/
theorem State.nextWord_turns {n : NegRecord} (state : (s.lane p).state = .negotiate)
    (word : (s.lane p).neg.word offer ack = n) (turns : n.ownAck ≠ (s.lane p).neg.ownAck) :
    s.nextWord p offer ack false = (s.notes p n).laneCommand p := by
  have command : ((s.notes p n).lane p).stateCommand = some (.sendWord (s.lane p).offered n.ownAck) := by
    rw [State.notes, State.lane_setLane_same, Lane.stateCommand]
    simp only [state]
  rw [State.laneCommand_some command]
  simp only [State.nextWord, word, if_pos turns]
  rfl

/-- The second acked word completes the negotiation. -/
theorem State.nextWord_completes {n : NegRecord} (word : (s.lane p).neg.word offer ack = n)
    (stays : n.ownAck = (s.lane p).neg.ownAck) (acked : n.ownAck = true ∧ 2 ≤ n.ackRun) :
    s.nextWord p offer ack false = (s.notes p n).completeNegotiation p := by
  simp only [State.nextWord, word]
  rw [if_neg (not_not.2 stays), if_pos acked]
  rfl

/-- Any other word only counts. -/
theorem State.nextWord_counts {n : NegRecord} (word : (s.lane p).neg.word offer ack = n)
    (stays : n.ownAck = (s.lane p).neg.ownAck) (short : ¬(n.ownAck = true ∧ 2 ≤ n.ackRun)) :
    s.nextWord p offer ack false = s.notes p n := by
  simp only [State.nextWord, word]
  rw [if_neg (not_not.2 stays), if_neg short]
  rfl

/-! ## The end of the negotiation (R74, R94) -/

theorem State.completeNegotiation_fails {n : NegRecord} (last : n.lastOffer = some offer)
    (none_ : (s.lane p).offered &&& offer = 0) : (s.notes p n).completeNegotiation p = s.fails p .noCommon false := by
  have resolved : resolveGrade (s.lane p).offered (n.lastOffer.getD 0) = none := by
    rw [last, resolveGrade, Option.getD_some, none_]
    decide
  simp only [State.completeNegotiation, State.notes, State.lane_setLane_same, resolved]
  refine State.setLane_failLane_of_rest ?_ _ _
  rfl

theorem State.completeNegotiation_trains {n : NegRecord} {g : Grade} (last : n.lastOffer = some offer)
    (best : highestGrade ((s.lane p).offered &&& offer) = some g) : (s.notes p n).completeNegotiation p =
      (s.setLane p { (s.lane p).rest .train with
        training := some g
        timer := some (.train, s.ms + BitVec.ofNat 48 ((s.lane p).active.trainWindow * 100)) }).laneCommand p := by
  have resolved : resolveGrade (s.lane p).offered (n.lastOffer.getD 0) = some g := by
    rw [last]
    exact best
  simp only [State.completeNegotiation, State.notes, State.lane_setLane_same, resolved, State.enterTrain,
    State.setLane_setLane]
  rfl

/-! ## The commands -/

theorem exec_burst_first (hears : s.hears p = true) (state : (s.lane p).state = .advertise) (fault : Bool) :
    exec (.burst p offer ack fault) s = .next (s.firstWord p offer fault).settle := by
  rw [exec, execBurst, State.tapEvent_taken _ hears]
  simp only [state]

theorem exec_burst_next (hears : s.hears p = true) (state : (s.lane p).state = .negotiate) (fault : Bool) :
    exec (.burst p offer ack fault) s = .next (s.nextWord p offer ack fault).settle := by
  rw [exec, execBurst, State.tapEvent_taken _ hears]
  simp only [state]

theorem exec_burst_ignored (hears : s.hears p = true) (silent : (s.lane p).state ≠ .advertise)
    (apart : (s.lane p).state ≠ .negotiate) (fault : Bool) : exec (.burst p offer ack fault) s = .next s.settle := by
  rw [exec, execBurst, State.tapEvent_taken _ hears]
  cases state : (s.lane p).state with
  | advertise => exact absurd state silent
  | negotiate => exact absurd state apart
  | _ => rfl

end Words
end Sys2Proof.Machine
end

section
/-! The statement on capability words. -/

open Sys2Proof Sys2Proof.Machine

/-- Settles O48: the first word enters NEGOTIATE; each further word is counted, turns the lane's ack or completes the negotiation,
as the record it makes says. -/
theorem partnerWords : Obligations.PartnerWords := by
  intro s p offer ack fault hears l out rested
  have first (state : l.state = .advertise) : out = .next (s.firstWord p offer fault).settle :=
    exec_burst_first hears state fault
  have further (state : l.state = .negotiate) : out = .next (s.nextWord p offer ack fault).settle :=
    exec_burst_next hears state fault
  refine ⟨fun silent apart => exec_burst_ignored hears silent apart fault, fun states broken => ?_, fun state sound => ?_,
    fun state sound => ?_⟩
  · subst broken
    rcases states with state | state
    · exact (first state).trans (State.next_settle State.firstWord_fault)
    · exact (further state).trans (State.next_settle State.nextWord_fault)
  · subst sound
    exact (first state).trans (State.next_settle State.firstWord_offer)
  subst sound
  have becomes {t : State} (h : s.nextWord p offer ack false = t) : out = .next t.settle :=
    (further state).trans (State.next_settle h)
  refine ⟨fun other own => becomes ?_, fun other own => becomes ?_,
    fun same own => ⟨fun few => becomes ?_, fun third => becomes ?_⟩,
    fun same own => ⟨fun plain => becomes ?_, fun acked few => becomes ?_,
      fun acked second => ⟨fun none_ => becomes ?_, fun g has best => becomes ?_⟩⟩⟩
  · exact State.nextWord_counts (NegRecord.word_other other) own.symm nofun
  · exact State.nextWord_turns state (NegRecord.word_other other) fun stays => nomatch stays.trans own
  · have word : l.neg.word offer ack = ⟨some offer, l.neg.identical + 1, false, 0⟩ := by
      rw [NegRecord.word_unacked same own, Nat.min_eq_right few.le, decide_eq_false few.ne]
    exact State.nextWord_counts word own.symm nofun
  · have word : l.neg.word offer ack = ⟨some offer, 3, true, 0⟩ := by
      rw [NegRecord.word_unacked same own, Nat.min_eq_left third]
      rfl
    exact State.nextWord_turns state word fun stays => nomatch stays.trans own
  · subst plain
    exact State.nextWord_counts (NegRecord.word_acked same own) own.symm fun ends =>
      absurd ends.2 (by decide : ¬2 ≤ 0)
  · subst acked
    exact State.nextWord_counts (NegRecord.word_acked same own) own.symm fun ends => absurd ends.2 (Nat.not_le.2 few)
  all_goals
    subst acked
    rw [State.nextWord_completes (NegRecord.word_acked (ack := true) same own) own.symm ⟨rfl, second⟩]
  · exact State.completeNegotiation_fails rfl none_
  · exact State.completeNegotiation_trains rfl (highestGrade_eq_some has best)

end

section
/-! SUPPORT. PLAIN_PULSE (R55, R95): the count, and the legacy partner. -/

namespace Sys2Proof.Machine

variable {s : State} {p : Port}

theorem exec_plainPulse_ignored (hears : s.hears p = true) (other : (s.lane p).state ≠ .advertise) :
    exec (.plainPulse p) s = .next s.settle := by
  rw [exec, execPlainPulse, State.tapEvent_taken _ hears]
  exact State.next_settle (if_neg other)

/-- A pulse that leaves the count below 3. -/
theorem exec_plainPulse_counts {n : Nat} (hears : s.hears p = true) (state : (s.lane p).state = .advertise)
    (count : pulseCountAfter (s.lane p).pulseCount (s.lane p).lastPulse s.ms = n) (few : n < 3) :
    exec (.plainPulse p) s = .next (s.setLane p { s.lane p with pulseCount := n, lastPulse := some s.ms }).settle := by
  rw [exec, execPlainPulse, State.tapEvent_taken _ hears]
  refine State.next_settle ((if_pos state).trans ?_)
  rw [count]
  exact if_neg (Nat.not_le.2 few)

/-- The pulse that brings the count to 3 finds a legacy partner. -/
theorem exec_plainPulse_detects (hears : s.hears p = true) (state : (s.lane p).state = .advertise)
    (count : pulseCountAfter (s.lane p).pulseCount (s.lane p).lastPulse s.ms = 3) :
    exec (.plainPulse p) s =
      .next ((s.setLane p { s.lane p with pulseCount := 0, lastPulse := none }).legacyDetected p).settle := by
  rw [exec, execPlainPulse, State.tapEvent_taken _ hears]
  refine State.next_settle ((if_pos state).trans ?_)
  rw [count]
  exact if_pos le_rfl

theorem pulseCountAfter_valid {last now : Ms} (n : Nat) (early : 8 ≤ timeBetween last now) (late : timeBetween last now ≤ 24) :
    pulseCountAfter n (some last) now = n + 1 := if_pos ⟨early, late⟩

theorem pulseCountAfter_invalid {last now : Ms} (n : Nat) (h : timeBetween last now < 8 ∨ 24 < timeBetween last now) :
    pulseCountAfter n (some last) now = 0 := if_neg (by omega)

end Sys2Proof.Machine
end

section
/-! The statement on plain pulses. -/

open Sys2Proof Sys2Proof.Machine

/-- Settles O49: the interval fixes the count after the pulse, and the count what the pulse does. -/
theorem plainPulse : Obligations.PlainPulse := by
  intro s p hears few l out counted
  refine ⟨exec_plainPulse_ignored hears, fun state first => ?_, fun last state later => ?_⟩
  · exact exec_plainPulse_counts hears state (by rw [first]; rfl) (Nat.lt_succ_of_le few)
  refine ⟨fun invalid => ?_, fun early late short => ?_, fun early late third => ⟨fun offered => ?_, fun offered => ?_⟩⟩
  · exact exec_plainPulse_counts hears state (by rw [later]; exact pulseCountAfter_invalid _ invalid) (by decide)
  · exact exec_plainPulse_counts hears state (by rw [later]; exact pulseCountAfter_valid _ early late) short
  all_goals
    refine (exec_plainPulse_detects hears state (by rw [later]; exact (pulseCountAfter_valid _ early late).trans third)).trans
      (State.next_settle ?_)
    unfold State.legacyDetected
    rw [State.lane_setLane_same]
  · rw [if_neg (by simp [l, offered])]
    refine State.setLane_failLane_of_rest ?_ _ _
    rfl
  · rw [if_pos offered, State.enterTrain, State.lane_setLane_same, State.setLane_setLane]
    rfl

end

section
/-! SUPPORT. The removal of an entry in the form the statements write it (R82, R116), training events (R57, R84). -/

namespace Sys2Proof.Machine

/-! ## The entry of a port -/

/-- The only entry of the queue for its port is the one found there. -/
theorem State.entryOf_mem {s : State} {p : Port} (nodup : (s.queue.map Entry.port).Nodup) {x : Entry} (here : x ∈ s.queue)
    (port : x.port = p) : s.entryOf p = some x := by
  cases found : s.entryOf p with
  | none => exact absurd port (State.entryOf_none.1 found x here)
  | some y =>
    obtain ⟨there, named⟩ := State.entryOf_some found
    rw [List.inj_on_of_nodup_map nodup there here (named.trans port.symm)]

/-! ## An entry that leaves the queue -/

/-- The removal of R116, and what the lane makes of it (R82). -/
theorem State.removeEntry_eq (s : State) (p : Port) (o : RemovalOutcome) :
    s.removeEntry p o = s.entryGone p (removalFlag o) := by
  let l : Lane := { s.lane p with hold := { (s.lane p).hold with sweep := false } }
  let t : State := { s.post p (removalFlag o) with queue := s.queue.filter fun x => decide (x.port ≠ p) }
  have put : s.removeEntry p o =
      if l.state = .sweepWait then (t.setLane p l).enterBackoff p else (t.setLane p l).leaveHeldIfFree p := by
    show (if ((t.setLane p l).lane p).state = .sweepWait then _ else _ : State) = _
    rw [State.lane_setLane_same]
    rfl
  rw [put, State.setLane_enterBackoff, State.setLane_leaveHeldIfFree]
  rfl

/-! ## LOCKED (R84) -/

section Locked

variable {s : State} {p : Port}

theorem State.preempt_removes {x : Entry} (entry : s.entryOf p = some x) (stands : x.state ≠ .running)
    (free : x.force = false) : s.preempt p = s.entryGone p .sweepEndedEarly := by
  rw [State.preempt, entry]
  exact (if_pos ⟨stands, free⟩).trans (State.removeEntry_eq s p .preempted)

theorem State.preempt_keeps (none_ : ¬∃ x ∈ s.queue, x.port = p ∧ x.state ≠ .running ∧ x.force = false) :
    s.preempt p = s := by
  unfold State.preempt
  cases entry : s.entryOf p with
  | none => rfl
  | some x =>
    obtain ⟨here, port⟩ := State.entryOf_some entry
    exact if_neg fun ⟨stands, free⟩ => none_ ⟨x, here, port, stands, free⟩

theorem exec_trainProgress_locked (hears : s.hears p = true) (trains : (s.lane p).state = .train) :
    exec (.trainProgress p .locked) s =
      .next (((s.modifyLane p (·.goUp s.ms)).post p .linkUp).preempt p).settle := by
  rw [exec, execTrainProgress, State.tapEvent_taken _ hears]
  exact State.next_settle (if_pos ⟨trains, rfl⟩)

theorem exec_trainProgress_ignored {stage : TrainStage} (hears : s.hears p = true)
    (other : (s.lane p).state ≠ .train ∨ stage ≠ .locked) : exec (.trainProgress p stage) s = .next s.settle := by
  rw [exec, execTrainProgress, State.tapEvent_taken _ hears]
  exact State.next_settle (if_neg (not_and_or.2 other))

/-! ## Faults in training (R57, R77) -/

theorem pairUsed_iff {g : Grade} {pair : Pair} :
    pairUsed g pair = true ↔ pair = .a ∨ pair = .b ∨ g = .g3 ∨ g = .g4 := by
  cases g <;> cases pair <;> decide

theorem exec_trainFault_ignored (hears : s.hears p = true) (other : (s.lane p).state ≠ .train) (kind : TrainFaultKind)
    (pair : Pair) : exec (.trainFault p kind pair) s = .next s.settle := by
  rw [exec, execTrainFault, State.tapEvent_taken _ hears]
  cases state : (s.lane p).state with
  | train => exact absurd state other
  | _ => rfl

theorem exec_trainFault (hears : s.hears p = true) (trains : (s.lane p).state = .train) {g : Grade}
    (grade : (s.lane p).training = some g) (kind : TrainFaultKind) (pair : Pair) : exec (.trainFault p kind pair) s =
      .next (if pairUsed g pair then s.fails p (faultReason kind).1 (faultReason kind).2 else s).settle := by
  rw [exec, execTrainFault, State.tapEvent_taken _ hears, ← State.failLane_eq]
  simp only [trains, grade]

end Locked
end Sys2Proof.Machine
end

section
/-! The statement on training events. -/

open Sys2Proof Sys2Proof.Machine

/-- Settles O50: LOCKED and a fault each count in TRAIN alone; the entry found at the port decides on the preemption, the pair's use
on the failure. -/
theorem trainingEvents : Obligations.TrainingEvents := by
  intro s p hears nodup l up preempts
  refine ⟨fun stage => exec_trainProgress_ignored hears, fun trains keeps => ?_, fun trains gone => ?_,
    fun kind pair other => exec_trainFault_ignored hears other kind pair, fun kind pair g trains grade => ?_⟩
  · exact (exec_trainProgress_locked hears trains).trans (State.next_settle (State.preempt_keeps keeps))
  · obtain ⟨x, here, port, stands, free⟩ := gone
    have entry : up.entryOf p = some x := State.entryOf_mem nodup here port
    exact (exec_trainProgress_locked hears trains).trans (State.next_settle (State.preempt_removes entry stands free))
  · have fault := exec_trainFault hears trains grade kind pair
    refine ⟨fun unused => ?_, fun used => ?_⟩
    · rwa [if_neg (mt pairUsed_iff.1 unused)] at fault
    · rw [if_pos (pairUsed_iff.2 used)] at fault
      refine ⟨fun missing => ?_, fun skew => ?_, fun polarity => ?_⟩
      · subst missing; exact fault
      · subst skew; exact fault
      · subst polarity; exact fault

end

section
/-! SUPPORT. The suspension of a sweep in the form the statements write it (R82, R126), and POWER (R59, R66). -/

namespace Sys2Proof.Machine

section Rest

variable {s : State} {p : Port} {l : Lane}

/-! ## Where a lane goes -/

theorem State.rests_state (st : LaneState) : ((s.rests p l st).lane p).state = st := by
  rw [State.rests, State.laneCommand_state, State.lane_setLane_same]

/-- An entry into ADVERTISE ends in ADVERTISE, HELD or PARKED (R62, R102). -/
theorem State.advertises_notWaiting : ((s.advertises p l).lane p).state ≠ .sweepWait := by
  unfold State.advertises
  simp only
  split
  · rw [State.lane_post, State.laneCommand_state, State.lane_setLane_same]
    nofun
  · split <;> rw [State.laneCommand_state, State.lane_setLane_same] <;> nofun

theorem State.leavesHeld_stays (awake : l.state ≠ .held) : s.leavesHeld p l = s.setLane p l := if_neg fun h => awake h.1

theorem State.setLane_leavesHeld (a : Lane) : (s.setLane p a).leavesHeld p l = s.leavesHeld p l := by
  unfold State.leavesHeld
  rw [State.setLane_advertises, State.setLane_setLane]
  rfl

/-- A lane that waits after it has lost a reason has only been written. -/
theorem State.leavesHeld_waiting (waits : ((s.leavesHeld p l).lane p).state = .sweepWait) :
    s.leavesHeld p l = s.setLane p l := by
  unfold State.leavesHeld at waits ⊢
  split at waits
  · exact absurd waits State.advertises_notWaiting
  next stays => exact if_neg stays

theorem State.dropReason_has {r : HoldReason} (has : (s.lane p).hold.has r = true) :
    s.dropReason p r = s.leavesHeld p { s.lane p with hold := (s.lane p).hold.put r false } := by
  rw [State.dropReason, if_pos has, State.putReason, State.modifyLane, State.setLane_leaveHeldIfFree]

theorem State.dropReason_absent {r : HoldReason} (absent : (s.lane p).hold.has r = false) : s.dropReason p r = s :=
  if_neg (by rw [absent]; nofun)

/-! ## The lane of a suspended entry (R82) -/

theorem State.setLane_sweepWaitTest (stands : s.entryStands p = true) (waits : l.state = .sweepWait) (energy : l.energy = true) :
    (s.setLane p l).sweepWaitTest p = s.advertises p (l.dueTransfer (s.record p).allowed) := by
  have leaves : ((s.setLane p l).lane p).state = .sweepWait ∧ ((s.setLane p l).lane p).energy = true := by
    rw [State.lane_setLane_same]
    exact ⟨waits, energy⟩
  rw [← State.setLane_enterAdvertise_due]
  exact if_pos ⟨leaves.1, leaves.2, stands⟩

theorem State.sweepWaitTest_ignores (other : ¬((s.lane p).state = .sweepWait ∧ (s.lane p).energy = true)) :
    s.sweepWaitTest p = s := if_neg fun h => other ⟨h.1, h.2.1⟩

/-- The lane with SWEEP taken from its hold set. -/
def Lane.unswept (l : Lane) : Lane := { l with hold := l.hold.put .sweep false }

theorem Lane.unswept_absent (absent : l.hold.sweep = false) : l.unswept = l := by
  obtain ⟨_, hold⟩ := l
  obtain ⟨sweep⟩ := hold
  cases absent
  rfl

/-- The lane of an entry that stands again: to ADVERTISE from SWEEP_WAIT with energy (R81), else by R64. -/
theorem State.laneEntrySuspended_eq (stands : s.entryStands p = true) : s.laneEntrySuspended p =
    if (s.lane p).state = .sweepWait ∧ (s.lane p).energy = true then
      s.advertises p ((s.lane p).unswept.dueTransfer (s.record p).allowed)
    else if (s.lane p).hold.sweep then s.leavesHeld p (s.lane p).unswept
    else s := by
  rw [State.laneEntrySuspended]
  by_cases waits : (s.lane p).state = .sweepWait ∧ (s.lane p).energy = true
  · have dropped : s.dropReason p .sweep = s.setLane p (s.lane p).unswept := by
      cases has : (s.lane p).hold.sweep with
      | true =>
        refine (State.dropReason_has (r := .sweep) has).trans (State.leavesHeld_stays fun held => ?_)
        exact nomatch waits.1.symm.trans held
      | false => rw [State.dropReason_absent (r := .sweep) has, Lane.unswept_absent has, State.setLane_lane]
    rw [if_pos waits, dropped]
    exact State.setLane_sweepWaitTest stands waits.1 waits.2
  · rw [if_neg waits]
    cases has : (s.lane p).hold.sweep with
    | true =>
      rw [State.dropReason_has (r := .sweep) has]
      refine State.sweepWaitTest_ignores fun ⟨state, energy⟩ => waits ?_
      have stays := State.leavesHeld_waiting state
      rw [stays, State.lane_setLane_same] at state energy
      exact ⟨state, energy⟩
    | false =>
      rw [State.dropReason_absent (r := .sweep) has]
      exact State.sweepWaitTest_ignores waits

end Rest

/-! ## The suspension (R126) -/

section Suspend

variable {s : State} {p : Port} {e : EngineId}

theorem State.postEndFrame_eq (s : State) (e : EngineId) (p : Port) :
    s.postEndFrame e p = (s.endAnnounced e p).modifyEngine e fun g => { g with announcement := .none } := by
  unfold State.postEndFrame State.endAnnounced
  cases (s.engine e).announcement <;> rfl

/-- The end frame, the release, and the engine IDLE. -/
theorem State.freeEngine_postEndFrame (s : State) (e : EngineId) (p : Port) :
    (s.postEndFrame e p).freeEngine e p = ((s.endAnnounced e p).releasePort e p).setEngine e .idle := by
  rw [State.postEndFrame_eq, State.freeEngine, State.modifyEngine, State.releasePort_setEngine, State.setEngine_setEngine]

theorem State.postCoord_kept (s : State) (f : Frame) (d : Option EngineId) : (s.postCoord f d).queue = s.queue ∧
    (s.postCoord f d).records = s.records ∧ (s.postCoord f d).lanes = s.lanes ∧ (s.postCoord f d).engines = s.engines := by
  unfold State.postCoord
  split
  · exact ⟨rfl, rfl, rfl, rfl⟩
  · split
    · exact ⟨rfl, rfl, rfl, rfl⟩
    · split <;> exact ⟨rfl, rfl, rfl, rfl⟩

theorem State.endAnnounced_kept (s : State) (e : EngineId) (p : Port) : (s.endAnnounced e p).queue = s.queue ∧
    (s.endAnnounced e p).records = s.records ∧ (s.endAnnounced e p).lanes = s.lanes ∧
    (s.endAnnounced e p).engines = s.engines := by
  unfold State.endAnnounced
  split
  · exact ⟨rfl, rfl, rfl, rfl⟩
  · exact State.postCoord_kept ..
  · exact State.postCoord_kept ..

/-- An entry in its place SUSPENDED (R126). -/
def Entry.suspended (x : Entry) : Entry := { x with state := .suspended, engine := none, cancelPending := false }

/-- The entry of port p SUSPENDED in its place and engine e IDLE, the lane not yet told (R126). -/
def State.unbinds (s : State) (e : EngineId) (p : Port) : State :=
  { ((s.endAnnounced e p).releasePort e p).setEngine e .idle with
    queue := s.queue.map fun x => if x.port = p then x.suspended else x }

theorem State.unbinds_stands {x : Entry} (entry : s.entryOf p = some x) : (s.unbinds e p).entryStands p = true := by
  have port (y : Entry) : (if y.port = p then y.suspended else y).port = y.port := by split <;> rfl
  have found : s.queue.find? (fun y => decide (y.port = p)) = some x := entry
  have suspended : (s.unbinds e p).entryOf p = some x.suspended := by
    rw [State.entryOf, State.unbinds, List.find?_map]
    simp only [Function.comp_def, port]
    rw [found, Option.map_some, if_pos (State.entryOf_some entry).2]
  rw [State.entryStands, suspended]
  rfl

theorem State.suspendSweep_unbinds (s : State) (e : EngineId) (p : Port) :
    s.suspendSweep e p = (s.unbinds e p).laneEntrySuspended p := by
  let freed := ((s.endAnnounced e p).releasePort e p).setEngine e .idle
  obtain ⟨announced, -⟩ := s.endAnnounced_kept e p
  have queue : freed.queue = s.queue := ((Touches.releasePort (p := p) e).trans (.setEngine e .idle)).queue.trans announced
  rw [State.suspendSweep, State.freeEngine_postEndFrame]
  show State.laneEntrySuspended { freed with queue := freed.queue.map _ } p = _
  rw [queue]
  rfl

theorem State.suspendSweep_eq {x : Entry} (entry : s.entryOf p = some x) : s.suspendSweep e p = s.suspended e p := by
  obtain ⟨-, announced, -⟩ := s.endAnnounced_kept e p
  have record : (s.unbinds e p).record p = s.record p := State.record_of_records
    (((Touches.releasePort (p := p) e).trans (.setEngine e .idle)).records.trans announced) p
  rw [State.suspendSweep_unbinds, State.laneEntrySuspended_eq (State.unbinds_stands entry), record]
  rfl

variable {b : Bool}

/-- No sweep on the port that the event would suspend. -/
theorem State.suspendOn_keeps (free : ∀ x ∈ s.queue, x.port = p → x.state = .running → (b && x.force) = false →
    ∀ e, x.engine = some e → ¬((s.engine e).state = .preparing ∨ (s.engine e).state = .shooting)) : s.suspendOn p b = s := by
  unfold State.suspendOn
  cases entry : s.entryOf p with
  | none => rfl
  | some x =>
    obtain ⟨here, port⟩ := State.entryOf_some entry
    cases engine : x.engine with
    | none => simp only [engine]
    | some e =>
      simp only [engine]
      exact if_neg fun ⟨running, busy, spared⟩ => free x here port running spared e engine busy

theorem State.suspendOn_suspends (nodup : (s.queue.map Entry.port).Nodup) {x : Entry} (here : x ∈ s.queue) (port : x.port = p)
    (running : x.state = .running) (engine : x.engine = some e)
    (busy : (s.engine e).state = .preparing ∨ (s.engine e).state = .shooting) (spared : (b && x.force) = false) :
    s.suspendOn p b = s.suspended e p := by
  have entry := State.entryOf_mem nodup here port
  unfold State.suspendOn
  rw [entry]
  simp only [engine]
  rw [if_pos ⟨running, busy, spared⟩, State.suspendSweep_eq entry]

end Suspend

/-! ## POWER (R59, R66) -/

section Power

variable {s : State} {p : Port} {l : Lane}

/-- HELD is quiet, so no engine loses its port to the lane. -/
theorem State.rests_held_engines : (s.rests p l .held).engines = s.engines := by
  let held : State := s.setLane p (l.rest .held)
  have quiet : (held.lane p).stateCommand = some .sendQuiet := by
    rw [State.lane_setLane_same]
    rfl
  have issued : s.rests p l .held = held.laneIssue p .sendQuiet := State.laneCommand_some quiet
  rw [issued]
  cases holder : (held.lane p).holder with
  | lane => rw [State.laneIssue_own holder]; rfl
  | engine e => rw [State.laneIssue_withheld holder (.inl rfl)]; rfl

/-- The lane l of port p adds POWER, by its state (R65, R66). -/
def State.takesPower (s : State) (p : Port) (l : Lane) : State :=
  let added : Lane := { l with hold := { l.hold with power := true } }
  match l.state with
  | .advertise | .backoff | .negotiate | .train => s.rests p added .held
  | .up => s.setLane p l
  | .starting | .disabled | .held | .sweepWait | .parked => s.setLane p added

theorem State.setLane_addReason_power (absent : l.hold.power = false) :
    (s.setLane p l).addReason p .power = s.takesPower p l := by
  unfold State.addReason State.takesPower State.enterHeld State.putReason
  rw [State.lane_setLane_same, State.setLane_modifyLane, State.setLane_restIn]
  simp only [HoldSet.has, absent, if_neg Bool.false_ne_true]
  cases l.state <;> rfl

theorem State.takesPower_kept (s : State) (p : Port) (l : Lane) :
    (s.takesPower p l).queue = s.queue ∧ (s.takesPower p l).engines = s.engines := by
  have rests (x : Lane) : (s.rests p x .held).queue = s.queue ∧ (s.rests p x .held).engines = s.engines :=
    ⟨((Touches.setLane _).trans .laneCommand).queue, State.rests_held_engines⟩
  unfold State.takesPower
  cases l.state with
  | advertise | backoff | negotiate | train => exact rests _
  | up | starting | disabled | held | sweepWait | parked => exact ⟨rfl, rfl⟩

theorem exec_powerDetectBegin_known (hears : s.hears p = true) (flag : (s.lane p).power = true) :
    exec (.powerDetectBegin p) s = .next s.settle := by
  rw [exec, execPowerDetectBegin, State.tapEvent_taken _ hears]
  exact State.next_settle (if_pos flag)

theorem exec_powerDetectBegin (hears : s.hears p = true) (flag : (s.lane p).power = false)
    (absent : (s.lane p).hold.power = false) : exec (.powerDetectBegin p) s =
      .next ((s.takesPower p { s.lane p with power := true }).suspendOn p false).settle := by
  rw [exec, execPowerDetectBegin, State.tapEvent_taken _ hears]
  refine State.next_settle ((if_neg (by rw [flag]; nofun)).trans ?_)
  exact congrArg (State.suspendOn · p false) (State.setLane_addReason_power absent)

theorem exec_powerDetectEnd_known (hears : s.hears p = true) (flag : (s.lane p).power = false) :
    exec (.powerDetectEnd p) s = .next s.settle := by
  rw [exec, execPowerDetectEnd, State.tapEvent_taken _ hears]
  exact State.next_settle (if_neg (by rw [flag]; nofun))

theorem exec_powerDetectEnd (hears : s.hears p = true) (flag : (s.lane p).power = true) : exec (.powerDetectEnd p) s =
    .next ((s.setLane p { s.lane p with power := false }).dropReason p .power).settle := by
  rw [exec, execPowerDetectEnd, State.tapEvent_taken _ hears]
  exact State.next_settle (if_pos flag)

end Power
end Sys2Proof.Machine
end

section
/-! The statement on POWER_DETECT. -/

open Sys2Proof Sys2Proof.Machine

/-- Settles O46: POWER reaches the lane by its state and leaves the queue and the engines as they are, so the sweep on the port
decides on the suspension. -/
theorem powerDetect : Obligations.PowerDetect := by
  intro s p hears l flagged added begins ends taken
  have same : s.takesPower p flagged = taken := rfl
  obtain ⟨queue, engines⟩ := same ▸ s.takesPower_kept p flagged
  have engine (e : EngineId) : taken.engine e = s.engine e := by rw [State.engine, State.engine, engines]
  have starts (flag : l.power = false) (absent : l.hold.power = false) :
      begins = .next (taken.suspendOn p false).settle := same ▸ exec_powerDetectBegin hears flag absent
  have lane (x : Lane) : (s.setLane p x).lane p = x := State.lane_setLane_same ..
  refine ⟨exec_powerDetectBegin_known hears, fun flag absent nodup => ⟨fun free => ?_, fun x here e port running bound busy => ?_⟩,
    exec_powerDetectEnd_known hears, fun flag absent => ?_, fun flag has => ?_⟩
  · refine (starts flag absent).trans (State.next_settle (State.suspendOn_keeps fun x here port running _ e bound busy => ?_))
    rw [engine] at busy
    obtain ⟨idle, quiet⟩ := free x (queue ▸ here) port running e bound
    exact busy.elim idle quiet
  · refine (starts flag absent).trans (State.next_settle ?_)
    exact State.suspendOn_suspends (queue ▸ nodup) (queue ▸ here) port running bound (by rwa [engine]) rfl
  · refine (exec_powerDetectEnd hears flag).trans (State.next_settle (State.dropReason_absent ?_))
    rw [lane]
    exact absent
  · refine (exec_powerDetectEnd hears flag).trans (State.next_settle ?_)
    rw [State.dropReason_has (by rw [lane]; exact has), lane, State.setLane_leavesHeld]
    rfl

end

section
/-! SUPPORT. ENERGY (R52, R53): a lane that drops out of its listen job (R171), and what its later commands keep. -/

namespace Sys2Proof.Machine

/-! ## The holdoff timers have no part in what a lane does -/

section Holdoff

variable (s : State) (p q : Port) (due : Option Ms)

theorem State.lane_setHoldoff : (s.setHoldoff q due).lane p = s.lane p := rfl

theorem State.laneIssue_setHoldoff (c : TapCommand) :
    (s.setHoldoff q due).laneIssue p c = (s.laneIssue p c).setHoldoff q due := by
  unfold State.laneIssue
  rw [State.lane_setHoldoff]
  cases (s.lane p).holder with
  | lane => rfl
  | engine e =>
    simp only [State.detachMember_eq, apply_ite (State.setHoldoff · q due)]
    rfl

theorem State.laneCommand_setHoldoff : (s.setHoldoff q due).laneCommand p = (s.laneCommand p).setHoldoff q due := by
  unfold State.laneCommand
  rw [State.lane_setHoldoff]
  cases (s.lane p).stateCommand with
  | none => rfl
  | some c => exact State.laneIssue_setHoldoff ..

theorem State.setLane_setHoldoff (l : Lane) : (s.setHoldoff q due).setLane p l = (s.setLane p l).setHoldoff q due := rfl

theorem State.advertises_setHoldoff (l : Lane) : (s.setHoldoff q due).advertises p l = (s.advertises p l).setHoldoff q due := by
  unfold State.advertises
  simp only [State.setLane_setHoldoff, State.laneCommand_setHoldoff, apply_ite (State.setHoldoff · q due)]
  rfl

theorem State.leavesHeld_setHoldoff (l : Lane) : (s.setHoldoff q due).leavesHeld p l = (s.leavesHeld p l).setHoldoff q due := by
  unfold State.leavesHeld
  simp only [State.setLane_setHoldoff, State.advertises_setHoldoff, apply_ite (State.setHoldoff · q due)]
  rfl

theorem State.releasePort_setHoldoff (e : EngineId) :
    (s.setHoldoff q due).releasePort e p = (s.releasePort e p).setHoldoff q due := by
  unfold State.releasePort
  simp only [apply_ite (State.setHoldoff · q due)]
  rfl

theorem State.dropsOut_setHoldoff (e : EngineId) (j : ListenJob) (m : Member) :
    (s.setHoldoff q due).dropsOut e j m p = (s.dropsOut e j m p).setHoldoff q due := by
  have engine (g : Engine) : (s.setHoldoff q due).setEngine e g = (s.setEngine e g).setHoldoff q due := rfl
  have same : (s.setHoldoff q due).engine e = s.engine e := rfl
  unfold State.dropsOut
  simp only [same, engine, State.releasePort_setHoldoff, State.lane_setHoldoff, State.leavesHeld_setHoldoff,
    apply_ite (State.setHoldoff · q due)]

end Holdoff

/-! ## The listen job of a port (R171) -/

section Job

variable {s : State} {p : Port} {e : EngineId} {j : ListenJob} {m : Member}

/-- No engine listens on the port. -/
def State.Unlistened (s : State) (p : Port) : Prop :=
  ∀ e j, (s.engine e).job = some j → ∀ m ∈ j.members, m.port ≠ p

theorem State.Unlistened.listenDrop (h : s.Unlistened p) : s.listenDrop p = s := by
  unfold State.listenDrop
  cases found : s.memberOf p with
  | none => rfl
  | some pair =>
    obtain ⟨j, job, member, port⟩ := State.memberOf_some found
    exact absurd port (h _ j job _ member)

theorem State.Unlistened.of_engines {t : State} (h : s.Unlistened p)
    (kept : ∀ e, t.engine e = s.engine e ∨ t.engine e = .idle ∨ t.engine e = (s.engine e).without p) : t.Unlistened p := by
  intro e j job m member
  rcases kept e with same | idle | dropped
  · exact h e j (same ▸ job) m member
  · rw [idle] at job
    cases job
  · rw [dropped, Engine.without] at job
    cases before : (s.engine e).job with
    | none =>
      rw [before] at job
      exact h e j job m member
    | some i =>
      simp only [before] at job
      split at job
      · cases job
      · cases job
        exact of_decide_eq_true (List.mem_filter.1 member).2

/-- The one member of the port is the one found there. -/
theorem State.memberOf_eq (job : (s.engine e).job = some j) (member : m ∈ j.members) (port : m.port = p)
    (nodup : (j.members.map Member.port).Nodup)
    (alone : ∀ d i, d ≠ e → (s.engine d).job = some i → ∀ n ∈ i.members, n.port ≠ p) : s.memberOf p = some (e, m) := by
  cases found : s.memberOf p with
  | none => exact absurd port (State.memberOf_none found job member)
  | some pair =>
    obtain ⟨i, other, there, named⟩ := State.memberOf_some found
    have same : pair.1 = e := by
      by_contra apart
      exact alone _ i apart other _ there named
    rw [same, job] at other
    cases other
    rw [← same, List.inj_on_of_nodup_map nodup member there (port.trans named.symm)]

theorem State.listenDrop_eq (found : s.memberOf p = some (e, m)) (job : (s.engine e).job = some j) :
    s.listenDrop p = s.dropsOut e j m p := by
  unfold State.listenDrop State.dropsOut
  rw [found]
  simp only [State.detachMember_eq, Engine.without_job job]
  cases given : m.given with
  | false => rfl
  | true =>
    simp only [if_true, true_and]
    exact if_congr Iff.rfl (State.setLane_leaveHeldIfFree ..) rfl

end Job

/-! ## A lane that holds its port, and its later commands -/

section Own

variable {s t : State} {p : Port} {l m : Lane} {e : EngineId}

/-- Lane m is lane l further on: the lane holds the port, with no capture open, and flag and hold set are l's. -/
structure Lane.Runs (l m : Lane) : Prop where
  holder : m.holder = .lane
  outstanding : m.outstanding = none
  energy : m.energy = l.energy
  hold : m.hold = l.hold

theorem Lane.Runs.trans {n : Lane} (a : l.Runs m) (b : m.Runs n) : l.Runs n :=
  ⟨b.holder, b.outstanding, b.energy.trans a.energy, b.hold.trans a.hold⟩

theorem Lane.dueTransfer_runs (own : l.holder = .lane) (closed : l.outstanding = none) (allowed : GradeSet) :
    l.Runs (l.dueTransfer allowed) := by
  unfold Lane.dueTransfer Lane.atTransferPoint Lane.transferred Lane.restored
  split
  · split <;> exact ⟨own, closed, rfl, rfl⟩
  · exact ⟨own, closed, rfl, rfl⟩

theorem Lane.release_runs (l : Lane) : l.Runs l.release := by
  unfold Lane.release
  simp only
  split <;> exact ⟨rfl, rfl, rfl, rfl⟩

/-- From s, with lane l written at port p, to t: nothing differs but that lane, further on, and notice flags. -/
structure RunsOn (p : Port) (s : State) (l : Lane) (t : State) : Prop where
  touches : Touches p s t
  engines : t.engines = s.engines
  lane : l.Runs (t.lane p)

theorem State.setLane_runsOn (own : l.holder = .lane) (closed : l.outstanding = none) : RunsOn p s l (s.setLane p l) :=
  ⟨.setLane l, rfl, by rw [State.lane_setLane_same]; exact ⟨own, closed, rfl, rfl⟩⟩

theorem State.setLane_laneCommand_runsOn (own : m.holder = .lane) (closed : m.outstanding = none) :
    RunsOn p s m ((s.setLane p m).laneCommand p) := by
  have lane : (s.setLane p m).lane p = m := State.lane_setLane_same ..
  cases command : ((s.setLane p m).lane p).stateCommand with
  | none =>
    rw [State.laneCommand_none command]
    exact State.setLane_runsOn own closed
  | some c =>
    rw [State.laneCommand_some command, State.laneIssue_own (by rw [lane]; exact own), State.setLane_setLane, lane]
    refine ⟨.setLane _, rfl, ?_⟩
    rw [State.lane_setLane_same]
    exact ⟨own, rfl, rfl, rfl⟩

theorem RunsOn.of_runs (h : RunsOn p s m t) (runs : l.Runs m) : RunsOn p s l t := ⟨h.touches, h.engines, runs.trans h.lane⟩

theorem RunsOn.trans {u : State} (a : RunsOn p s l t) (b : RunsOn p t (t.lane p) u) : RunsOn p s l u :=
  ⟨a.touches.trans b.touches, b.engines.trans a.engines, a.lane.trans b.lane⟩

theorem RunsOn.post (h : RunsOn p s l t) (f : ChangeFlag) : RunsOn p s l (t.post p f) :=
  ⟨h.touches.trans (.post f), h.engines, h.lane⟩

theorem State.advertises_runsOn (own : l.holder = .lane) (closed : l.outstanding = none) : RunsOn p s l (s.advertises p l) := by
  have written (x : Lane) (runs : l.Runs x) : RunsOn p s l ((s.setLane p x).laneCommand p) :=
    (State.setLane_laneCommand_runsOn runs.holder runs.outstanding).of_runs runs
  unfold State.advertises
  simp only
  split
  · refine (written _ ?_).post _
    exact ⟨own, closed, rfl, rfl⟩
  · split <;> exact written _ ⟨own, closed, rfl, rfl⟩

theorem State.leavesHeld_runsOn (own : l.holder = .lane) (closed : l.outstanding = none) : RunsOn p s l (s.leavesHeld p l) := by
  unfold State.leavesHeld
  split
  · have due := Lane.dueTransfer_runs own closed (s.record p).allowed
    exact (State.advertises_runsOn due.holder due.outstanding).of_runs due
  · exact State.setLane_runsOn own closed

theorem RunsOn.sweepWaitTest (h : RunsOn p s l t) : RunsOn p s l (t.sweepWaitTest p) := by
  have due := Lane.dueTransfer_runs h.lane.holder h.lane.outstanding (t.record p).allowed
  unfold State.sweepWaitTest
  split
  · rw [State.enterAdvertise_due]
    exact h.trans ((State.advertises_runsOn due.holder due.outstanding).of_runs due)
  · exact h

theorem Touches.onlyPort (h : Touches p s t) : onlyPort p s t := by
  refine ⟨?_, fun q other => ⟨h.lane q other, h.flags q other⟩⟩
  obtain ⟨_, _, _, same⟩ := h.rest
  rw [same]

end Own

/-! ## The entry that stands (R81) -/

theorem State.entryStands_iff {s : State} {p : Port} (nodup : (s.queue.map Entry.port).Nodup) :
    s.entryStands p = true ↔ ∃ x ∈ s.queue, x.port = p ∧ x.state ≠ .running := by
  unfold State.entryStands
  cases entry : s.entryOf p with
  | none => exact ⟨nofun, fun ⟨x, here, port, _⟩ => absurd port (State.entryOf_none.1 entry x here)⟩
  | some x =>
    obtain ⟨here, port⟩ := State.entryOf_some entry
    refine ⟨fun stands => ⟨x, here, port, of_decide_eq_true stands⟩, fun ⟨y, there, named, stands⟩ => decide_eq_true ?_⟩
    rwa [List.inj_on_of_nodup_map nodup here there (port.trans named.symm)]

/-! ## A member that drops out (R171) -/

section DropOut

variable {s : State} {p : Port} {e : EngineId} {j : ListenJob} {m : Member}

/-- The lane with LISTEN taken from its hold set. -/
def Lane.unlistened (l : Lane) : Lane := { l with hold := l.hold.put .listen false }

theorem Lane.release_transferOwed (l : Lane) : l.release.transferOwed = l.transferOwed := by
  unfold Lane.release
  simp only
  split <;> rfl

/-- The member's lane as its engine leaves it. -/
def State.dropped (s : State) (p : Port) (m : Member) : Lane :=
  let l := (s.lane p).release
  if m.given = true ∧ l.hold.listen = true then l.unlistened else l

theorem State.dropped_state (s : State) (p : Port) (m : Member) : (s.dropped p m).state = (s.lane p).state := by
  unfold State.dropped
  simp only
  split <;> exact (s.lane p).release_state

theorem State.dropped_transferOwed (s : State) (p : Port) (m : Member) :
    (s.dropped p m).transferOwed = (s.lane p).transferOwed := by
  unfold State.dropped
  simp only
  split <;> exact (s.lane p).release_transferOwed

theorem State.dropped_energy (s : State) (p : Port) (m : Member) : (s.dropped p m).energy = (s.lane p).energy := by
  unfold State.dropped
  simp only
  split <;> exact (s.lane p).release_runs.energy

theorem State.dropped_listen (given : m.given = true) : (s.dropped p m).hold.listen = false := by
  unfold State.dropped
  simp only
  split
  · rfl
  next quiet => exact Bool.eq_false_of_not_eq_true fun listen => quiet ⟨given, listen⟩

/-- The drop of a member whose engine holds the port: the lane leaves HELD where LISTEN leaves it, else it is written. -/
theorem State.dropsOut_cases (held : (s.lane p).holder = .engine e) (job : (s.engine e).job = some j) :
    let t := s.setEngine e ((s.engine e).without p)
    s.dropsOut e j m p = t.leavesHeld p (s.dropped p m) ∨ s.dropsOut e j m p = t.setLane p (s.dropped p m) := by
  intro t
  have released : t.releasePort e p = t.setLane p (s.lane p).release := if_pos held
  unfold State.dropsOut State.dropped
  simp only [← Engine.without_job job]
  rw [released, State.lane_setLane_same]
  split
  · exact .inl (State.setLane_leavesHeld _)
  · exact .inr rfl

theorem State.dropsOut_runsOn (held : (s.lane p).holder = .engine e) (job : (s.engine e).job = some j) :
    RunsOn p (s.setEngine e ((s.engine e).without p)) (s.dropped p m) (s.dropsOut e j m p) := by
  have own : (s.dropped p m).holder = .lane ∧ (s.dropped p m).outstanding = none := by
    have released := (s.lane p).release_runs
    unfold State.dropped
    simp only
    split <;> exact ⟨released.holder, released.outstanding⟩
  rcases State.dropsOut_cases (m := m) held job with leaves | written
  · rw [leaves]
    exact State.leavesHeld_runsOn own.1 own.2
  · rw [written]
    exact State.setLane_runsOn own.1 own.2

/-- A lane that waits for its sweep, before or after the drop, has only been written. -/
theorem State.dropsOut_waiting (held : (s.lane p).holder = .engine e) (job : (s.engine e).job = some j)
    (waits : (s.lane p).state = .sweepWait ∨ ((s.dropsOut e j m p).lane p).state = .sweepWait) :
    (s.dropsOut e j m p).lane p = s.dropped p m := by
  rcases State.dropsOut_cases (m := m) held job with leaves | written
  · rw [leaves] at waits ⊢
    let t := s.setEngine e ((s.engine e).without p)
    have stays : t.leavesHeld p (s.dropped p m) = t.setLane p (s.dropped p m) := by
      rcases waits with before | after
      · exact State.leavesHeld_stays (by rw [State.dropped_state, before]; nofun)
      · exact State.leavesHeld_waiting after
    rw [stays, State.lane_setLane_same]
  · rw [written, State.lane_setLane_same]

theorem State.dropsOut_touches (held : (s.lane p).holder = .engine e) (job : (s.engine e).job = some j) :
    Touches p s (s.dropsOut e j m p) := (Touches.setEngine e _).trans (State.dropsOut_runsOn held job).touches

/-- What SWEEP_WAIT asks of the entry is as it was before the drop. -/
theorem State.dropsOut_stands (held : (s.lane p).holder = .engine e) (job : (s.engine e).job = some j) :
    (s.dropsOut e j m p).entryStands p = s.entryStands p := by
  unfold State.entryStands
  rw [(State.dropsOut_touches held job).entryOf]

theorem State.dropsOut_sweepWaitTest_ignores (held : (s.lane p).holder = .engine e) (job : (s.engine e).job = some j)
    (other : ¬((s.lane p).state = .sweepWait ∧ s.entryStands p = true)) :
    (s.dropsOut e j m p).sweepWaitTest p = s.dropsOut e j m p := by
  refine if_neg fun ⟨waits, _, stands⟩ => other ⟨?_, (State.dropsOut_stands held job).symm.trans stands⟩
  rwa [State.dropsOut_waiting held job (.inr waits), State.dropped_state] at waits

theorem State.dropsOut_sweepWaitTest_advertises (held : (s.lane p).holder = .engine e) (job : (s.engine e).job = some j)
    (waits : (s.lane p).state = .sweepWait) (energy : (s.lane p).energy = true) (stands : s.entryStands p = true) :
    let left := s.dropsOut e j m p
    left.sweepWaitTest p = left.advertises p
      (if (s.lane p).transferOwed then (left.lane p).atTransferPoint (s.record p).allowed else left.lane p) := by
  intro left
  have still : left.lane p = s.dropped p m := State.dropsOut_waiting held job (.inl waits)
  have owed : (left.lane p).transferOwed = (s.lane p).transferOwed := by rw [still, State.dropped_transferOwed]
  have record : left.record p = s.record p := (State.dropsOut_touches held job).record p
  have test := State.setLane_sweepWaitTest (s := left) (p := p) (l := left.lane p)
    ((State.dropsOut_stands held job).trans stands) (by rw [still, State.dropped_state]; exact waits)
    (by rw [still, State.dropped_energy]; exact energy)
  rwa [State.setLane_lane, record, Lane.dueTransfer, owed] at test

end DropOut

/-! ## A sweep suspended with energy present -/

section Swept

variable {s : State} {p : Port} {e : EngineId}

theorem State.laneEntrySuspended_awake (stands : s.entryStands p = true) (energy : (s.lane p).energy = true) :
    ((s.laneEntrySuspended p).lane p).state ≠ .sweepWait := by
  rw [State.laneEntrySuspended_eq stands]
  split
  · exact State.advertises_notWaiting
  next other =>
    have awake : (s.lane p).state ≠ .sweepWait := fun waits => other ⟨waits, energy⟩
    split
    · intro waits
      have stays := State.leavesHeld_waiting waits
      rw [stays, State.lane_setLane_same] at waits
      exact awake waits
    · exact awake

theorem State.unbinds_energy (s : State) (e : EngineId) (p : Port) :
    ((s.unbinds e p).lane p).energy = (s.lane p).energy := by
  obtain ⟨-, -, lanes, -⟩ := s.endAnnounced_kept e p
  have announced : (s.endAnnounced e p).lane p = s.lane p := by rw [State.lane, State.lane, lanes]
  have lane : (s.unbinds e p).lane p = ((s.endAnnounced e p).releasePort e p).lane p := by
    unfold State.unbinds State.setEngine State.lane
    rfl
  rw [lane, State.lane_releasePort_same, announced]
  split
  · exact (s.lane p).release_runs.energy
  · rfl

theorem State.unbinds_engine (s : State) (d e : EngineId) (p : Port) :
    (s.unbinds e p).engine d = s.engine d ∨ (s.unbinds e p).engine d = .idle := by
  obtain ⟨-, -, -, engines⟩ := s.endAnnounced_kept e p
  by_cases same : d = e
  · subst same
    exact .inr (State.engine_setEngine_same ..)
  · left
    show (State.setEngine _ e _).engine d = _
    rw [State.engine_setEngine_ne _ _ _ _ same, State.releasePort_engine, State.engine, State.engine, engines]

theorem State.Unlistened.suspended {x : Entry} (h : s.Unlistened p) (entry : s.entryOf p = some x) :
    (s.suspended e p).Unlistened p := by
  have unbound : (s.unbinds e p).Unlistened p := h.of_engines fun d => (s.unbinds_engine d e p).imp_right .inl
  rw [← State.suspendSweep_eq entry, State.suspendSweep_unbinds]
  refine unbound.of_engines fun d => ?_
  rcases (LaneOp.laneEntrySuspended (g := True)).engine d with same | ⟨-, -, dropped⟩
  · exact .inl same
  · exact .inr (.inr dropped)

theorem State.suspended_awake {x : Entry} (entry : s.entryOf p = some x) (energy : (s.lane p).energy = true) :
    ((s.suspended e p).lane p).state ≠ .sweepWait := by
  rw [← State.suspendSweep_eq entry, State.suspendSweep_unbinds]
  exact State.laneEntrySuspended_awake (State.unbinds_stands entry) ((s.unbinds_energy e p).trans energy)

end Swept

/-! ## The commands (R52, R53) -/

section Energy

variable {s : State} {p : Port}

theorem exec_energyOn_known (hears : s.hears p = true) (flag : (s.lane p).energy = true) :
    exec (.energyOn p) s = .next s.settle := by
  rw [exec, execEnergyOn, State.tapEvent_taken _ hears]
  exact State.next_settle (if_pos flag)

theorem exec_energyOn (hears : s.hears p = true) (flag : (s.lane p).energy = false) :
    let lit := s.setLane p { s.lane p with energy := true }
    exec (.energyOn p) s = .next ((((lit.suspendOn p true).listenDrop p).setHoldoff p none).sweepWaitTest p).settle := by
  rw [exec, execEnergyOn, State.tapEvent_taken _ hears]
  exact State.next_settle (if_neg (by rw [flag]; nofun))

theorem exec_energyOff_known (hears : s.hears p = true) (flag : (s.lane p).energy = false) :
    exec (.energyOff p) s = .next s.settle := by
  rw [exec, execEnergyOff, State.tapEvent_taken _ hears]
  exact State.next_settle (if_neg (by rw [flag]; nofun))

theorem exec_energyOff (hears : s.hears p = true) (flag : (s.lane p).energy = true) :
    exec (.energyOff p) s = .next (s.energyFalls p).settle := by
  rw [exec, execEnergyOff, State.tapEvent_taken _ hears]
  exact State.next_settle (if_pos flag)

/-- The lane with the energy flag off. -/
def State.darkLane (s : State) (p : Port) : Lane := { s.lane p with energy := false }

theorem State.energyFalls_negotiate (state : (s.lane p).state = .negotiate) :
    s.energyFalls p = s.advertises p ((s.darkLane p).dueTransfer (s.record p).allowed) := by
  have still : ((s.setLane p (s.darkLane p)).lane p).state = .negotiate := by rwa [State.lane_setLane_same]
  rw [← State.setLane_enterAdvertise_due]
  exact if_pos still

theorem State.energyFalls_train (state : (s.lane p).state = .train) :
    s.energyFalls p = (s.setLane p (s.darkLane p)).fails p .partnerLost false := by
  have still : ((s.setLane p (s.darkLane p)).lane p).state = .train := by rwa [State.lane_setLane_same]
  have apart : ((s.setLane p (s.darkLane p)).lane p).state ≠ .negotiate := by rw [still]; nofun
  rw [← State.failLane_eq]
  exact (if_neg apart).trans (if_pos still)

theorem State.energyFalls_other (apart : (s.lane p).state ≠ .negotiate) (idle : (s.lane p).state ≠ .train) :
    s.energyFalls p = s.setLane p (s.darkLane p) := by
  have still : ((s.setLane p (s.darkLane p)).lane p).state = (s.lane p).state := by rw [State.lane_setLane_same]; rfl
  exact (if_neg fun same => apart (still.symm.trans same)).trans (if_neg fun same => idle (still.symm.trans same))

end Energy

end Sys2Proof.Machine
end

section
/-! The statement on ENERGY. -/

open Sys2Proof Sys2Proof.Machine

/-- Settles O47: the sweep on the port and its listen job are each there or not, and what is left of the lane decides on the
return from SWEEP_WAIT. -/
theorem energyEvents : Obligations.EnergyEvents := by
  intro s p hears l lit dark on off due swept listened
  let h := s.setHoldoff p none
  have starts (flag : l.energy = false) :
      on = .next (((((s.setLane p lit).suspendOn p true).listenDrop p).setHoldoff p none).sweepWaitTest p).settle :=
    exec_energyOn hears flag
  have lane (t : State) (x : Lane) : (t.setLane p x).lane p = x := State.lane_setLane_same ..
  have stands (nodup : (s.queue.map Entry.port).Nodup) := State.entryStands_iff (s := s) (p := p) nodup
  have spared (free : ¬swept) : (s.setLane p lit).suspendOn p true = s.setLane p lit :=
    State.suspendOn_keeps fun x here port running unforced e bound busy =>
      free ⟨x, here, port, running, unforced, e, bound, busy⟩
  refine ⟨exec_energyOn_known hears, exec_energyOff_known hears, fun flag nodup silent => ?_,
    fun e j m flag free held job member port members alone nodup => ?_, fun flag state => ?_, fun flag state => ?_,
    fun flag apart idle => ?_⟩
  · have silence : (s.setLane p lit).Unlistened p := fun e j job m member port => silent ⟨e, j, job, m, member, port⟩
    have quiet (free : ¬swept) : on = .next ((h.setLane p lit).sweepWaitTest p).settle := by
      rw [starts flag, spared free, silence.listenDrop]
      rfl
    refine ⟨fun free ⟨waits, entry⟩ => (quiet free).trans (State.next_settle ?_),
      fun free other => (quiet free).trans (State.next_settle ?_),
      fun x here e port running unforced bound busy => (starts flag).trans (State.next_settle ?_)⟩
    · exact State.setLane_sweepWaitTest (s := h) ((stands nodup).2 entry) waits rfl
    · refine if_neg fun ⟨waits, _, standing⟩ => other ⟨?_, (stands nodup).1 standing⟩
      rwa [lane] at waits
    · have entry : (s.setLane p lit).entryOf p = some x := State.entryOf_mem nodup here port
      have suspends : (s.setLane p lit).suspendOn p true = (s.setLane p lit).suspended e p :=
        State.suspendOn_suspends nodup here port running bound busy unforced
      rw [suspends, (silence.suspended entry).listenDrop]
      have awake := State.suspended_awake (e := e) entry (by rw [lane])
      refine State.sweepWaitTest_ignores fun ⟨waits, _⟩ => awake ?_
      rwa [State.lane_setHoldoff] at waits
  · intro left
    have holds : ((h.setLane p lit).lane p).holder = .engine e := by rwa [lane]
    have found : (s.setLane p lit).memberOf p = some (e, m) := State.memberOf_eq job member port members alone
    have drops : on = .next (left.sweepWaitTest p).settle := by
      rw [starts flag, spared free, State.listenDrop_eq found job, ← State.dropsOut_setHoldoff]
      rfl
    have runs := (State.dropsOut_runsOn (m := m) holds job).sweepWaitTest
    have written : Touches p h ((h.setLane p lit).setEngine e ((s.engine e).without p)) :=
      (Touches.setLane lit).trans (.setEngine e _)
    refine ⟨left.sweepWaitTest p, drops, (written.trans runs.touches).onlyPort, ?_, runs.lane.holder, runs.lane.outstanding,
      fun given => ?_, fun d other => ?_, ?_, fun other => ?_, fun ⟨waits, entry⟩ => ?_⟩
    · rw [runs.lane.energy, State.dropped_energy, lane]
    · rw [runs.lane.hold, State.dropped_listen given]
    · rw [State.engine, runs.engines]
      exact State.engine_setEngine_ne _ _ _ _ other
    · rw [State.engine, runs.engines, ← Engine.without_job job]
      exact State.engine_setEngine_same ..
    · refine State.dropsOut_sweepWaitTest_ignores holds job fun ⟨waits, standing⟩ => other ⟨?_, (stands nodup).1 standing⟩
      rwa [lane] at waits
    · have test := State.dropsOut_sweepWaitTest_advertises (m := m) holds job (by rw [lane]; exact waits) (by rw [lane])
        ((stands nodup).2 entry)
      rw [lane] at test
      exact test
  · exact (exec_energyOff hears flag).trans (State.next_settle (State.energyFalls_negotiate state))
  · exact (exec_energyOff hears flag).trans (State.next_settle (State.energyFalls_train state))
  · exact (exec_energyOff hears flag).trans (State.next_settle (State.energyFalls_other apart idle))

end

section
/-! SUPPORT. The quiet-hold list (R67, R68): where an ask is placed, and what the list keeps. -/

namespace Sys2Proof.Machine

theorem QuietRecord.hasKey_iff {q : QuietRecord} {st : Station} {port : Port} :
    q.hasKey st port = true ↔ q.asker = st ∧ q.askerPort = port := by
  simp [QuietRecord.hasKey]

/-- The key of a quiet-hold record (R67). -/
def QuietRecord.key (q : QuietRecord) : Station × Port := (q.asker, q.askerPort)

theorem QuietRecord.hasKey_iff_key {q ask : QuietRecord} : q.hasKey ask.asker ask.askerPort = true ↔ q.key = ask.key := by
  rw [QuietRecord.hasKey_iff, QuietRecord.key, QuietRecord.key, Prod.mk.injEq]

theorem earliestQuiet_mem (now : Ms) (q : QuietRecord) (rest : List QuietRecord) :
    earliestQuiet now q rest ∈ q :: rest := by
  induction rest generalizing q with
  | nil => exact List.mem_singleton_self q
  | cons x rest ih =>
    have found := ih (if x.before now q then x else q)
    rw [earliestQuiet]
    rcases List.mem_cons.1 found with first | later
    · rw [first]
      split
      · exact .tail _ (.head _)
      · exact .head _
    · exact .tail _ (.tail _ later)

section Place

variable {now : Ms} {list : List QuietRecord} {ask : QuietRecord}

theorem placeQuiet_known (known : ∃ x ∈ list, x.key = ask.key) :
    placeQuiet now list ask = list.map fun q => if q.key = ask.key then ask else q := by
  have any : list.any (·.hasKey ask.asker ask.askerPort) = true := by
    obtain ⟨x, here, key⟩ := known
    exact List.any_eq_true.2 ⟨x, here, QuietRecord.hasKey_iff_key.2 key⟩
  unfold placeQuiet
  rw [if_pos any]
  simp only [QuietRecord.hasKey_iff_key]

theorem not_any_hasKey (fresh : ∀ x ∈ list, x.key ≠ ask.key) : ¬list.any (·.hasKey ask.asker ask.askerPort) = true := by
  intro any
  obtain ⟨x, here, key⟩ := List.any_eq_true.1 any
  exact fresh x here (QuietRecord.hasKey_iff_key.1 key)

theorem placeQuiet_room (fresh : ∀ x ∈ list, x.key ≠ ask.key) (room : list.length < 4) :
    placeQuiet now list ask = list ++ [ask] := by
  unfold placeQuiet
  rw [if_neg (not_any_hasKey fresh)]
  exact if_pos room

theorem placeQuiet_full {q : QuietRecord} {rest : List QuietRecord} (fresh : ∀ x ∈ q :: rest, x.key ≠ ask.key)
    (full : 4 ≤ (q :: rest).length) :
    let first := earliestQuiet now q rest
    placeQuiet now (q :: rest) ask =
      if first.left now < ask.left now then ((q :: rest).filter fun x => decide (x ≠ first)) ++ [ask] else q :: rest := by
  have full : ¬(q :: rest).length < Config.quietCapacity := not_lt.2 full
  rw [placeQuiet, if_neg (not_any_hasKey fresh), if_neg full]

/-- A list without the key keeps its keys apart when the ask joins what is left of it. -/
theorem nodup_keys_append {kept : List QuietRecord} (sub : kept.Sublist list) (nodup : (list.map QuietRecord.key).Nodup)
    (fresh : ∀ x ∈ list, x.key ≠ ask.key) : ((kept ++ [ask]).map QuietRecord.key).Nodup := by
  rw [List.map_append, List.nodup_append]
  refine ⟨nodup.sublist (sub.map _), List.nodup_singleton _, fun a old b new => ?_⟩
  obtain ⟨x, here, rfl⟩ := List.mem_map.1 old
  rw [List.mem_singleton.1 new]
  exact fresh x (sub.subset here)

/-- What an ask leaves of a list with at most 4 records, one for a key (R67). -/
theorem placeQuiet_sound (length : list.length ≤ 4) (nodup : (list.map QuietRecord.key).Nodup) :
    (placeQuiet now list ask).length ≤ 4 ∧ ((placeQuiet now list ask).map QuietRecord.key).Nodup ∧
      placeQuiet now list ask ≠ [] := by
  by_cases known : ∃ x ∈ list, x.key = ask.key
  · rw [placeQuiet_known known]
    refine ⟨by rwa [List.length_map], ?_, fun empty => ?_⟩
    · have keys : (list.map fun q => if q.key = ask.key then ask else q).map QuietRecord.key = list.map QuietRecord.key := by
        rw [List.map_map]
        refine List.map_congr_left fun q _ => ?_
        simp only [Function.comp]
        split
        next same => exact same.symm
        next => rfl
      rwa [keys]
    · obtain ⟨x, here, -⟩ := known
      rw [List.map_eq_nil_iff.1 empty] at here
      exact nomatch here
  · have fresh : ∀ x ∈ list, x.key ≠ ask.key := fun x here key => known ⟨x, here, key⟩
    by_cases room : list.length < 4
    · rw [placeQuiet_room fresh room]
      exact ⟨by rw [List.length_append]; exact room, nodup_keys_append (.refl _) nodup fresh,
        List.append_ne_nil_of_right_ne_nil _ nofun⟩
    · cases list with
      | nil => exact absurd (Nat.zero_lt_succ 3) room
      | cons q rest =>
        rw [placeQuiet_full fresh (not_lt.1 room)]
        split
        · refine ⟨?_, nodup_keys_append List.filter_sublist nodup fresh, List.append_ne_nil_of_right_ne_nil _ nofun⟩
          have fewer : ((q :: rest).filter fun x => decide (x ≠ earliestQuiet now q rest)).length < (q :: rest).length :=
            List.length_filter_lt_length_iff_exists.2 ⟨_, earliestQuiet_mem now q rest, by simp⟩
          rw [List.length_append, List.length_singleton]
          omega
        · exact ⟨length, nodup, nofun⟩

end Place

end Sys2Proof.Machine
end

section
/-! SUPPORT. The hold set and the quiet-hold list agree with the lane state (R64, R67, R68): the lane operations that keep it so.
An operation may open the agreement at its own port until the lane has come to rest in its next state. -/

namespace Sys2Proof.Machine

/-! ## A lane in agreement -/

/-- QUIET is held exactly while the list has a record, at most 4 records, one for a key (R67, R68). -/
structure Lane.QuietSound (l : Lane) : Prop where
  listed : l.hold.quiet = !l.quiet.isEmpty
  length : l.quiet.length ≤ 4
  keys : (l.quiet.map QuietRecord.key).Nodup

/-- A state and a hold set that may stand together (R64). -/
structure HoldFits (st : LaneState) (hold : HoldSet) : Prop where
  free : st = .advertise ∨ st = .backoff → hold = .empty
  held : st = .held → hold ≠ .empty

/-- The lane with a reason put into or taken from its hold set. -/
def Lane.put (l : Lane) (r : HoldReason) (b : Bool) : Lane := { l with hold := l.hold.put r b }

/-- `Lane.holdSound` clause by clause. -/
structure Lane.HoldSound (l : Lane) : Prop extends l.QuietSound where
  fits : HoldFits l.state l.hold

theorem Lane.holdSound_iff {l : Lane} : l.holdSound = true ↔ l.HoldSound := by
  simp only [Lane.holdSound, Bool.and_eq_true, Bool.or_eq_true, Bool.not_eq_true', Bool.or_eq_false_iff, decide_eq_true_eq,
    decide_eq_false_iff_not, ← not_or, ← imp_iff_not_or]
  constructor
  · rintro ⟨⟨⟨⟨free, held⟩, listed⟩, length⟩, keys⟩
    exact ⟨⟨listed, length, keys⟩, free, held⟩
  · rintro ⟨⟨listed, length, keys⟩, free, held⟩
    exact ⟨⟨⟨⟨free, held⟩, listed⟩, length⟩, keys⟩

/-- A state that neither sends, waits in BACKOFF nor is HELD goes with every hold set. -/
theorem HoldFits.of_other {st : LaneState} {hold : HoldSet} (other : ¬((st = .advertise ∨ st = .backoff) ∨ st = .held)) :
    HoldFits st hold := ⟨fun free => absurd (.inl free) other, fun held => absurd (.inr held) other⟩

theorem HoldFits.of_empty {st : LaneState} {hold : HoldSet} (empty : hold = .empty) (awake : st ≠ .held) :
    HoldFits st hold := ⟨fun _ => empty, fun held => absurd held awake⟩

theorem HoldFits.of_held {hold : HoldSet} (some_ : hold ≠ .empty) : HoldFits .held hold :=
  ⟨by simp, fun _ => some_⟩

/-- A reason that leaves: an empty hold set stays empty. -/
theorem HoldSet.put_false_empty (r : HoldReason) : HoldSet.empty.put r false = .empty := by cases r <;> rfl

theorem HoldSet.put_true_ne_empty (h : HoldSet) (r : HoldReason) : h.put r true ≠ .empty := fun empty => by
  have has : (h.put r true).has r = true := h.has_put_same r true
  rw [empty] at has
  cases r <;> exact nomatch has

/-- A reason leaves a lane that is not HELD. -/
theorem HoldFits.put_false {st : LaneState} {hold : HoldSet} (h : HoldFits st hold) (r : HoldReason) (awake : st ≠ .held) :
    HoldFits st (hold.put r false) :=
  ⟨fun free => by rw [h.free free, HoldSet.put_false_empty], fun held => absurd held awake⟩

namespace Lane.QuietSound

variable {l m : Lane} (h : l.QuietSound)
include h

theorem of_eq (listed : m.hold.quiet = l.hold.quiet) (quiet : m.quiet = l.quiet) : m.QuietSound :=
  ⟨by rw [listed, quiet]; exact h.listed, by rw [quiet]; exact h.length, by rw [quiet]; exact h.keys⟩

theorem put {r : HoldReason} (other : r ≠ .quiet) (b : Bool) : (l.put r b).QuietSound := by
  cases r with
  | quiet => exact absurd rfl other
  | sweep | listen | power => exact h.of_eq rfl rfl

theorem transferAt (allowed : GradeSet) (b : Bool) : (l.transferAt allowed b).QuietSound := by
  unfold Lane.transferAt Lane.transfer
  split
  · simp only
    split <;> exact h.of_eq rfl rfl
  · exact h

theorem ladder (allowed : GradeSet) : (l.ladder allowed).1.QuietSound := by
  rcases l.ladder_cases allowed with ⟨-, rules⟩ | ⟨_, -, rules⟩ | rules <;> rw [rules] <;> exact h.of_eq rfl rfl

theorem rest {st : LaneState} (fits : HoldFits st l.hold) : (l.rest st).HoldSound := ⟨h.of_eq rfl rfl, fits⟩

end Lane.QuietSound

/-- A write to fields that the agreement does not name. -/
theorem Lane.HoldSound.of_eq {l m : Lane} (h : l.HoldSound) (same : m.holdSound = l.holdSound) : m.HoldSound :=
  Lane.holdSound_iff.1 (same.trans (Lane.holdSound_iff.2 h))

theorem Lane.HoldSound.release {l : Lane} (h : l.HoldSound) : l.release.HoldSound := by
  unfold Lane.release
  simp only
  split <;> exact h.of_eq rfl

theorem Lane.HoldSound.transfer {l : Lane} (h : l.HoldSound) (allowed : GradeSet) : (l.transfer allowed).HoldSound := by
  unfold Lane.transfer
  simp only
  split <;> exact h.of_eq rfl

theorem Lane.powerOn_holdSound : Lane.powerOn.HoldSound := Lane.holdSound_iff.1 (by decide)

/-- A lane without records, whose hold set has no QUIET. -/
theorem Lane.quietSound_of_nil {l : Lane} (listed : l.hold.quiet = false) (none_ : l.quiet = []) : l.QuietSound :=
  ⟨by rw [listed, none_]; rfl, by rw [none_]; exact Nat.zero_le 4, by rw [none_]; exact List.nodup_nil⟩

/-! ## Every lane, and every lane but one -/

/-- Every lane's hold set and quiet-hold list agree with its state. -/
def HoldsSound (s : State) : Prop := ∀ p, (s.lane p).HoldSound

/-- Every lane but that of port p agrees with its state; there the list alone is sound. -/
structure HoldsOpen (p : Port) (s : State) : Prop where
  beside : ∀ q, q ≠ p → (s.lane q).HoldSound
  quiet : (s.lane p).QuietSound

theorem State.allLanes_holdSound {s : State} : s.allLanes Lane.holdSound = true ↔ HoldsSound s := by
  simp only [State.allLanes_iff, Lane.holdSound_iff, HoldsSound]

namespace HoldsOpen

variable {p : Port} {s t : State} (h : HoldsOpen p s)
include h

theorem same (lanes : t.lanes = s.lanes) : HoldsOpen p t :=
  ⟨fun q other => State.lane_of_lanes lanes q ▸ h.beside q other, State.lane_of_lanes lanes p ▸ h.quiet⟩

theorem setLane {l : Lane} (quiet : l.QuietSound) : HoldsOpen p (s.setLane p l) :=
  ⟨fun q other => s.lane_setLane_ne p q l other ▸ h.beside q other, by rw [State.lane_setLane_same]; exact quiet⟩

theorem modifyLane {f : Lane → Lane} (listed : ∀ l : Lane, (f l).hold.quiet = l.hold.quiet)
    (quiet : ∀ l : Lane, (f l).quiet = l.quiet) : HoldsOpen p (s.modifyLane p f) :=
  h.setLane (h.quiet.of_eq (listed _) (quiet _))

/-- The lane of the port is written so that it agrees again. -/
theorem close {l : Lane} (sound : l.HoldSound) : HoldsSound (s.setLane p l) := fun q => by
  by_cases here : q = p
  · subst here; rw [State.lane_setLane_same]; exact sound
  · rw [State.lane_setLane_ne _ _ _ _ here]; exact h.beside q here

theorem sound (fits : HoldFits (s.lane p).state (s.lane p).hold) : HoldsSound s := fun q => by
  by_cases here : q = p
  · subst here; exact ⟨h.quiet, fits⟩
  · exact h.beside q here

end HoldsOpen

namespace HoldsSound

variable {s : State}

theorem ite {c : Prop} [Decidable c] {t u : State} (a : c → HoldsSound t) (b : ¬c → HoldsSound u) :
    HoldsSound (if c then t else u) := by
  split
  next h => exact a h
  next h => exact b h

variable (h : HoldsSound s)
include h

/-- Where no lane is written. -/
theorem same {t : State} (lanes : t.lanes = s.lanes) : HoldsSound t := fun p => State.lane_of_lanes lanes p ▸ h p

theorem opened (p : Port) : HoldsOpen p s := ⟨fun q _ => h q, (h p).toQuietSound⟩

theorem foldl {α : Type} {f : State → α → State} (k : ∀ t x, HoldsSound t → HoldsSound (f t x)) (l : List α) :
    HoldsSound (l.foldl f s) := by
  induction l generalizing s with
  | nil => exact h
  | cons x l ih => exact ih (k s x h)

theorem setLane {p : Port} {l : Lane} (sound : l.HoldSound) : HoldsSound (s.setLane p l) := (h.opened p).close sound

/-- A write to fields that the agreement does not name. -/
theorem modifyLane (p : Port) {f : Lane → Lane} (keeps : ∀ l : Lane, (f l).holdSound = l.holdSound) :
    HoldsSound (s.modifyLane p f) := h.setLane ((h p).of_eq (keeps _))

/-! ## The tap (R46 to R51) -/

theorem closeCapture (p : Port) : HoldsSound (s.modifyLane p Lane.closeCapture) := h.modifyLane p fun _ => rfl

theorem shootPort (e : EngineId) (p : Port) (c : Byte → TapCommand) : HoldsSound (s.shootPort e p c) :=
  h.modifyLane p fun _ => rfl

theorem listenPort (e : EngineId) (p : Port) : HoldsSound (s.listenPort e p) := h.modifyLane p fun _ => rfl

theorem releasePort (e : EngineId) (p : Port) : HoldsSound (s.releasePort e p) :=
  ite (fun _ => h.setLane (h p).release) fun _ => h

theorem detachMember (e : EngineId) (p : Port) : HoldsSound (s.detachMember e p) := by
  rw [State.detachMember_eq]
  exact h.same rfl

/-- A lane that takes its port back loses LISTEN; in HELD it only sends quiet, and takes nothing back. -/
theorem laneIssue {p : Port} {c : TapCommand} (silent : (s.lane p).state = .held → c = .sendQuiet) :
    HoldsSound (s.laneIssue p c) := by
  unfold State.laneIssue
  split
  next => exact h.modifyLane p fun _ => rfl
  next e _ =>
    refine ite (fun takes => ?_) fun _ => h
    have awake : (s.lane p).state ≠ .held := fun held => takes.2 (silent held)
    have detached := h.detachMember e p
    refine detached.setLane ?_
    rw [State.detachMember_lane]
    exact ⟨(h p).toQuietSound.of_eq rfl rfl, (h p).fits.put_false .listen awake⟩

theorem laneCommand (p : Port) : HoldsSound (s.laneCommand p) := by
  unfold State.laneCommand
  split
  next c command =>
    refine h.laneIssue fun held => ?_
    rw [Lane.stateCommand, held] at command
    exact (Option.some.inj command).symm
  next => exact h

end HoldsSound

/-! ## Coming to rest in a state (R61, R62, R71) -/

namespace HoldsOpen

variable {p : Port} {s : State} (h : HoldsOpen p s)
include h

theorem rests {l : Lane} {st : LaneState} (quiet : l.QuietSound) (fits : HoldFits st l.hold) : HoldsSound (s.rests p l st) :=
  (h.close (quiet.rest fits)).laneCommand p

theorem restIn {st : LaneState} (fits : HoldFits st (s.lane p).hold) : HoldsSound (s.restIn p st) := h.rests h.quiet fits

theorem enterDisabled : HoldsSound (s.enterDisabled p) := h.restIn (.of_other (by decide))

theorem enterParked : HoldsSound (s.enterParked p) :=
  (h.restIn (st := .parked) (.of_other (by decide))).same rfl

theorem enterHeld (some_ : (s.lane p).hold ≠ .empty) : HoldsSound (s.enterHeld p) := h.restIn (.of_held some_)

theorem enterBackoff : HoldsSound (s.enterBackoff p) :=
  .ite (fun empty => (h.restIn (st := .backoff) (.of_empty empty (by decide))).modifyLane p fun _ => rfl) h.enterHeld

/-- An entry into ADVERTISE leaves the lane in PARKED, in HELD with its reasons, or in ADVERTISE with none (R62). -/
theorem advertises {l : Lane} (quiet : l.QuietSound) : HoldsSound (s.advertises p l) := by
  let offering : Lane := { l with offered := l.active.advertised &&& (s.record p).allowed &&& gradesUpTo l.ceiling }
  have offers : offering.QuietSound := quiet.of_eq rfl rfl
  have parks : HoldsSound (s.rests p { offering with lastFailure := .cable } .parked) :=
    h.rests (quiet.of_eq rfl rfl) (.of_other (by decide))
  refine .ite (fun _ => parks.same rfl) fun _ => .ite (fun some_ => ?_) fun none_ => ?_
  · exact h.rests (l := offering) offers (.of_held some_)
  · exact h.rests (l := offering) offers (.of_empty (not_not.1 none_) (by decide))

theorem enterAdvertise (b : Bool) : HoldsSound (s.enterAdvertise p b) := by
  rw [State.enterAdvertise_eq]
  exact h.advertises (h.quiet.transferAt _ b)

theorem enterSweepWait : HoldsSound (s.enterSweepWait p) :=
  .ite (fun _ => h.enterAdvertise false) fun _ => h.restIn (.of_other (by decide))

theorem transferAndRestore : HoldsOpen p (s.transferAndRestore p) :=
  h.setLane ((h.quiet.transferAt (s.record p).allowed true).of_eq rfl rfl)

theorem leaveUp : HoldsOpen p (s.leaveUp p) :=
  (h.same rfl : HoldsOpen p (s.post p .linkDown)).modifyLane (fun _ => rfl) fun _ => rfl

/-- A reason has left a lane that is not to send or to wait with another. -/
theorem leaveHeldIfFree (free : (s.lane p).state = .advertise ∨ (s.lane p).state = .backoff → (s.lane p).hold = .empty) :
    HoldsSound (s.leaveHeldIfFree p) :=
  .ite (fun _ => h.enterAdvertise false) fun stays => h.sound ⟨free, fun held empty => stays ⟨held, empty⟩⟩

theorem leavesHeld {l : Lane} (quiet : l.QuietSound) (free : l.state = .advertise ∨ l.state = .backoff → l.hold = .empty) :
    HoldsSound (s.leavesHeld p l) := by
  rw [← State.setLane_leaveHeldIfFree]
  exact (h.setLane quiet).leaveHeldIfFree (by rw [State.lane_setLane_same]; exact free)

/-! ## Failures (R79, R80) -/

theorem afterFailure (queued : Bool) (o : LadderOutcome) : HoldsSound (s.afterFailure p queued o) := by
  cases o with
  | park => exact h.enterParked
  | retry | downshift => exact .ite (fun _ => h.enterSweepWait) fun _ => h.enterBackoff

theorem requestSweep (r : SweepRequest) : HoldsOpen p (s.requestSweep r) :=
  h.same (by unfold State.requestSweep; split <;> rfl)

/-- A counted failure takes the lane to a state that its hold set allows. -/
theorem failLane (reason : LastFailure) (cable : Bool) : HoldsSound (s.failLane p reason cable) := by
  have counted : HoldsOpen p (s.modifyLane p (·.countFailure reason)) := h.modifyLane (fun _ => rfl) fun _ => rfl
  have asked : HoldsOpen p (if (s.lane p).asksSweep cable
      then (s.modifyLane p (·.countFailure reason)).requestSweep
        ((s.modifyLane p (·.countFailure reason)).automaticRequest p .laneFailure)
      else s.modifyLane p (·.countFailure reason)) := by
    split
    · exact counted.requestSweep _
    · exact counted
  exact (asked.setLane (asked.quiet.ladder _)).afterFailure _ _

end HoldsOpen

/-! ## Reasons that come and go (R64 to R66, R81, R82) -/

/-- What a reason that reaches a lane comes to: nothing, a place in the hold set where the lane does not send or wait in BACKOFF,
or HELD; SWEEP drops a link (R64 to R66). -/
theorem State.addReason_outcome (s : State) (p : Port) (r : HoldReason) :
    s.addReason p r = s ∨
    (¬((s.lane p).state = .advertise ∨ (s.lane p).state = .backoff) ∧ s.addReason p r = s.putReason p r true) ∨
    s.addReason p r = (s.putReason p r true).enterHeld p ∨
    s.addReason p r =
      (((s.leaveUp p).modifyLane p fun x => { x with transferOwed := true }).putReason p r true).enterHeld p := by
  unfold State.addReason
  simp only
  split
  next => exact .inl rfl
  next =>
    split
    case h_1 | h_2 => exact .inr (.inr (.inl rfl))
    case h_3 state | h_4 state =>
      cases r with
      | quiet => exact .inr (.inl ⟨by simp [state], rfl⟩)
      | listen => exact .inl rfl
      | sweep | power => exact .inr (.inr (.inl rfl))
    case h_5 state =>
      cases r with
      | quiet => exact .inr (.inl ⟨by simp [state], rfl⟩)
      | sweep => exact .inr (.inr (.inr rfl))
      | listen | power => exact .inl rfl
    all_goals
      rename_i state
      exact .inr (.inl ⟨by simp [state], rfl⟩)

namespace HoldsOpen

variable {p : Port} {s : State} (h : HoldsOpen p s)
include h

theorem putReason {r : HoldReason} (other : r ≠ .quiet) (b : Bool) : HoldsOpen p (s.putReason p r b) :=
  h.setLane (h.quiet.put other b)

/-- A lane with a reason just put into its hold set is HELD. -/
theorem putReason_enterHeld {r : HoldReason} (other : r ≠ .quiet) : HoldsSound ((s.putReason p r true).enterHeld p) := by
  refine (h.putReason other true).enterHeld ?_
  rw [State.putReason, State.lane_modifyLane_same]
  exact HoldSet.put_true_ne_empty _ r

end HoldsOpen

namespace HoldsSound

variable {s : State} (h : HoldsSound s)
include h

theorem addReason (p : Port) {r : HoldReason} (other : r ≠ .quiet) : HoldsSound (s.addReason p r) := by
  rcases s.addReason_outcome p r with same | ⟨apart, put⟩ | held | held
  · rw [same]; exact h
  · rw [put]
    refine h.setLane ⟨(h p).toQuietSound.put other true, fun free => absurd free apart, fun _ => ?_⟩
    exact HoldSet.put_true_ne_empty _ r
  · rw [held]; exact (h.opened p).putReason_enterHeld other
  · rw [held]
    have owed := (h.opened p).leaveUp.modifyLane (f := fun x => { x with transferOwed := true }) (fun _ => rfl) fun _ => rfl
    exact owed.putReason_enterHeld other

/-- A reason has left a lane whose list still agrees with its hold set. -/
theorem putReason_leaveHeldIfFree {p : Port} {r : HoldReason} (other : r ≠ .quiet) :
    HoldsSound ((s.putReason p r false).leaveHeldIfFree p) := by
  refine ((h.opened p).putReason other false).leaveHeldIfFree ?_
  rw [State.putReason, State.lane_modifyLane_same]
  intro free
  show (s.lane p).hold.put r false = .empty
  rw [(h p).fits.free free, HoldSet.put_false_empty]

theorem dropReason (p : Port) {r : HoldReason} (other : r ≠ .quiet) : HoldsSound (s.dropReason p r) :=
  ite (fun _ => h.putReason_leaveHeldIfFree other) fun _ => h

theorem sweepWaitTest (p : Port) : HoldsSound (s.sweepWaitTest p) :=
  ite (fun _ => (h.opened p).enterAdvertise false) fun _ => h

theorem laneEntryRemoved (p : Port) : HoldsSound (s.laneEntryRemoved p) :=
  ite (fun _ => ((h.opened p).putReason (by decide) false).enterBackoff) fun _ => h.putReason_leaveHeldIfFree (by decide)

theorem laneEntrySuspended (p : Port) : HoldsSound (s.laneEntrySuspended p) :=
  (h.dropReason p (by decide)).sweepWaitTest p

theorem unparkByRecord (p : Port) : HoldsSound (s.unparkByRecord p) :=
  have restored := h.modifyLane p (f := fun l => { l.restoreCeiling (s.record p).allowed with lastFailure := .none })
    fun _ => rfl
  (restored.opened p).enterAdvertise true

/-! ## The way to UP and out of it (R76, R84, R85) -/

theorem enterTrain (p : Port) (g : Grade) : HoldsSound (s.enterTrain p g) := by
  have rested : ((s.lane p).rest .train).HoldSound := (h p).toQuietSound.rest (.of_other (by decide))
  refine HoldsSound.laneCommand (s := State.setLane s p _) ?_ p
  exact h.setLane (rested.of_eq rfl)

theorem enterNegotiate (p : Port) : HoldsSound (s.enterNegotiate p) := by
  have rested : ((s.lane p).rest .negotiate).HoldSound := (h p).toQuietSound.rest (.of_other (by decide))
  exact h.setLane (rested.of_eq rfl)

theorem removeEntry (p : Port) (o : RemovalOutcome) : HoldsSound (s.removeEntry p o) :=
  (h.same rfl : HoldsSound { s.post p (removalFlag o) with
    queue := s.queue.filter fun x => decide (x.port ≠ p) }).laneEntryRemoved p

theorem preempt (p : Port) : HoldsSound (s.preempt p) := by
  unfold State.preempt
  split
  · exact ite (fun _ => h.removeEntry p _) fun _ => h
  · exact h

theorem enterUp (p : Port) : HoldsSound (s.enterUp p) := by
  have rested : ((s.lane p).rest .up).HoldSound := (h p).toQuietSound.rest (.of_other (by decide))
  have raised : HoldsSound (s.modifyLane p (·.goUp s.ms)) := h.setLane (rested.of_eq rfl)
  exact (raised.same rfl : HoldsSound ((s.modifyLane p (·.goUp s.ms)).post p .linkUp)).preempt p

theorem loseLink (p : Port) : HoldsSound (s.loseLink p) := by
  let dropped := (s.leaveUp p).modifyLane p fun x => { x with transferOwed := true, grade := none }
  have down : HoldsOpen p dropped := (h.opened p).leaveUp.modifyLane (fun _ => rfl) fun _ => rfl
  have ready : HoldsOpen p (if (s.lane p).active.autoSweep
      then dropped.setHoldoff p (some (dropped.after Config.holdoffMs)) else dropped) := by
    split
    · exact down.same rfl
    · exact down
  exact ite (fun _ => ready.failLane _ _) fun _ => ite (fun _ => ready.enterAdvertise false) fun _ =>
    (ready.modifyLane (f := (·.restoreCeiling _)) (fun _ => rfl) fun _ => rfl).enterAdvertise false

end HoldsSound

end Sys2Proof.Machine
end

section
/-! SUPPORT. What QUIET makes of a lane (R65, R67, R68, R165 to R167): an ask and an end, each as a write of the lane. -/

namespace Sys2Proof.Machine

/-- The lane at rest in HELD; where it holds its port it sends quiet (R47, R61). -/
def Lane.toHeld (l : Lane) : Lane := if l.holder = .lane then (l.rest .held).issue .sendQuiet else l.rest .held

theorem State.rests_held (s : State) (p : Port) (l : Lane) : s.rests p l .held = s.setLane p l.toHeld := by
  have lane : (s.setLane p (l.rest .held)).lane p = l.rest .held := State.lane_setLane_same ..
  have quiet : ((s.setLane p (l.rest .held)).lane p).stateCommand = some .sendQuiet := by rw [lane]; rfl
  show (s.setLane p (l.rest .held)).laneCommand p = _
  rw [State.laneCommand_some quiet]
  unfold Lane.toHeld
  cases holder : l.holder with
  | lane =>
    rw [State.laneIssue_own (by rw [lane]; exact holder), lane, State.setLane_setLane, if_pos rfl]
  | engine e =>
    rw [State.laneIssue_withheld (e := e) (by rw [lane]; exact holder) (.inl rfl), if_neg nofun]

theorem State.setLane_enterHeld (s : State) (p : Port) (l : Lane) : (s.setLane p l).enterHeld p = s.setLane p l.toHeld := by
  rw [State.enterHeld, State.setLane_restIn, State.rests_held]

/-- The lane that a reason reaches in a state that is not on its way to UP: ADVERTISE and BACKOFF enter HELD, every other state
records it (R64). -/
def Lane.adds (l : Lane) (r : HoldReason) : Lane :=
  if l.hold.has r then l else if l.state = .advertise ∨ l.state = .backoff then (l.put r true).toHeld else l.put r true

theorem State.addReason_adds {s : State} {p : Port} {r : HoldReason}
    (resting : r = .quiet ∨ ¬((s.lane p).state = .negotiate ∨ (s.lane p).state = .train ∨ (s.lane p).state = .up)) :
    s.addReason p r = s.setLane p ((s.lane p).adds r) := by
  have put : s.putReason p r true = s.setLane p ((s.lane p).put r true) := rfl
  unfold State.addReason Lane.adds
  simp only
  split
  · exact (State.setLane_lane s p).symm
  · rw [put, State.setLane_enterHeld]
    rcases resting with quiet | resting
    · subst quiet
      cases state : (s.lane p).state <;> simp
    · cases state : (s.lane p).state <;> simp [state] at resting ⊢

/-- The lane after an ask; QUIET joins the hold set when the list gains its first record (R67). -/
def Lane.takesAsk (l : Lane) (now : Ms) (ask : QuietRecord) : Lane :=
  let noted : Lane := { l with quiet := placeQuiet now l.quiet ask }
  if l.quiet = [] then noted.adds .quiet else noted

theorem State.quietAskLane_eq (s : State) (p : Port) (ask : QuietRecord) :
    s.quietAskLane p ask = s.setLane p ((s.lane p).takesAsk s.ms ask) := by
  unfold State.quietAskLane Lane.takesAsk
  simp only [List.isEmpty_iff]
  split
  · rw [State.addReason_adds (.inl rfl), State.lane_modifyLane_same, State.modifyLane, State.setLane_setLane]
  · rfl

theorem Lane.toHeld_holdSound {l : Lane} (quiet : l.QuietSound) (some_ : l.hold ≠ .empty) : l.toHeld.HoldSound := by
  have held : (l.rest .held).HoldSound := quiet.rest (.of_held some_)
  unfold Lane.toHeld
  split
  · exact held.of_eq rfl
  · exact held

theorem Lane.HoldSound.takesAsk {l : Lane} (h : l.HoldSound) (now : Ms) (ask : QuietRecord) :
    (l.takesAsk now ask).HoldSound := by
  obtain ⟨length, keys, some_⟩ := placeQuiet_sound (now := now) (ask := ask) h.length h.keys
  have gains : (!(placeQuiet now l.quiet ask).isEmpty) = true := by simpa using some_
  unfold Lane.takesAsk Lane.adds
  simp only
  split
  next none_ =>
    have absent : l.hold.quiet = false := by rw [h.listed, none_]; rfl
    let put : Lane := Lane.put { l with quiet := placeQuiet now l.quiet ask } .quiet true
    have sound : put.QuietSound := ⟨gains.symm, length, keys⟩
    have some_ : put.hold ≠ .empty := HoldSet.put_true_ne_empty l.hold .quiet
    rw [HoldSet.has, absent, if_neg Bool.false_ne_true]
    split
    · exact Lane.toHeld_holdSound sound some_
    next apart => exact ⟨sound, fun free => absurd free apart, fun _ => some_⟩
  next more =>
    have listed : l.hold.quiet = true := by rw [h.listed]; simpa using more
    exact ⟨⟨listed.trans gains.symm, length, keys⟩, h.fits⟩

/-- The end of a quiet hold as R68 states it. -/
theorem State.quietEndLane_eq (s : State) (p : Port) (st : Station) (port : Port) :
    s.quietEndLane p st port = s.losesQuiet p st port := by
  let kept := (s.lane p).quiet.filter fun q => !q.hasKey st port
  have shorter : kept.length = (s.lane p).quiet.length ↔ ¬(s.lane p).quiet.any (·.hasKey st port) = true := by
    simp [kept, List.length_filter_eq_length_iff]
  unfold State.quietEndLane
  show _ = if kept.length = (s.lane p).quiet.length then s else
    if kept = [] ∧ (s.lane p).hold.quiet = true then
      s.leavesHeld p { s.lane p with quiet := [], hold := { (s.lane p).hold with quiet := false } }
    else s.setLane p { s.lane p with quiet := kept }
  by_cases known : (s.lane p).quiet.any (·.hasKey st port) = true
  · rw [if_neg fun same => shorter.1 same known]
    simp only [if_pos known, State.lane_modifyLane_same]
    by_cases none_ : kept = []
    · rw [if_pos (show (s.lane p).quiet.filter _ = [] from none_)]
      by_cases listed : (s.lane p).hold.quiet = true
      · rw [if_pos ⟨none_, listed⟩]
        rw [State.dropReason_has (r := .quiet) (by rw [State.lane_modifyLane_same]; exact listed), State.modifyLane,
          State.lane_setLane_same, State.setLane_leavesHeld]
        simp only [show (s.lane p).quiet.filter _ = [] from none_]
        rfl
      · rw [if_neg fun both => listed both.2, State.dropReason_absent (r := .quiet)]
        · rfl
        · rw [State.lane_modifyLane_same]; exact Bool.eq_false_of_not_eq_true listed
    · rw [if_neg (show ¬(s.lane p).quiet.filter _ = [] from none_), if_neg fun both => none_ both.1]
      rfl
  · rw [if_pos (shorter.2 known)]
    exact if_neg known

namespace HoldsSound

variable {s : State} (h : HoldsSound s)
include h

theorem quietAskLane (p : Port) (ask : QuietRecord) : HoldsSound (s.quietAskLane p ask) := by
  rw [State.quietAskLane_eq]
  exact h.setLane ((h p).takesAsk _ _)

theorem quietEndLane (p : Port) (st : Station) (port : Port) : HoldsSound (s.quietEndLane p st port) := by
  let kept := (s.lane p).quiet.filter fun q => !q.hasKey st port
  have sub : kept.Sublist (s.lane p).quiet := List.filter_sublist
  rw [State.quietEndLane_eq]
  refine ite (fun _ => h) fun fewer => ite (fun _ => ?_) fun more => ?_
  · refine (h.opened p).leavesHeld (Lane.quietSound_of_nil rfl rfl) fun free => ?_
    show (s.lane p).hold.put .quiet false = .empty
    rw [(h p).fits.free free, HoldSet.put_false_empty]
  · have listed : (s.lane p).hold.quiet = true := by
      rw [(h p).listed]
      by_contra none_
      refine fewer ?_
      have nil : (s.lane p).quiet = [] := by simpa using none_
      rw [nil]
      rfl
    have some_ : kept ≠ [] := fun empty => more ⟨empty, listed⟩
    have gains : (!kept.isEmpty) = true := by rw [List.isEmpty_eq_false_iff.2 some_]; rfl
    exact h.setLane ⟨⟨listed.trans gains.symm, sub.length_le.trans (h p).length, (h p).keys.sublist (sub.map _)⟩, (h p).fits⟩

end HoldsSound

end Sys2Proof.Machine
end

section
/-! SUPPORT. Hold set and quiet-hold list agree with the lane state through every command: sweeps, calibration, listen jobs, the frames of peers,
requests, the events of taps and timers, and the resets. -/

namespace Sys2Proof.Machine

namespace HoldsSound

variable {s : State} (h : HoldsSound s)
include h

/-! ## The start choice (R117 to R119) -/

theorem postCoord (f : Frame) (e : Option EngineId) : HoldsSound (s.postCoord f e) := by
  unfold State.postCoord
  split
  · exact h.same rfl
  · refine ite (fun _ => h) fun _ => ?_
    split
    · exact h
    · exact h.same rfl

theorem modifyEngine (e : EngineId) (f : Engine → Engine) : HoldsSound (s.modifyEngine e f) := h.same rfl

theorem setEngine (e : EngineId) (g : Engine) : HoldsSound (s.setEngine e g) := h.same rfl

theorem modifyEntry (p : Port) (f : Entry → Entry) : HoldsSound (s.modifyEntry p f) := h.same rfl

theorem listenDrop (p : Port) : HoldsSound (s.listenDrop p) := by
  unfold State.listenDrop
  split
  next => exact h
  next e m _ =>
    have released := (h.detachMember e p).releasePort e p
    exact ite (fun _ => released.dropReason p (by decide)) fun _ => released

theorem startEntry (e : EngineId) (p : Port) : HoldsSound (s.startEntry e p) :=
  (((h.modifyEntry p _).setEngine e _).listenDrop p).addReason p (by decide)

theorem engineChooses (e : EngineId) : HoldsSound (s.engineChooses e) := by
  have guarded : HoldsSound s.removeGuarded := h.foldl (fun _ x k => k.removeEntry (Entry.port x) _) _
  refine ite (fun _ => ?_) fun _ => h
  simp only
  split
  · exact guarded.startEntry e _
  · exact guarded

theorem startChoice : HoldsSound s.startChoice := ((h.engineChooses 0).engineChooses 1).engineChooses 0

theorem settle : HoldsSound s.settle := by
  obtain ⟨_, _, _, _, opens⟩ := s.startChoice.transmitChoice_rest
  rw [State.settle, opens]
  exact h.startChoice.same rfl

/-! ## The course of a sweep (R120 to R127) -/

theorem pairWrite (p : Port) (q : Pair) (x : PairResult) (o : Origin) (c : Bool) : HoldsSound (s.pairWrite p q x o c) := by
  have written (r : CableRecord) : HoldsSound (s.setRecord p r) := h.same rfl
  have handed (r : CableRecord) (old new : GradeSet) : HoldsSound ((s.setRecord p r).handOver p old new) :=
    ite (fun _ => (written r).unparkByRecord p) fun _ => written r
  unfold State.pairWrite State.postOption
  simp only
  split
  · exact (handed _ _ _).same rfl
  · exact handed _ _ _

theorem freeEngine (e : EngineId) (p : Port) : HoldsSound (s.freeEngine e p) := (h.releasePort e p).setEngine e _

theorem postEndFrame (e : EngineId) (p : Port) : HoldsSound (s.postEndFrame e p) := by
  unfold State.postEndFrame
  refine HoldsSound.modifyEngine ?_ e _
  split
  · exact h
  · exact h.postCoord _ _
  · exact h.postCoord _ _

theorem completeSweep (e : EngineId) (p : Port) : HoldsSound (s.completeSweep e p) :=
  (((h.postCoord _ _).modifyEngine e _).freeEngine e p).removeEntry p _

theorem cancelStop (e : EngineId) (p : Port) : HoldsSound (s.cancelStop e p) :=
  ((h.postEndFrame e p).freeEngine e p).removeEntry p _

theorem suspendSweep (e : EngineId) (p : Port) : HoldsSound (s.suspendSweep e p) :=
  (((h.postEndFrame e p).freeEngine e p).modifyEntry p _).laneEntrySuspended p

theorem suspendOn (p : Port) (b : Bool) : HoldsSound (s.suspendOn p b) := by
  unfold State.suspendOn
  split
  · split
    · exact ite (fun _ => h.suspendSweep _ p) fun _ => h
    · exact h
  · exact h

theorem beginPair (e : EngineId) (p : Port) (q : Pair) : HoldsSound (s.beginPair e p q) :=
  ((h.modifyEngine e _).modifyEngine e _).shootPort e p _

theorem passEnd (e : EngineId) (x : Entry) : HoldsSound (s.passEnd e x) :=
  ite (fun _ => h.completeSweep e x.port) fun _ => ite (fun _ => h.suspendSweep e x.port) fun _ =>
    ((h.postCoord _ _).modifyEntry x.port _).modifyEngine e _

theorem afterPair (e : EngineId) (p : Port) (q : Pair) : HoldsSound (s.afterPair e p q) := by
  unfold State.afterPair
  split
  · exact h
  · refine ite (fun _ => ite (fun _ => h.completeSweep e p) fun _ => h.cancelStop e p) fun _ => ?_
    split
    · exact ite (fun _ => h.suspendSweep e p) fun _ => h.beginPair e p _
    · exact h.passEnd e _

theorem writePair (e : EngineId) (p : Port) (q : Pair) (r : PairResult) : HoldsSound (s.writePair e p q r) := by
  unfold State.writePair
  split
  · exact h
  · exact (((h.modifyEntry p _).modifyEngine e _).pairWrite p q r _ _).afterPair e p q

theorem afterShot (e : EngineId) (p : Port) (q : Pair) (d : Nat) : HoldsSound (s.afterShot e p q d) :=
  ite (fun _ => h.writePair e p q _) fun _ => ite (fun _ => (h.modifyEngine e _).shootPort e p _) fun _ =>
    ite (fun _ => h.writePair e p q _) fun _ => h.modifyEngine e _

theorem endAnalysis (e : EngineId) (p : Port) (q : Pair) : HoldsSound (s.endAnalysis e p q) := by
  unfold State.endAnalysis
  split
  · exact h
  · exact ite (fun _ => (h.modifyEngine e _).afterPair e p q) fun _ => h.writePair e p q _

theorem settled (e : EngineId) (x : Entry) : HoldsSound (s.settled e x) := by
  unfold State.settled
  simp only
  split
  · exact ((h.postCoord _ _).modifyEngine e _).beginPair e x.port _
  · exact (h.postCoord _ _).modifyEngine e _

theorem shotCompleted (e : EngineId) (p : Port) (b : Four ShotBlock) : HoldsSound (s.shotCompleted e p b) := by
  unfold State.shotCompleted
  split
  · exact ((h.closeCapture p).modifyEngine e _).afterShot e p _ _
  · exact h.closeCapture p

/-! ## Calibration and start-up (R37 to R39) -/

theorem takeCalibration (e : EngineId) : HoldsSound (s.takeCalibration e) := by
  unfold State.takeCalibration
  split
  next => exact h.setEngine e _
  next p rest _ =>
    have shorter : HoldsSound { s with calList := rest } := h.same rfl
    exact ((shorter.setEngine e _).modifyEngine e _).shootPort e p _

theorem afterCalShot (e : EngineId) : HoldsSound (s.afterCalShot e) := by
  unfold State.afterCalShot
  split
  · exact h
  · exact ite (fun _ => (h.modifyEngine e _).shootPort e _ _) fun _ => h.modifyEngine e _

theorem shotFailed (p : Port) : HoldsSound (s.shotFailed p) := by
  have closed := h.closeCapture p
  unfold State.shotFailed
  simp only
  split
  next => exact closed
  next e _ =>
    split
    case h_1 => exact closed.afterCalShot e
    case h_2 =>
      split
      · exact (closed.modifyEngine e _).afterShot e p _ _
      · exact closed
    all_goals exact closed

theorem finishCalibration (e : EngineId) : HoldsSound (s.finishCalibration e) := by
  unfold State.finishCalibration
  split
  · exact h
  next w _ =>
    have measured := h.modifyLane w.port (f := fun l => { l with
      offsetT := (calibrationOffset (pulseCode s.station) w.sums w.completed).1,
      calDefaulted := (calibrationOffset (pulseCode s.station) w.sums w.completed).2 }) fun _ => rfl
    exact (measured.releasePort e w.port).takeCalibration e

theorem leaveStarting (p : Port) : HoldsSound (s.leaveStarting p) :=
  have restored := (h.opened p).transferAndRestore
  ite (fun _ => restored.enterAdvertise true) fun _ => restored.enterDisabled

theorem startupEnd : HoldsSound s.startupEnd :=
  ite (fun _ => (h.foldl (fun _ p k => k.leaveStarting p) s.presentPorts).same rfl) fun _ => h

/-! ## Listen jobs and the frames of peers (R164 to R174) -/

theorem takeQuietAsk (st : Station) (port : Port) (units : Byte) : HoldsSound (s.takeQuietAsk st port units) :=
  h.foldl (fun _ p k => k.quietAskLane p _) _

theorem endQuiet (st : Station) (port : Port) : HoldsSound (s.endQuiet st port) :=
  h.foldl (fun _ p k => k.quietEndLane p st port) _

theorem takeSweepStart (st : Station) (port : Port) (units : Byte) : HoldsSound (s.takeSweepStart st port units) := by
  unfold State.takeSweepStart
  simp only
  split
  · exact h
  · exact ite (fun _ => h) fun _ => HoldsSound.foldl
      (HoldsSound.foldl (h.setEngine _ _) (fun _ m k => k.addReason (Member.port m) (by decide)) _)
      (fun _ p k => k.listenPort _ p) _

theorem endListenJob (e : EngineId) : HoldsSound (s.endListenJob e) := by
  unfold State.endListenJob
  split
  · exact h
  next j _ =>
    have recorded := h.foldl (f := fun t m => t.recordMember j m)
      (fun _ m k => ite (fun _ => (k.same rfl : HoldsSound (State.learn _ _ _ _)).postCoord _ _) fun _ => k) j.members
    have released := (recorded.setEngine e .idle).foldl (fun _ m k => k.releasePort e (Member.port m)) j.members
    exact (released.foldl (fun _ m k => k.dropReason (Member.port m) (by decide)) _).startChoice

theorem takeSweepEnd (st : Station) (port : Port) : HoldsSound (s.takeSweepEnd st port) := by
  have endJobOf {t : State} (k : HoldsSound t) (e : EngineId) : HoldsSound (t.endJobOf e st port) :=
    ite (fun _ => k.endListenJob e) fun _ => k
  exact endJobOf (endJobOf (h.endQuiet st port) 0) 1

theorem fromPeer (st : Station) {f : State → State} (k : HoldsSound (f s)) : HoldsSound (s.fromPeer st f) :=
  ite (fun _ => h) fun _ => ite (fun _ => k) fun _ => h

theorem withPeerPort (b : Byte) {f : Port → State} (k : ∀ p, HoldsSound (f p)) : HoldsSound (s.withPeerPort b f) := by
  unfold State.withPeerPort
  split
  · exact k _
  · exact h

theorem quietAskFrom (st : Station) (port units : Byte) : HoldsSound (s.quietAskFrom st port units) :=
  h.fromPeer st (h.withPeerPort port fun p => h.takeQuietAsk st p units)

theorem sweepStartFrom (st : Station) (port units : Byte) : HoldsSound (s.sweepStartFrom st port units) :=
  h.fromPeer st (h.withPeerPort port fun p => h.takeSweepStart st p units)

theorem sweepEndFrom (st : Station) (port : Byte) : HoldsSound (s.sweepEndFrom st port) :=
  h.fromPeer st (h.withPeerPort port fun p => h.takeSweepEnd st p)

theorem quietEndFrom (st : Station) (port : Byte) : HoldsSound (s.quietEndFrom st port) :=
  h.fromPeer st (h.withPeerPort port fun p => h.endQuiet st p)

theorem couplingSeenFrom (st : Station) (swept port : Byte) (level : BitVec 16) :
    HoldsSound (s.couplingSeenFrom st swept port level) := by
  refine h.fromPeer st ?_
  split
  · exact ite (fun _ => h) fun _ => h.same rfl
  · exact h

theorem takeCoordination (kind : Byte) (st : Station) (payload : List Byte) :
    HoldsSound (s.takeCoordination kind st payload) := by
  unfold State.takeCoordination
  split
  · exact h.quietAskFrom st _ _
  · exact h.sweepStartFrom st _ _
  · exact h.sweepEndFrom st _
  · exact h.quietEndFrom st _
  · exact h.couplingSeenFrom st _ _ _
  · exact h

/-! ## The survey, holdoffs and the minute -/

theorem requestSweep (r : SweepRequest) : HoldsSound (s.requestSweep r) :=
  h.same (by unfold State.requestSweep; split <;> rfl)

theorem restartSurvey : HoldsSound s.restartSurvey := h.same rfl

theorem expireSurvey : HoldsSound s.expireSurvey := by
  unfold State.expireSurvey
  split
  next p _ =>
    have asked := h.requestSweep (s.automaticRequest p .survey)
    exact restartSurvey (ite (fun _ => asked.same rfl) fun _ => asked)
  next => exact ite (fun _ => h.same rfl) fun _ => h.same rfl

theorem expireHoldoff (p : Port) : HoldsSound (s.expireHoldoff p) :=
  have cleared : HoldsSound (s.setHoldoff p none) := h.same rfl
  ite (fun _ => cleared.requestSweep _) fun _ => cleared

theorem advanceMinute : HoldsSound s.advanceMinute := by
  unfold State.advanceMinute
  rw [State.ageRecords_eq, State.modifyRecords_rest]
  exact h.same rfl

/-! ## The events of the taps (R52 to R58) -/

theorem energyRises (p : Port) : HoldsSound (s.energyRises p) := by
  have noted := h.modifyLane p (f := fun l => { l with energy := true }) fun _ => rfl
  exact (((noted.suspendOn p true).listenDrop p).same rfl : HoldsSound (State.setHoldoff _ p none)).sweepWaitTest p

theorem energyFalls (p : Port) : HoldsSound (s.energyFalls p) :=
  have noted := h.modifyLane p (f := fun l => { l with energy := false }) fun _ => rfl
  ite (fun _ => (noted.opened p).enterAdvertise false) fun _ => ite (fun _ => (noted.opened p).failLane _ _) fun _ => noted

theorem firstWord (p : Port) (offer : GradeSet) (fault : Bool) : HoldsSound (s.firstWord p offer fault) :=
  have entered := h.enterNegotiate p
  ite (fun _ => (entered.opened p).failLane _ _) fun _ =>
    entered.modifyLane p (f := fun l => { l with neg := ⟨some offer, 1, false, 0⟩ }) fun _ => rfl

theorem completeNegotiation (p : Port) : HoldsSound (s.completeNegotiation p) := by
  unfold State.completeNegotiation
  simp only
  split
  · exact h.enterTrain p _
  · exact (h.opened p).failLane _ _

theorem nextWord {p : Port} (state : (s.lane p).state = .negotiate) (offer : GradeSet) (ack fault : Bool) :
    HoldsSound (s.nextWord p offer ack fault) := by
  have noted := h.modifyLane p (f := fun l => { l with neg := (s.lane p).neg.word offer ack }) fun _ => rfl
  refine ite (fun _ => (h.opened p).failLane _ _) fun _ => ite (fun _ => noted.laneIssue fun held => ?_) fun _ =>
    ite (fun _ => noted.completeNegotiation p) fun _ => noted
  rw [State.lane_modifyLane_same] at held
  exact nomatch state.symm.trans held

theorem legacyDetected (p : Port) : HoldsSound (s.legacyDetected p) :=
  ite (fun _ => h.enterTrain p .g1) fun _ => (h.opened p).failLane _ _

/-! ## The owners' decisions (R41 to R43, R86 to R89, R113, R114, R177) -/

theorem disableLane (p : Port) : HoldsSound (s.disableLane p) := by
  let dropped := if (s.lane p).state = .up
    then (s.leaveUp p).modifyLane p fun l => { l with transferOwed := true } else s
  have owed : HoldsOpen p dropped := by
    unfold dropped
    split
    · exact (h.opened p).leaveUp.modifyLane (fun _ => rfl) fun _ => rfl
    · exact h.opened p
  have quieted : HoldsOpen p (dropped.modifyLane p Lane.clearQuiet) := owed.setLane (Lane.quietSound_of_nil rfl rfl)
  refine ite (fun disabled => quieted.sound ?_) fun _ => quieted.enterDisabled
  have kept : dropped = s := if_neg (by rw [disabled]; nofun)
  have state : ((dropped.modifyLane p Lane.clearQuiet).lane p).state = .disabled := by
    rw [State.lane_modifyLane_same, kept]; exact disabled
  rw [state]
  exact .of_other (by decide)

theorem carryOutRetrain (p : Port) : HoldsSound (s.carryOutRetrain p) := by
  have dropped : HoldsOpen p (if (s.lane p).state = .up then s.leaveUp p else s) := by
    split
    · exact (h.opened p).leaveUp
    · exact h.opened p
  exact dropped.transferAndRestore.enterAdvertise true

theorem retrainLane (p : Port) : HoldsSound (s.retrainLane p).1 := by
  unfold State.retrainLane
  split
  · exact h
  · split
    · exact h
    · exact h.carryOutRetrain p

theorem unparkLane (p : Port) : HoldsSound (s.unparkLane p).1 := by
  unfold State.unparkLane
  split
  · exact h.retrainLane p
  · exact h

theorem sweepDecision (p : Port) (mask : PairSet) (depth : Nat) (force : Bool) :
    HoldsSound (s.sweepDecision p mask depth force).1 := by
  unfold State.sweepDecision
  simp only
  repeat (split; exact h)
  exact h.requestSweep _

theorem cancelDecision (p : Port) : HoldsSound (s.cancelDecision p) := by
  unfold State.cancelDecision
  split
  · exact h
  · split
    · exact ite (fun _ => h) fun _ => ite (fun _ => (h.modifyEntry p _).cancelStop _ p) fun _ => h.modifyEntry p _
    · exact h
    · exact h.removeEntry p _

theorem transferInPlace (p : Port) : HoldsSound (s.transferInPlace p) := h.setLane ((h p).transfer _)

theorem applyProfile (p : Port) (now : Bool) : HoldsSound (s.applyProfile p now) := by
  have inPlace := h.transferInPlace p
  have afresh := (h.opened p).enterAdvertise true
  unfold State.applyProfile
  split
  case h_1 | h_4 => exact inPlace
  case h_2 | h_3 | h_5 | h_7 | h_8 => exact afresh
  case h_6 => exact ite (fun _ => inPlace) fun _ => afresh
  case h_9 => exact ite (fun _ => h) fun _ => (h.opened p).leaveUp.enterAdvertise true
  all_goals exact h

theorem profileDecision (b : ProfileBytes) : HoldsSound (s.profileDecision b).1 := by
  have written := h.foldl (f := fun t p => t.modifyLane p fun l => l.writeShadow b)
    (fun _ p k => k.modifyLane p fun _ => rfl) (portsOf (b.mask.setWidth 12))
  unfold State.profileDecision
  simp only
  split
  · exact h
  · split
    · exact h
    · exact written.foldl (fun _ p k => k.applyProfile p _) _

theorem surveyDecision (interval : Nat) (continuous : Bool) : HoldsSound (s.surveyDecision interval continuous).1 :=
  ite (fun _ => h.same rfl) fun _ => h.same rfl

/-! ## The requests (R18 to R30) -/

theorem answer (k : RequestKind) (v : Decision) : HoldsSound (s.answer k v) := h.same rfl

theorem withPort {k : RequestKind} {b : Byte} {f : Port → State} (decided : ∀ p, HoldsSound (f p)) :
    HoldsSound (s.withPort k b f) := by
  unfold State.withPort
  split
  · exact decided _
  · exact h.answer _ _

theorem laneControl (port action : Byte) : HoldsSound (s.laneControl port action) := by
  refine h.withPort fun p => ?_
  split
  · have enabled : HoldsSound (s.enableLane p) :=
      ite (fun _ => (h.opened p).transferAndRestore.enterAdvertise true) fun _ => h
    exact enabled.answer _ _
  · exact (h.disableLane p).answer _ _
  · exact (h.retrainLane p).answer _ _
  · exact (h.unparkLane p).answer _ _
  · exact h.answer _ _

theorem sweepRequest (port mask depth flags : Byte) : HoldsSound (s.sweepRequest port mask depth flags) :=
  h.withPort fun p => ite (fun _ => h.answer _ _) fun _ => (h.sweepDecision p _ _ _).answer _ _

theorem cancelRequest (port : Byte) : HoldsSound (s.cancelRequest port) :=
  h.withPort fun p => (h.cancelDecision p).answer _ _

theorem profileRequest (b : ProfileBytes) : HoldsSound (s.profileRequest b) :=
  ite (fun _ => h.answer _ _) fun _ => ite (fun _ => h.answer _ _) fun _ => (h.profileDecision b).answer _ _

theorem guardRequest (mask : BitVec 16) : HoldsSound (s.guardRequest mask) :=
  ite (fun _ => h.answer _ _) fun _ => h.same rfl

theorem surveyRequest (interval mode : Byte) : HoldsSound (s.surveyRequest interval mode) :=
  ite (fun _ => h.answer _ _) fun _ => (h.surveyDecision _ _).answer _ _

theorem portQuery (port : Byte) : HoldsSound (s.portQuery port) := h.withPort fun _ => h.same rfl

theorem recordRead (port : Byte) : HoldsSound (s.recordRead port) := h.withPort fun _ => h.same rfl

theorem resetLane (p : Port) : HoldsSound (s.resetLane p) := by
  have cleared : HoldsOpen p (s.modifyLane p Lane.clearForReset) := (h.opened p).setLane (Lane.quietSound_of_nil rfl rfl)
  have restored := cleared.transferAndRestore
  refine ite (fun disabled => (restored.sound ?_).laneCommand p) fun _ => restored.enterAdvertise true
  rw [disabled]
  exact .of_other (by decide)

theorem stationReset : HoldsSound s.stationReset := by
  have freed : HoldsSound s.resetEnginesAndSurvey := fun p => by
    rw [State.lane_resetEnginesAndSurvey]
    exact (h p).of_eq rfl
  have lanes : HoldsSound (s.resetEnginesAndSurvey.presentPorts.foldl State.resetLane s.resetEnginesAndSurvey) :=
    freed.foldl (fun _ p k => k.resetLane p) _
  unfold State.stationReset
  simp only [State.resetSweeps_resetSurvey]
  exact lanes.same rfl

/-! ## Requests and frames handed on, and the transmitter (R7 to R9) -/

theorem takeRequest {f : State → State} (decided : HoldsSound (f s)) : HoldsSound (s.takeRequest f) :=
  ite (fun _ => h.same rfl) fun _ => ite (fun _ => h.same rfl) fun _ => decided

theorem decideRequest {k : RequestKind} {payload : List Byte} {f : State → State}
    (decided : Machine.decideRequest k payload = some f) : HoldsSound (f s) := by
  cases k with
  | stationReset => match payload, decided with | [], rfl => exact h.stationReset
  | laneControl => match payload, decided with | [_, _], rfl => exact h.laneControl _ _
  | sweep => match payload, decided with | [_, _, _, _], rfl => exact h.sweepRequest _ _ _ _
  | cancelSweep => match payload, decided with | [_], rfl => exact h.cancelRequest _
  | setProfile =>
    match payload, decided with
    | [_, _, _, _, _, _, _, _, _, _, _, _, _], rfl => exact h.profileRequest _
  | setGuard => match payload, decided with | [_, _], rfl => exact h.guardRequest _
  | setSurvey => match payload, decided with | [_, _], rfl => exact h.surveyRequest _ _
  | queryStation => match payload, decided with | [], rfl => exact h.same rfl
  | queryPort => match payload, decided with | [_], rfl => exact h.portQuery _
  | readRecord => match payload, decided with | [_], rfl => exact h.recordRead _
  | readCoupling => match payload, decided with | [_], rfl => exact h.same rfl
  | clearCoupling => match payload, decided with | [], rfl => exact h.same rfl

theorem takeFrame (kind header : Byte) (payload : List Byte) (check : Byte) :
    HoldsSound (s.takeFrame kind header payload check) := by
  have after : HoldsSound { s with rx := .afterFrame } := h.same rfl
  refine ite (fun _ => h.same rfl) fun _ => ite (fun _ => ?_) fun _ => h.same rfl
  rcases State.accept_cases { s with rx := .afterFrame } kind (header.extractLsb' 4 4) (header.extractLsb' 0 4) payload
    with e | e | e | ⟨k, f, -, decided, e⟩ | e <;> rw [e]
  · exact after
  · exact after.same rfl
  · exact after.same rfl
  · exact after.takeRequest (after.decideRequest decided)
  · exact after.takeCoordination _ _ _

theorem leaveQueue (place : TxPlace) : HoldsSound (s.leaveQueue place) := by
  cases place with
  | coordination | portNotice => exact h.same rfl
  | stationNotice => exact ite (fun _ => h.same rfl) fun _ => h
  | reply =>
    cases list : s.replyList with
    | nil => rw [State.leaveQueue_reply_nil list]; exact h
    | cons r rest => rw [State.leaveQueue_reply_cons list]; exact h.same rfl

theorem collide (f : TxFrame) : HoldsSound (s.collide f) :=
  have stopped : HoldsSound s.collided := h.same rfl
  ite (fun _ => (stopped.leaveQueue f.place).same rfl) fun _ => stopped

end HoldsSound

/-! ## The forms of a command -/

/-- Where the outcome is a state, its lanes agree with their states. -/
def HoldsAfter (o : Host.Outcome State Fault Refusal) : Prop := ∀ t, o = .next t → HoldsSound t

namespace HoldsAfter

variable {s : State} (h : HoldsSound s)
include h

theorem perform {f : State → State} (k : HoldsSound (f s)) : HoldsAfter (s.perform f) := by
  intro t ran
  unfold State.perform at ran
  split at ran <;> cases ran
  · exact h
  · exact k.settle

theorem tapEvent {p : Port} {f : State → State} (k : HoldsSound (f s)) : HoldsAfter (s.tapEvent p f) :=
  perform h (.ite (fun _ => k) fun _ => h)

theorem request {f : State → State} (k : HoldsSound (f s)) : HoldsAfter (s.perform fun t => t.takeRequest f) :=
  perform h (h.takeRequest k)

theorem plainPulse (p : Port) : HoldsAfter (execPlainPulse p s) := by
  refine tapEvent h (.ite (fun _ => .ite (fun _ => ?_) fun _ => ?_) fun _ => h)
  · exact (h.modifyLane p (f := fun l => { l with pulseCount := 0, lastPulse := none }) fun _ => rfl).legacyDetected p
  · exact h.setLane ((h p).of_eq rfl)

theorem captureDone (p : Port) (tag : Byte) (data : Capture) : HoldsAfter (execCaptureDone p tag data s) := by
  have ignored : HoldsAfter (s.perform id) := perform h h
  unfold execCaptureDone
  split
  next => exact ignored
  next =>
    split
    next => exact ignored
    next e _ =>
      split
      case h_1 => exact perform h (h.shotCompleted e p _)
      case h_2 => exact perform h (((h.closeCapture p).modifyEngine e _).afterCalShot e)
      case h_3 => exact perform h (h.modifyEngine e _)
      case h_10 | h_11 | h_12 => exact ignored
      all_goals exact fun _ stopped => nomatch stopped

theorem collisionError : HoldsAfter (execCollisionError s) := by
  refine perform h ?_
  split
  · exact h.collide _
  · exact h

theorem frameSent : HoldsAfter (execFrameSent s) := by
  refine perform h ?_
  split
  · exact (h.leaveQueue _).same rfl
  · exact h

theorem burst (p : Port) (offer : GradeSet) (ack fault : Bool) : HoldsAfter (execBurst p offer ack fault s) := by
  refine tapEvent h ?_
  split
  next => exact h.firstWord p offer fault
  next state => exact h.nextWord state offer ack fault
  all_goals exact h

theorem trainFault (p : Port) (kind : TrainFaultKind) (q : Pair) : HoldsAfter (execTrainFault p kind q s) := by
  refine tapEvent h ?_
  split
  · exact .ite (fun _ => (h.opened p).failLane _ _) fun _ => h
  · exact h

theorem settleExpiry (e : EngineId) : HoldsAfter (execSettleExpiry e s) := by
  refine perform h (.ite (fun _ => ?_) fun _ => h)
  split
  · exact h.settled e _
  · exact h.modifyEngine e _

theorem preparePass (e : EngineId) : HoldsAfter (execPreparePass e s) := by
  refine perform h (.ite (fun _ => ?_) fun _ => h)
  split
  · exact (h.postCoord _ _).modifyEngine e _
  · exact h

theorem analysisEnd (e : EngineId) : HoldsAfter (execAnalysisEnd e s) := by
  refine perform h (.ite (fun _ => ?_) fun _ => h)
  simp only
  split
  · exact (h.modifyEngine e _).endAnalysis e _ _
  · exact h.modifyEngine e _

end HoldsAfter

/-! ## The resets (R35, R36) -/

theorem State.powerOnValues_holdsSound (s : State) (station : Station) (twelve aut : Bool) :
    HoldsSound (s.powerOnValues station twelve aut) := fun p => by
  rw [State.powerOnValues_lane]
  exact Lane.powerOn_holdSound

theorem execResetAssert_holdsSound (s : State) : HoldsAfter (execResetAssert s) := by
  rintro _ ⟨⟩
  exact (s.powerOnValues_holdsSound s.station s.twelvePorts s.autostart).same rfl

theorem execResetRelease_holdsSound (s : State) (sta : BitVec 3) (pcs aut : Bool) :
    HoldsAfter (execResetRelease sta pcs aut s) := by
  rintro _ ⟨⟩
  let u := s.powerOnValues (strapStation sta) pcs aut
  have listed : HoldsSound { u with calList := u.presentPorts } :=
    (s.powerOnValues_holdsSound (strapStation sta) pcs aut).same rfl
  exact (listed.takeCalibration 0).takeCalibration 1

/-! ## Every command -/

/-- Every command keeps what each lane holds in agreement with its state. -/
theorem exec_holdsSound (c : Instr) {s : State} (h : HoldsSound s) : HoldsAfter (exec c s) := by
  cases c <;> rw [exec]
  case resetAssert => exact execResetAssert_holdsSound s
  case resetRelease => exact execResetRelease_holdsSound s _ _ _
  case minuteAdvance => exact .perform h (.ite (fun _ => h.advanceMinute) fun _ => h)
  case frameReceived => exact .perform h (.ite (fun _ => h.takeFrame _ _ _ _) fun _ => h)
  case frameBreak | frameLengthOverflow | trailingCell | lineIdle | newFrame | arbitrationLost =>
    exact .perform h (.ite (fun _ => h.same rfl) fun _ => h)
  case collisionError => exact .collisionError h
  case frameSent => exact .frameSent h
  case stationReset => exact .request h h.stationReset
  case enable | disable | retrain | unpark => exact .request h (h.laneControl _ _)
  case sweep => exact .request h (h.sweepRequest _ _ _ _)
  case cancelSweep => exact .request h (h.cancelRequest _)
  case setProfile => exact .request h (h.profileRequest _)
  case setGuard => exact .request h (h.guardRequest _)
  case setSurvey => exact .request h (h.surveyRequest _ _)
  case queryStation | readCoupling | clearCoupling => exact .request h (h.same rfl)
  case queryPort => exact .request h (h.portQuery _)
  case readRecord => exact .request h (h.recordRead _)
  case quietAsk => exact .perform h (h.quietAskFrom _ _ _)
  case quietEnd => exact .perform h (h.quietEndFrom _ _)
  case sweepStart => exact .perform h (h.sweepStartFrom _ _ _)
  case sweepEnd => exact .perform h (h.sweepEndFrom _ _)
  case couplingSeen => exact .perform h (h.couplingSeenFrom _ _ _ _)
  case energyOn p => exact .tapEvent h (.ite (fun _ => h) fun _ => h.energyRises p)
  case energyOff p => exact .tapEvent h (.ite (fun _ => h.energyFalls p) fun _ => h)
  case burst p offer ack fault => exact .burst h p offer ack fault
  case plainPulse p => exact .plainPulse h p
  case trainProgress p _ => exact .tapEvent h (.ite (fun _ => h.enterUp p) fun _ => h)
  case trainFault p kind q => exact .trainFault h p kind q
  case linkLost p => exact .tapEvent h (.ite (fun _ => h.loseLink p) fun _ => h)
  case powerDetectBegin p =>
    have noted := h.modifyLane p (f := fun l => { l with power := true }) fun _ => rfl
    exact .tapEvent h (.ite (fun _ => h) fun _ => (noted.addReason p (by decide)).suspendOn p false)
  case powerDetectEnd p =>
    have noted := h.modifyLane p (f := fun l => { l with power := false }) fun _ => rfl
    exact .tapEvent h (.ite (fun _ => noted.dropReason p (by decide)) fun _ => h)
  case captureDone p tag data => exact .captureDone h p tag data
  case captureTimeout p => exact .tapEvent h (.ite (fun _ => h.shotFailed p) fun _ => h)
  case calibrationResult e =>
    exact .perform h (.ite (fun _ => .ite (fun _ => ((h.finishCalibration 0).finishCalibration 1).startupEnd) fun _ =>
      (h.finishCalibration e).startupEnd) fun _ => h)
  case negWindowExpiry p | trainWindowExpiry p => exact .tapEvent h (.ite (fun _ => (h.opened p).failLane _ _) fun _ => h)
  case backoffExpiry p => exact .tapEvent h (.ite (fun _ => (h.opened p).enterAdvertise false) fun _ => h)
  case quietRecordExpiry p _ _ => exact .tapEvent h (.ite (fun _ => h.quietEndLane p _ _) fun _ => h)
  case settleExpiry e => exact .settleExpiry h e
  case retryWaitExpiry e => exact .perform h (.ite (fun _ => h.modifyEngine e _) fun _ => h)
  case preparePass e => exact .preparePass h e
  case analysisEnd e => exact .analysisEnd h e
  case listenJobEnd e => exact .perform h (.ite (fun _ => h.endListenJob e) fun _ => h)
  case holdoffExpiry p => exact .tapEvent h (.ite (fun _ => h.expireHoldoff p) fun _ => h)
  case surveyExpiry => exact .perform h (.ite (fun _ => h.expireSurvey) fun _ => h)

end Sys2Proof.Machine
end

section
/-! The statement on what every step keeps of hold set and quiet-hold list. -/

open Sys2Proof Sys2Proof.Machine

/-- Settles O9: every operation keeps hold sets and quiet-hold lists in agreement with the lane states (`HoldsSound`); between two
states of one lane the agreement is open at its port alone (`HoldsOpen`). -/
theorem stepKeepsHolds : Obligations.StepKeepsHolds := by
  intro s t sound next
  rw [State.allLanes_holdSound] at sound ⊢
  rcases step_cases next with ⟨c, pending, free, ran⟩ | rfl | rfl
  · have moved : HoldsSound { s with pending := pending, freeCount := free } := sound.same rfl
    exact exec_holdsSound c moved t ran
  · exact sound
  · exact sound.same rfl

end

section
/-! SUPPORT. The lane timers (R71, R75, R77, R91) and LINK_LOST (R58, R85, R180), where they are taken. -/

namespace Sys2Proof.Machine

/-! ## Lane timers (R91) -/

section Timers

variable {s : State} {p : Port} {k : LaneTimer}

/-- An expiry is taken where the lane runs that timer and it ends now. -/
theorem State.tapEvent_expiry (hears : s.hears p = true) (f : State → State) :
    (s.tapEvent p fun t => if t.laneTimerDue p k then f t else t) =
      .next (if (s.lane p).timer = some (k, s.ms) then f s else s).settle := by
  rw [State.tapEvent_taken _ hears]
  exact State.next_settle (if_congr decide_eq_true_iff rfl rfl)

theorem exec_negWindowExpiry (hears : s.hears p = true) : exec (.negWindowExpiry p) s =
    .next (if (s.lane p).timer = some (.negotiate, s.ms) then s.fails p .negTimeout (s.lane p).energy else s).settle := by
  rw [exec, execNegWindowExpiry, State.tapEvent_expiry hears fun t => t.failLane p .negTimeout (t.lane p).energy,
    State.failLane_eq]

theorem exec_trainWindowExpiry (hears : s.hears p = true) : exec (.trainWindowExpiry p) s =
    .next (if (s.lane p).timer = some (.train, s.ms) then s.fails p .trainTimeout true else s).settle := by
  rw [exec, execTrainWindowExpiry, State.tapEvent_expiry hears fun t => t.failLane p .trainTimeout true, State.failLane_eq]

theorem exec_backoffExpiry (hears : s.hears p = true) : exec (.backoffExpiry p) s =
    .next (if (s.lane p).timer = some (.backoff, s.ms)
      then s.advertises p ((s.lane p).dueTransfer (s.record p).allowed) else s).settle := by
  rw [exec, execBackoffExpiry, State.tapEvent_expiry hears fun t => t.enterAdvertise p false, State.enterAdvertise_due]

end Timers

/-! ## The lane as it leaves UP (R85) -/

section LinkLost

variable {s : State} {p : Port}

/-- The lane of a lost link: POWER carried, its transfer owed (R66, R85). -/
def State.owingLane (s : State) (p : Port) : Lane := { (s.droppedLink p).lane p with transferOwed := true }

/-- LINK_DOWN is posted, POWER carried, and the holdoff runs where auto sweep is set (R85, R180). -/
def State.lostLink (s : State) (p : Port) : State :=
  if (s.lane p).active.autoSweep then (s.droppedLink p).setHoldoff p (some (s.ms + 5000)) else s.droppedLink p

theorem State.lostLink_record (s : State) (p : Port) : (s.lostLink p).record p = s.record p := by
  unfold State.lostLink
  split <;> rfl

theorem Lane.dueTransfer_owed {l : Lane} (owed : l.transferOwed = true) (allowed : GradeSet) :
    l.dueTransfer allowed = l.atTransferPoint allowed := if_pos owed

/-- What coming to rest clears, the grade among it, has no part in an entry into ADVERTISE. -/
theorem State.advertises_of_rest {l m : Lane} (same : l.rest .held = m.rest .held) (allowed : GradeSet) :
    s.advertises p (l.dueTransfer allowed) = s.advertises p (m.dueTransfer allowed) := by
  rw [← State.advertises_rest s p (l.dueTransfer allowed) .held, ← Lane.rest_dueTransfer, same, Lane.rest_dueTransfer,
    State.advertises_rest]

/-- What every loss does comes first, the grade cleared; then the time spent in UP decides (R85). -/
theorem State.loseLink_down (s : State) (p : Port) : s.loseLink p =
    let t := (s.lostLink p).setLane p { s.owingLane p with grade := none }
    let spent := timeBetween (s.lane p).upStart s.ms
    if spent < 2000 then t.failLane p .lostEarly true
    else if spent < 60000 then t.enterAdvertise p false
    else (t.modifyLane p fun x => x.restoreCeiling (t.record p).allowed).enterAdvertise p false := by
  unfold State.loseLink State.lostLink
  simp only
  cases (s.lane p).active.autoSweep <;> rfl

/-- A lost link, by the time spent in UP (R85). -/
theorem State.loseLink_eq (s : State) (p : Port) : s.loseLink p =
    let spent := timeBetween (s.lane p).upStart s.ms
    let allowed := (s.record p).allowed
    if spent < 2000 then ((s.lostLink p).setLane p (s.owingLane p)).fails p .lostEarly true
    else if spent < 60000 then (s.lostLink p).advertises p ((s.owingLane p).atTransferPoint allowed)
    else (s.lostLink p).advertises p (((s.owingLane p).restored allowed).atTransferPoint allowed) := by
  let down : Lane := { s.owingLane p with grade := none }
  let t := s.lostLink p
  have record (l : Lane) : (t.setLane p l).record p = s.record p := s.lostLink_record p
  have fails : (t.setLane p down).failLane p .lostEarly true = (t.setLane p (s.owingLane p)).fails p .lostEarly true := by
    have failed := State.setLane_failLane_of_rest (s := t.setLane p (s.owingLane p)) (p := p) (m := down)
      (by rw [State.lane_setLane_same]; rfl) .lostEarly true
    rwa [State.setLane_setLane] at failed
  rw [State.loseLink_down]
  refine if_congr Iff.rfl fails (if_congr Iff.rfl ?_ ?_)
  · rw [State.setLane_enterAdvertise_due, s.lostLink_record p]
    have owed : (s.owingLane p).transferOwed = true := rfl
    rw [← Lane.dueTransfer_owed owed]
    exact State.advertises_of_rest (l := down) (m := s.owingLane p) rfl _
  · rw [State.setLane_modifyLane, State.setLane_enterAdvertise_due, record, Lane.restoreCeiling_eq, s.lostLink_record p]
    have owed : ((s.owingLane p).restored (s.record p).allowed).transferOwed = true := rfl
    rw [← Lane.dueTransfer_owed owed]
    exact State.advertises_of_rest (l := down.restored (s.record p).allowed) (m := (s.owingLane p).restored (s.record p).allowed) rfl _

theorem exec_linkLost (hears : s.hears p = true) : exec (.linkLost p) s =
    .next (if (s.lane p).state = .up then s.loseLink p else s).settle := by
  rw [exec, execLinkLost, State.tapEvent_taken _ hears]

end LinkLost

end Sys2Proof.Machine
end

section
/-! The statements on failures, lane timers, lost links and the entry into ADVERTISE. -/

open Sys2Proof Sys2Proof.Machine

/-- Settles O44, by the failure's order (`State.failLane_eq`). -/
theorem failureHandling : Obligations.FailureHandling := State.failLane_eq

/-- Settles O42: the flat entry of `State.enterAdvertise_eq`, with its transfer where the entry is a transfer point or owes one. -/
theorem advertiseEntry : Obligations.AdvertiseEntry := by
  intro s p transferPoint
  rw [State.enterAdvertise_eq, Lane.transferAt, Lane.transfer_eq]
  exact congrArg (s.advertises p) (if_congr (by rw [Bool.or_eq_true]) rfl rfl)

/-- Settles O51: each expiry is taken exactly where its timer is the lane's and ends now. -/
theorem laneTimers : Obligations.LaneTimers := by
  intro s p hears l
  have negotiate := exec_negWindowExpiry hears
  have train := exec_trainWindowExpiry hears
  have backoff := exec_backoffExpiry hears
  exact ⟨fun due => negotiate.trans (State.next_settle (if_pos due)), fun idle => negotiate.trans (State.next_settle (if_neg idle)),
    fun due => train.trans (State.next_settle (if_pos due)), fun idle => train.trans (State.next_settle (if_neg idle)),
    fun due => backoff.trans (State.next_settle (if_pos due)), fun idle => backoff.trans (State.next_settle (if_neg idle))⟩

/-- Settles O52: what every loss does is `State.lostLink` and `State.owingLane`; the time in UP decides among the three rows. -/
theorem linkLost : Obligations.LinkLost := by
  intro s p hears l allowed dropped t owing spent
  have lost (up : l.state = .up) : exec (.linkLost p) s = .next (s.loseLink p).settle :=
    (exec_linkLost hears).trans (State.next_settle (if_pos up))
  refine ⟨fun other => (exec_linkLost hears).trans (State.next_settle (if_neg other)), fun up early => ?_,
    fun up late early => ?_, fun up late => ?_⟩
  all_goals
    rw [lost up, State.loseLink_eq]
    refine State.next_settle ?_
  · exact if_pos early
  · exact (if_neg (not_lt.2 late)).trans (if_pos early)
  · exact (if_neg (not_lt.2 (le_trans (by decide) late))).trans (if_neg (not_lt.2 late))

end

section
/-! SUPPORT. LANE_CONTROL and CANCEL_SWEEP where they are decided (R86 to R89, R114 to R116). -/

namespace Sys2Proof.Machine

section Control

variable {s : State} {p : Port} {b : Byte}

/-! ## ENABLE and DISABLE (R86, R87) -/

theorem State.transferAndRestore_advertises (s : State) (p : Port) :
    (s.transferAndRestore p).enterAdvertise p true =
      s.advertises p ((s.lane p).transferred.restored (s.record p).allowed) := by
  have record (l : Lane) : (s.setLane p l).record p = s.record p := rfl
  rw [State.transferAndRestore_eq, State.enterAdvertise_transfer, State.lane_setLane_same, State.setLane_advertises, record,
    Lane.transferred_atTransferPoint]

theorem State.enableLane_eq (s : State) (p : Port) : s.enableLane p =
    if (s.lane p).state = .disabled then s.advertises p ((s.lane p).transferred.restored (s.record p).allowed) else s := by
  rw [State.enableLane, State.transferAndRestore_advertises]

theorem State.disableLane_disabled (state : (s.lane p).state = .disabled) :
    s.disableLane p = s.setLane p (s.lane p).clearQuiet := by
  have down : (s.lane p).state ≠ .up := by rw [state]; nofun
  unfold State.disableLane
  simp only [if_neg down, if_pos state]
  rfl

theorem State.disableLane_other (awake : (s.lane p).state ≠ .disabled) (down : (s.lane p).state ≠ .up) :
    s.disableLane p = s.rests p (s.lane p).clearQuiet .disabled := by
  unfold State.disableLane
  simp only [if_neg down, if_neg awake]
  exact State.setLane_restIn ..

theorem State.disableLane_up (up : (s.lane p).state = .up) : s.disableLane p =
    (s.droppedLink p).rests p (s.owingLane p).clearQuiet .disabled := by
  have awake : (s.lane p).state ≠ .disabled := by rw [up]; nofun
  unfold State.disableLane
  simp only [if_pos up, if_neg awake, State.leaveUp_eq]
  have owing : (s.droppedLink p).modifyLane p (fun l => { l with transferOwed := true }) =
      (s.droppedLink p).setLane p (s.owingLane p) := rfl
  rw [owing, State.setLane_modifyLane, State.enterDisabled, State.setLane_restIn]

/-! ## RETRAIN (R88) -/

theorem State.retrainLane_busy (running : s.sweepRunning p = true) : s.retrainLane p = (s, .refused .portBusy) := if_pos running

theorem State.retrainLane_guarded (idle : s.sweepRunning p = false) (up : (s.lane p).state = .up)
    (guarded : inPortSet s.guards p = true) : s.retrainLane p = (s, .refused .guarded) :=
  (if_neg (by rw [idle]; nofun)).trans (if_pos ⟨up, guarded⟩)

theorem State.retrainLane_up (idle : s.sweepRunning p = false) (up : (s.lane p).state = .up)
    (free : inPortSet s.guards p = false) : s.retrainLane p =
      ((s.droppedLink p).advertises p (((s.droppedLink p).lane p).transferred.restored (s.record p).allowed),
        .accepted .done) := by
  have allowed : ¬((s.lane p).state = .up ∧ inPortSet s.guards p = true) := by rw [free]; exact fun both => nomatch both.2
  have carried : s.carryOutRetrain p =
      (s.droppedLink p).advertises p (((s.droppedLink p).lane p).transferred.restored (s.record p).allowed) := by
    unfold State.carryOutRetrain
    simp only [if_pos up, State.leaveUp_eq]
    exact State.transferAndRestore_advertises ..
  rw [State.retrainLane, if_neg (by rw [idle]; nofun), if_neg allowed, carried]

theorem State.retrainLane_down (idle : s.sweepRunning p = false) (down : (s.lane p).state ≠ .up) : s.retrainLane p =
    (s.advertises p ((s.lane p).transferred.restored (s.record p).allowed), .accepted .done) := by
  have carried : s.carryOutRetrain p = s.advertises p ((s.lane p).transferred.restored (s.record p).allowed) := by
    unfold State.carryOutRetrain
    simp only [if_neg down]
    exact State.transferAndRestore_advertises ..
  rw [State.retrainLane, if_neg (by rw [idle]; nofun), if_neg fun both => down both.1, carried]

/-! ## The commands -/

theorem State.laneControl_present (named : b.toNat = p.val + 1) (here : s.present p = true) :
    s.laneControl b 1 = (s.enableLane p).reply (acceptedReply 0x02 4) ∧
    s.laneControl b 2 = (s.disableLane p).reply (acceptedReply 0x02 4) ∧
    s.laneControl b 3 = State.conclude .laneControl (s.retrainLane p) ∧
    s.laneControl b 4 = State.conclude .laneControl (s.unparkLane p) := by
  unfold State.laneControl
  simp only [State.withPort_present named here]
  exact ⟨rfl, rfl, rfl, rfl⟩

end Control

/-! ## CANCEL_SWEEP (R114 to R116) -/

section Cancel

variable {s t : State} {p : Port} {e : EngineId}

/-- What a post writes depends on the line's own state alone (R11). -/
theorem State.postCoord_of_line (list : t.coordList = s.coordList) (tx : t.tx = s.tx) (opened : t.lastOpened = s.lastOpened)
    (f : Frame) (d : Option EngineId) : t.postCoord f d =
      { t with coordList := (s.postCoord f d).coordList, lastOpened := (s.postCoord f d).lastOpened } := by
  have head : t.coordHeadOpen = s.coordHeadOpen := by rw [State.coordHeadOpen, State.coordHeadOpen, tx]
  have evicts : t.evictSeen = s.evictSeen := by rw [State.evictSeen, State.evictSeen, head, list]
  have evicted : t.headEvicted = s.headEvicted := by rw [State.headEvicted, State.headEvicted, head, list]
  unfold State.postCoord
  rw [list, evicts, evicted, opened]
  split
  · rw [← opened]
  · split
    · rw [← list, ← opened]
    · split
      · rw [← list, ← opened]
      · rfl

/-- An engine's end of a sweep, up to the removal of the entry, leaves the queue alone and does not read it. -/
theorem State.freed_queue (s : State) (e : EngineId) (p : Port) (q : List Entry) :
    ((({ s with queue := q } : State).endAnnounced e p).releasePort e p).setEngine e .idle =
      { ((s.endAnnounced e p).releasePort e p).setEngine e .idle with queue := q } := by
  have announced : ({ s with queue := q } : State).endAnnounced e p = { s.endAnnounced e p with queue := q } := by
    have posts (f : Frame) : ({ s with queue := q } : State).postCoord f (some e) =
        { s.postCoord f (some e) with queue := q } := by
      rw [State.postCoord_of_line (s := s) (t := { s with queue := q }) rfl rfl rfl,
        State.postCoord_of_line (s := s) (t := s) rfl rfl rfl]
    have same : ({ s with queue := q } : State).engine e = s.engine e := rfl
    unfold State.endAnnounced
    rw [same]
    cases (s.engine e).announcement with
    | none => rfl
    | asked | started => exact posts _
  rw [announced]
  by_cases held : ((s.endAnnounced e p).lane p).holder = .engine e
  · have released : (s.endAnnounced e p).releasePort e p = (s.endAnnounced e p).modifyLane p Lane.release := if_pos held
    rw [released, State.releasePort, if_pos (show (({ s.endAnnounced e p with queue := q } : State).lane p).holder = _ from held)]
    rfl
  · have kept : (s.endAnnounced e p).releasePort e p = s.endAnnounced e p := if_neg held
    rw [kept, State.releasePort, if_neg (show ¬(({ s.endAnnounced e p with queue := q } : State).lane p).holder = _ from held)]
    rfl

/-- The removal of an entry reads nothing of the queue but the other entries. -/
theorem State.entryGone_queue {q : List Entry} (others : (q.filter fun x => decide (x.port ≠ p)) =
    s.queue.filter fun x => decide (x.port ≠ p)) (flag : ChangeFlag) :
    ({ s with queue := q } : State).entryGone p flag = s.entryGone p flag := by
  unfold State.entryGone
  simp only [others]
  rfl

theorem filter_port_map {f : Entry → Entry} (port : ∀ x, (f x).port = x.port) (q : List Entry) :
    ((q.map fun x => if x.port = p then f x else x).filter fun x => decide (x.port ≠ p)) =
      q.filter fun x => decide (x.port ≠ p) := by
  induction q with
  | nil => rfl
  | cons x q ih => by_cases here : x.port = p <;> simpa [here, port] using ih

/-- An engine that prepares or shoots stops at once (R115). -/
theorem State.cancelStop_modifyEntry {f : Entry → Entry} (port : ∀ x, (f x).port = x.port) :
    (s.modifyEntry p f).cancelStop e p =
      (((s.endAnnounced e p).releasePort e p).setEngine e .idle).entryGone p .sweepEndedEarly := by
  let freed := ((s.endAnnounced e p).releasePort e p).setEngine e .idle
  obtain ⟨announced, -⟩ := s.endAnnounced_kept e p
  have queue : freed.queue = s.queue := ((Touches.releasePort (p := p) e).trans (.setEngine e .idle)).queue.trans announced
  rw [State.cancelStop, State.freeEngine_postEndFrame, State.removeEntry_eq, State.modifyEntry, State.freed_queue]
  refine State.entryGone_queue ?_ _
  rw [queue, filter_port_map port]

theorem State.cancelDecision_none (none_ : ∀ x ∈ s.queue, x.port ≠ p) : s.cancelDecision p = s := by
  rw [State.cancelDecision, State.entryOf_none.2 none_]

variable {x : Entry}

theorem State.cancelDecision_stands (entry : s.entryOf p = some x) (stands : x.state ≠ .running) :
    s.cancelDecision p = s.entryGone p .sweepEndedEarly := by
  rw [State.cancelDecision, entry]
  cases state : x.state with
  | running => exact absurd state stands
  | waiting | suspended => simp only [state]; exact State.removeEntry_eq s p .cancelled

theorem State.cancelDecision_pending (entry : s.entryOf p = some x) (running : x.state = .running)
    (pending : x.cancelPending = true) : s.cancelDecision p = s := by
  rw [State.cancelDecision, entry]
  cases bound : x.engine with
  | none => simp only [running, bound]
  | some e => simp only [running, bound, if_pos pending]

theorem State.cancelDecision_running (entry : s.entryOf p = some x) (running : x.state = .running)
    (fresh : x.cancelPending = false) (bound : x.engine = some e) : s.cancelDecision p =
      if (s.engine e).state = .preparing ∨ (s.engine e).state = .shooting then
        (((s.endAnnounced e p).releasePort e p).setEngine e .idle).entryGone p .sweepEndedEarly
      else { s with queue := s.queue.map fun y => if y.port = p then { y with cancelPending := true } else y } := by
  rw [State.cancelDecision, entry]
  simp only [running, bound, fresh, if_neg Bool.false_ne_true]
  exact if_congr Iff.rfl (State.cancelStop_modifyEntry fun _ => rfl) rfl

end Cancel

end Sys2Proof.Machine
end

section
/-! The statements on LANE_CONTROL and CANCEL_SWEEP. -/

open Sys2Proof Sys2Proof.Machine

/-- Settles O28: each action by the lane's state, in the form the statements write a lane that is written and enters a state. -/
theorem laneControl : Obligations.LaneControl := by
  intro s p b decides named here l allowed done emptied running
  obtain ⟨enables, disables, retrains, unparks⟩ := State.laneControl_present named here
  have enable : exec (.enable b) s = .next ((s.enableLane p).reply done).settle :=
    (State.request_decided _ decides).trans (State.next_settle enables)
  have disable : exec (.disable b) s = .next ((s.disableLane p).reply done).settle :=
    (State.request_decided _ decides).trans (State.next_settle disables)
  have retrain : exec (.retrain b) s = .next (State.conclude .laneControl (s.retrainLane p)).settle :=
    (State.request_decided _ decides).trans (State.next_settle retrains)
  have unpark : exec (.unpark b) s = .next (State.conclude .laneControl (s.unparkLane p)).settle :=
    (State.request_decided _ decides).trans (State.next_settle unparks)
  rw [State.enableLane_eq] at enable
  refine ⟨fun state => ?_, fun awake => ?_, fun state => ?_, fun awake down => ?_, fun up => ?_, fun nodup => ?_,
    fun parked => ?_, fun other => ?_⟩
  · rw [enable, if_pos state]
  · rw [enable, if_neg awake]
  · rw [disable, State.disableLane_disabled state]
    rfl
  · rw [disable, State.disableLane_other awake down]
    rfl
  · rw [disable, State.disableLane_up up]
    rfl
  · have sweeps : s.sweepRunning p = running := State.sweepRunning_eq nodup p
    refine ⟨fun busy => ?_, fun idle up guarded => ?_, fun idle up free => ?_, fun idle down => ?_⟩
    · rw [retrain, State.retrainLane_busy (sweeps.trans busy)]
      rfl
    · rw [retrain, State.retrainLane_guarded (sweeps.trans idle) up guarded]
      rfl
    · rw [retrain, State.retrainLane_up (sweeps.trans idle) up free]
      rfl
    · rw [retrain, State.retrainLane_down (sweeps.trans idle) down]
      rfl
  · rw [unpark, retrain, State.unparkLane, if_pos parked]
  · rw [unpark, State.unparkLane, if_neg other]
    rfl

/-- Settles O30: the entry found at the port and its engine's state decide; the mark of the cancellation goes with the entry where
the sweep ends at once. -/
theorem cancelSweep : Obligations.CancelSweep := by
  intro s p b decides named here nodup out done
  have decided : out = done (s.cancelDecision p) :=
    (State.request_decided _ decides).trans (State.next_settle (State.withPort_present named here))
  refine ⟨fun none_ => ?_, fun x member port => ?_⟩
  · rw [decided, State.cancelDecision_none none_]
  · have entry := State.entryOf_mem nodup member port
    refine ⟨fun stands => ?_, fun running pending => ?_, fun e running fresh bound => ?_⟩
    · rw [decided, State.cancelDecision_stands entry stands]
    · rw [decided, State.cancelDecision_pending entry running pending]
    · rw [decided, State.cancelDecision_running entry running fresh bound]
      refine ⟨fun busy => by rw [if_pos busy], fun analyses => by rw [if_neg]; rw [analyses]; decide⟩

end

section
/-! SUPPORT. The frames of peers where they are taken (R8, R164), and QUIET through them (R67, R68, R165 to R167). -/

namespace Sys2Proof.Machine

/-! ## The frame and its port (R164) -/

section Peer

variable {s : State} {st : Station} {b : Byte} {q : Port}

theorem State.coordinates_inReset (taken : s.coordinates = true) : s.inReset = false := by
  have both : s.inReset = false ∧ s.anyStarting = false := by simpa [State.coordinates] using taken
  exact both.1

theorem peerPort_named (named : b.toNat = q.val + 1) : peerPort b = some q := by
  have inRange : 1 ≤ b.toNat ∧ b.toNat ≤ 12 := by omega
  rw [peerPort, dif_pos inRange]
  exact congrArg some (Fin.ext (by simp [named]))

theorem peerPort_outside (outside : b = 0 ∨ 12 < b.toNat) : peerPort b = none := by
  refine dif_neg fun inRange => ?_
  rcases outside with zero | high
  · rw [zero] at inRange
    exact absurd inRange.1 (by decide)
  · omega

/-- A peer's frame about a port of the sweep, where it is taken. -/
theorem State.peer_named (taken : s.coordinates = true) (peer : s.isPeer st = true) (named : b.toNat = q.val + 1)
    (f : State → Port → State) :
    (s.perform fun t => t.fromPeer st fun u => u.withPeerPort b (f u)) = .next (f s q).settle := by
  rw [State.perform_taken _ (State.coordinates_inReset taken), State.fromPeer_taken _ taken peer, State.withPeerPort,
    peerPort_named named]

/-- A port outside 1-12 is ignored (R164). -/
theorem State.peer_outside (taken : s.coordinates = true) (peer : s.isPeer st = true) (outside : b = 0 ∨ 12 < b.toNat)
    (f : State → Port → State) :
    (s.perform fun t => t.fromPeer st fun u => u.withPeerPort b (f u)) = .next s.settle := by
  rw [State.perform_taken _ (State.coordinates_inReset taken), State.fromPeer_taken _ taken peer, State.withPeerPort,
    peerPort_outside outside]

end Peer

/-! ## The placement of an ask (R67; log 12) -/

section Earliest

variable {now : Ms} {x : QuietRecord}

theorem QuietRecord.key_eq_iff {a b : QuietRecord} : a.key = b.key ↔ a.asker = b.asker ∧ a.askerPort = b.askerPort :=
  Prod.mk.injEq .. ▸ Iff.rfl

theorem QuietRecord.before_iff {a b : QuietRecord} : a.before now b = true ↔
    a.left now < b.left now ∨ a.left now = b.left now ∧
      (a.asker.toNat < b.asker.toNat ∨ a.asker = b.asker ∧ a.askerPort < b.askerPort) := by
  unfold QuietRecord.before
  by_cases left : a.left now = b.left now
  · by_cases asker : a.asker = b.asker
    · simp [left, asker]
    · simp [left, asker]
  · simp [left]

theorem QuietRecord.before_asymm {a b : QuietRecord} (h : a.before now b = true) : ¬b.before now a = true := by
  rw [QuietRecord.before_iff] at h ⊢
  rcases h with left | ⟨left, asker | ⟨asker, port⟩⟩
  · rintro (other | ⟨other, -⟩)
    · exact left.asymm other
    · exact left.ne' other
  · rintro (other | ⟨-, other | ⟨other, -⟩⟩)
    · exact other.ne' left
    · exact asker.asymm other
    · exact asker.ne' (congrArg BitVec.toNat other)
  · rintro (other | ⟨-, other | ⟨-, other⟩⟩)
    · exact other.ne' left
    · exact other.ne' (congrArg BitVec.toNat asker)
    · exact port.asymm other

/-- The record that stands before every other of the list leaves first. -/
theorem earliestQuiet_eq {q : QuietRecord} {rest : List QuietRecord} (here : x ∈ q :: rest)
    (first : ∀ y ∈ q :: rest, y ≠ x → x.before now y = true) : earliestQuiet now q rest = x := by
  induction rest generalizing q with
  | nil => exact (List.mem_singleton.1 here).symm
  | cons y rest ih =>
    rw [earliestQuiet]
    have beforeOthers (z : QuietRecord) (among : z = q ∨ z = y) (w : QuietRecord) (there : w ∈ z :: rest) (other : w ≠ x) :
        x.before now w = true := by
      refine first w ?_ other
      rcases List.mem_cons.1 there with same | later
      · rcases among with isQ | isY
        · rw [same, isQ]; exact .head _
        · rw [same, isY]; exact .tail _ (.head _)
      · exact .tail _ (.tail _ later)
    split
    next replaces =>
      refine ih ?_ (beforeOthers y (.inr rfl))
      rcases List.mem_cons.1 here with isQ | later
      · by_cases same : y = x
        · rw [same]; exact .head _
        · rw [← isQ] at replaces
          exact absurd replaces (QuietRecord.before_asymm (first y (.tail _ (.head _)) same))
      · exact later
    next stays =>
      refine ih ?_ (beforeOthers q (.inl rfl))
      rcases List.mem_cons.1 here with isQ | later
      · rw [isQ]; exact .head _
      · rcases List.mem_cons.1 later with isY | there
        · by_cases same : q = x
          · rw [same]; exact .head _
          · rw [← isY] at stays
            exact absurd (first q (.head _) same) stays
        · exact .tail _ there

end Earliest

/-! ## An ask on every lane it selects (R165) -/

section Ask

variable {s : State} {st : Station} {q : Port}

theorem State.foldl_modifyLane_rest (f : Lane → Lane) (l : List Port) (s : State) :
    l.foldl (fun t p => t.modifyLane p f) s = { s with lanes := (l.foldl (fun t p => t.modifyLane p f) s).lanes } := by
  induction l generalizing s with
  | nil => rfl
  | cons p l ih => rw [List.foldl_cons, ih]; rfl

theorem State.foldl_quietAskLane (ask : QuietRecord) (l : List Port) (s : State) :
    l.foldl (fun t p => t.quietAskLane p ask) s = l.foldl (fun t p => t.modifyLane p (·.takesAsk s.ms ask)) s := by
  suffices h : ∀ t : State, t.ms = s.ms → l.foldl (fun t p => t.quietAskLane p ask) t =
      l.foldl (fun t p => t.modifyLane p (·.takesAsk s.ms ask)) t from h s rfl
  induction l with
  | nil => exact fun _ _ => rfl
  | cons p l ih =>
    intro t now
    rw [List.foldl_cons, List.foldl_cons, State.quietAskLane_eq, now]
    exact ih _ now

/-- The record that QUIET_ASK from (S, P) asks for: its hold units in 10 ms, at least one (R165). -/
def State.askOf (s : State) (st : Station) (q : Port) (units : Byte) : QuietRecord :=
  ⟨st, q, s.ms + BitVec.ofNat 48 ((if units = 0 then 1 else units.toNat) * 10)⟩

theorem State.takeQuietAsk_eq (s : State) (st : Station) (q : Port) (units : Byte) : s.takeQuietAsk st q units =
    (s.presentPorts.filter fun p => s.selects p st q).foldl
      (fun t p => t.modifyLane p (·.takesAsk s.ms (s.askOf st q units))) s := by
  have times : max 1 units.toNat = if units = 0 then 1 else units.toNat := by
    split
    next zero => rw [zero]; rfl
    next more =>
      have some_ : units.toNat ≠ 0 := fun zero => more (BitVec.eq_of_toNat_eq zero)
      omega
  rw [State.takeQuietAsk, ← State.foldl_quietAskLane, times]
  rfl

/-- Nothing but lanes is written, and each selected lane takes the ask. -/
theorem State.takeQuietAsk_writes (s : State) (st : Station) (q : Port) (units : Byte) :
    s.takeQuietAsk st q units = { s with lanes := (s.takeQuietAsk st q units).lanes } ∧
    ∀ p, (s.takeQuietAsk st q units).lane p =
      if s.present p = true ∧ s.selects p st q = true then (s.lane p).takesAsk s.ms (s.askOf st q units) else s.lane p := by
  rw [State.takeQuietAsk_eq]
  refine ⟨State.foldl_modifyLane_rest .., fun p => ?_⟩
  rw [State.lane_foldl_modifyLane _ (s.presentPorts_nodup.filter _)]
  simp

/-- The lanes an ask selects (R165). -/
theorem State.selects_iff {p : Port} : s.selects p st q = true ↔
    (s.lane p).active.honourQuiet = true ∧ (s.lane p).state ≠ .disabled ∧
      ∃ c ∈ s.coupling, c.localPort = p ∧ c.station = st ∧ c.remotePort = q ∧ 50 ≤ c.level := by
  have key (c : CouplingEntry) : (decide (c.key = ⟨p, st, q⟩) && decide (Config.selectLevel ≤ c.level)) = true ↔
      c.localPort = p ∧ c.station = st ∧ c.remotePort = q ∧ 50 ≤ c.level := by
    rw [Bool.and_eq_true, decide_eq_true_iff, decide_eq_true_iff, CouplingEntry.key, CouplingKey.mk.injEq, and_assoc, and_assoc]
    rfl
  simp only [State.selects, Bool.and_eq_true, List.any_eq_true, key, decide_eq_true_eq]
  tauto

theorem Lane.takesAsk_known {l : Lane} {now : Ms} {ask : QuietRecord} (some_ : l.quiet ≠ []) :
    l.takesAsk now ask = { l with quiet := placeQuiet now l.quiet ask } := if_neg some_

theorem Lane.takesAsk_first {l : Lane} {now : Ms} {ask : QuietRecord} (none_ : l.quiet = []) (absent : l.hold.quiet = false) :
    let recorded : Lane := { l with quiet := placeQuiet now l.quiet ask, hold := { l.hold with quiet := true } }
    l.takesAsk now ask = if l.state = .advertise ∨ l.state = .backoff then recorded.toHeld else recorded := by
  intro recorded
  have fresh : ¬({ l with quiet := placeQuiet now l.quiet ask } : Lane).hold.has .quiet = true := by
    show ¬l.hold.quiet = true
    rw [absent]
    nofun
  exact (if_pos none_).trans (if_neg fresh)

end Ask

/-! ## Listen jobs are only ever left (R171) -/

/-- Every listen job of t is one of s, by its engine and its key. -/
def JobsFrom (s t : State) : Prop :=
  ∀ e i, (t.engine e).job = some i → ∃ j, (s.engine e).job = some j ∧ j.station = i.station ∧ j.port = i.port

namespace JobsFrom

variable {s t u : State}

theorem refl (s : State) : JobsFrom s s := fun _ i job => ⟨i, job, rfl, rfl⟩

theorem trans (a : JobsFrom s t) (b : JobsFrom t u) : JobsFrom s u := fun e i job => by
  obtain ⟨j, before, station, port⟩ := b e i job
  obtain ⟨k, first, station', port'⟩ := a e j before
  exact ⟨k, first, station'.trans station, port'.trans port⟩

theorem same (engines : t.engines = s.engines) : JobsFrom s t := fun e i job =>
  ⟨i, State.engine_of_engines engines e ▸ job, rfl, rfl⟩

theorem of_engine (kept : ∀ e, t.engine e = s.engine e ∨ (t.engine e).job = none ∨ ∃ p, t.engine e = (s.engine e).without p) :
    JobsFrom s t := by
  intro e i job
  rcases kept e with same | none_ | ⟨p, dropped⟩
  · exact ⟨i, same ▸ job, rfl, rfl⟩
  · exact nomatch none_.symm.trans job
  · rw [dropped] at job
    unfold Engine.without at job
    cases before : (s.engine e).job with
    | none => rw [before] at job; exact nomatch before.symm.trans job
    | some j =>
      simp only [before] at job
      split at job
      · exact nomatch job
      · cases job
        exact ⟨j, rfl, rfl, rfl⟩

theorem lane {g : Prop} {p : Port} (a : LaneOp g p s t) : JobsFrom s t :=
  of_engine fun e => (a.engine e).imp_right fun dropped => .inr ⟨p, dropped.2.2⟩

theorem setEngine (e : EngineId) {g : Engine} (none_ : g.job = none) : JobsFrom s (s.setEngine e g) := of_engine fun d => by
  by_cases here : d = e
  · subst here
    exact .inr (.inl (by rw [State.engine_setEngine_same]; exact none_))
  · exact .inl (State.engine_setEngine_ne _ _ _ _ here)

theorem foldl {α : Type} {f : State → α → State} (k : ∀ t x, JobsFrom t (f t x)) (l : List α) (s : State) :
    JobsFrom s (l.foldl f s) := by
  induction l generalizing s with
  | nil => exact refl s
  | cons x l ih => exact (k s x).trans (ih (f s x))

theorem endQuiet (st : Station) (q : Port) : JobsFrom s (s.endQuiet st q) :=
  foldl (fun _ _ => lane (LaneKept.quietEndLane (g := True) st q).toLaneOp) _ s

end JobsFrom

section Listens

variable {s t : State} {e : EngineId} {st : Station} {q : Port}

theorem State.listensFor_iff : s.listensFor e st q = true ↔ ∃ j, (s.engine e).job = some j ∧ j.station = st ∧ j.port = q := by
  unfold State.listensFor
  cases (s.engine e).job <;> simp

theorem State.endJobOf_other (none_ : ¬∃ j, (s.engine e).job = some j ∧ j.station = st ∧ j.port = q) :
    s.endJobOf e st q = s := if_neg fun listens => none_ (State.listensFor_iff.1 listens)

/-- A job of the key that has not been left since is ended. -/
theorem State.endJobOf_key (from_ : JobsFrom s t) (key : ∃ j, (s.engine e).job = some j ∧ j.station = st ∧ j.port = q) :
    t.endJobOf e st q = t.endListenJob e := by
  obtain ⟨j, before, station, port⟩ := key
  cases job : (t.engine e).job with
  | none =>
    rw [State.endListenJob, job]
    exact State.endJobOf_other fun ⟨i, still, _⟩ => nomatch job.symm.trans still
  | some i =>
    obtain ⟨k, same, station', port'⟩ := from_ e i job
    cases before.symm.trans same
    exact if_pos (State.listensFor_iff.2 ⟨i, job, station'.symm.trans station, port'.symm.trans port⟩)

theorem JobsFrom.key (from_ : JobsFrom s t) (key : ∃ j, (t.engine e).job = some j ∧ j.station = st ∧ j.port = q) :
    ∃ j, (s.engine e).job = some j ∧ j.station = st ∧ j.port = q := by
  obtain ⟨i, job, station, port⟩ := key
  obtain ⟨j, before, station', port'⟩ := from_ e i job
  exact ⟨j, before, station'.trans station, port'.trans port⟩

end Listens

/-! ## The ends of quiet holds (R68, R166, R167) -/

section Ends

variable {s : State} {p : Port} {st : Station} {q : Port}

/-- The end frame reaches every present lane (R166). -/
theorem State.endQuiet_eq (s : State) (st : Station) (q : Port) :
    s.endQuiet st q = (allPorts.filter s.present).foldl (fun (t : State) p => t.losesQuiet p st q) s := by
  unfold State.endQuiet
  simp only [State.quietEndLane_eq]
  rfl

theorem State.takeSweepEnd_free (free : ∀ e j, (s.engine e).job = some j → ¬(j.station = st ∧ j.port = q)) :
    s.takeSweepEnd st q = s.endQuiet st q := by
  have none_ (e : EngineId) : ¬∃ j, ((s.endQuiet st q).engine e).job = some j ∧ j.station = st ∧ j.port = q := fun key => by
    obtain ⟨j, job, same⟩ := (JobsFrom.endQuiet st q).key key
    exact free e j job same
  rw [State.takeSweepEnd, State.endJobOf_other (none_ 0), State.endJobOf_other (none_ 1)]

theorem State.quietDue_iff : s.quietDue p st q = true ↔
    ∃ x ∈ (s.lane p).quiet, x.asker = st ∧ x.askerPort = q ∧ x.expiry = s.ms := by
  simp [State.quietDue, QuietRecord.hasKey_iff, and_assoc]

theorem exec_quietRecordExpiry (hears : s.hears p = true) : exec (.quietRecordExpiry p st q) s =
    .next (if s.quietDue p st q then s.losesQuiet p st q else s).settle := by
  rw [exec, execQuietRecordExpiry, State.tapEvent_taken _ hears, State.quietEndLane_eq]

end Ends

end Sys2Proof.Machine
end

section
/-! The statements on QUIET_ASK and on the ends of quiet holds. -/

open Sys2Proof Sys2Proof.Machine

/-- Settles O37: an ask is a write of each selected lane (`Lane.takesAsk`), and its placement goes by the three branches of
`placeQuiet`, the last with the record that stands before every other. -/
theorem quietAsk : Obligations.QuietAsk := by
  refine ⟨fun s st b units taken peer => ⟨fun outside => ?_, fun q named => ⟨s.takeQuietAsk st q units, ?_⟩⟩,
    fun now list ask => ⟨fun known => ?_, fun fresh room => ?_, fun x here fresh full first => ?_⟩⟩
  · exact State.peer_outside taken peer outside fun t p => t.takeQuietAsk st p units
  · refine ⟨State.peer_named taken peer named fun t p => t.takeQuietAsk st p units, ?_⟩
    obtain ⟨rest, lane⟩ := s.takeQuietAsk_writes st q units
    refine ⟨rest, fun p => ?_⟩
    intro l selected list recorded held
    have selects : selected ↔ s.present p = true ∧ s.selects p st q = true := by rw [State.selects_iff]
    have takes (h : selected) : (s.takeQuietAsk st q units).lane p = l.takesAsk s.ms (s.askOf st q units) :=
      (lane p).trans (if_pos (selects.1 h))
    refine ⟨fun other => (lane p).trans (if_neg (mt selects.2 other)),
      fun h some_ => (takes h).trans (Lane.takesAsk_known some_), fun h none_ absent => ⟨fun sends => ?_, fun apart awake => ?_⟩⟩
    · rw [takes h, Lane.takesAsk_first none_ absent, if_pos sends]
      rfl
    · rw [takes h, Lane.takesAsk_first none_ absent, if_neg (not_or.2 ⟨apart, awake⟩)]
      rfl
  · simp only [placeQuiet_known (known.imp fun x => .imp_right QuietRecord.key_eq_iff.2), QuietRecord.key_eq_iff]
  · exact placeQuiet_room (fun x here => mt QuietRecord.key_eq_iff.1 (fresh x here)) room
  · cases list with
    | nil => exact nomatch here
    | cons q rest =>
      have earliest : earliestQuiet now q rest = x :=
        earliestQuiet_eq here fun y there other => QuietRecord.before_iff.2 (first y there other)
      exact earliest ▸ placeQuiet_full (fun y there => mt QuietRecord.key_eq_iff.1 (fresh y there)) full

/-- Settles O38: an end frame loses each present lane its record of the key, and leaves listen jobs their keys. -/
theorem quietEnds : Obligations.QuietEnds := by
  refine ⟨fun s st b taken peer => ⟨fun outside => ?_, fun q named => ?_⟩,
    fun s p st q hears => ⟨fun due => ?_, fun idle => ?_⟩⟩
  · exact ⟨State.peer_outside taken peer outside fun t p => t.endQuiet st p,
      State.peer_outside taken peer outside fun t p => t.takeSweepEnd st p⟩
  · intro ended
    have same : s.endQuiet st q = ended := s.endQuiet_eq st q
    refine ⟨?_, fun free => ?_⟩
    · rw [← same]
      exact State.peer_named taken peer named fun t p => t.endQuiet st p
    · rw [← same, ← State.takeSweepEnd_free free]
      exact State.peer_named taken peer named fun t p => t.takeSweepEnd st p
  · rw [exec_quietRecordExpiry hears, if_pos (State.quietDue_iff.2 due)]
  · rw [exec_quietRecordExpiry hears, if_neg fun due => ?_]
    obtain ⟨x, here, same⟩ := State.quietDue_iff.1 due
    exact idle x here same

end

section
/-! SUPPORT. The start of a listen job (R168, R169): the engine, its members, and what each member's lane becomes. -/

namespace Sys2Proof.Machine

section Eligible

variable {s : State} {p : Port}

theorem State.memberOf_isNone_iff : (s.memberOf p).isNone = true ↔ s.Unlistened p := by
  rw [Option.isNone_iff_eq_none]
  refine ⟨fun none_ e j job m member => State.memberOf_none none_ job member, fun silent => ?_⟩
  cases found : s.memberOf p with
  | none => rfl
  | some pair =>
    obtain ⟨j, job, member, port⟩ := State.memberOf_some found
    exact absurd port (silent _ j job _ member)

/-- The states whose lanes may be members (R168). -/
theorem State.listenEligible_iff : s.listenEligible p = true ↔
    (s.lane p).active.listenPeers = true ∧
    ((s.lane p).state.takesListen = true ∨ (s.lane p).state = .parked ∨ (s.lane p).state = .disabled ∨
      (s.lane p).state = .sweepWait) ∧
    (s.lane p).hold.sweep = false ∧ (s.lane p).energy = false ∧ s.Unlistened p := by
  rw [← State.memberOf_isNone_iff]
  unfold State.listenEligible
  cases state : (s.lane p).state <;> simp [state, LaneState.takesListen, and_assoc]

end Eligible

section Idle

variable {s : State} {e : EngineId}

theorem State.lowestIdle_none (busy : ∀ e, (s.engine e).state ≠ .idle) : s.lowestIdle = none :=
  List.find?_eq_none.2 fun e _ => by simpa using busy e

theorem State.lowestIdle_eq (idle : (s.engine e).state = .idle) (below : ∀ d, d < e → (s.engine d).state ≠ .idle) :
    s.lowestIdle = some e := by
  cases found : s.lowestIdle with
  | none => exact absurd (by simpa using idle) (List.find?_eq_none.1 found e (mem_allEngines e))
  | some d =>
    have idle' : (s.engine d).state = .idle := of_decide_eq_true (List.find?_some found :)
    obtain ⟨before, after, split, others⟩ := (List.find?_eq_some_iff_append.1 found).2
    match e, d with
    | 0, 0 | 1, 1 => rfl
    | 1, 0 => exact absurd idle' (below 0 (by decide))
    | 0, 1 =>
      have first : (0 : EngineId) ∈ before := by
        rcases before with _ | ⟨a, before⟩
        · simp [allEngines] at split
        · simp only [allEngines, List.cons_append, List.cons.injEq] at split
          rw [split.1]
          exact .head _
      exact absurd (others 0 first) (by simpa using idle)

end Idle

/-! ## Folds that write one lane each -/

/-- Each port of a list without repetition has its lane rewritten, on a condition on that lane alone. -/
theorem State.foldl_eq_modifyLane {f : State → Port → State} {w : Lane → Lane} {c : Lane → Prop}
    (writes : ∀ t p, c (t.lane p) → f t p = t.modifyLane p w) {l : List Port} (nodup : l.Nodup) (s : State)
    (all : ∀ p ∈ l, c (s.lane p)) : l.foldl f s = l.foldl (fun t p => t.modifyLane p w) s := by
  induction l generalizing s with
  | nil => rfl
  | cons p l ih =>
    obtain ⟨fresh, nodup⟩ := List.nodup_cons.1 nodup
    rw [List.foldl_cons, List.foldl_cons, writes s p (all p (.head _))]
    refine ih nodup _ fun q here => ?_
    rw [State.lane_modifyLane_ne _ _ _ _ fun same : q = p => fresh (same ▸ here)]
    exact all q (.tail _ here)

theorem State.addReason_listen {s : State} {p : Port} (takes : (s.lane p).state.takesListen = true) :
    s.addReason p .listen = s.modifyLane p (·.adds .listen) :=
  State.addReason_adds (.inr fun onWay => by rcases onWay with state | state | state <;> rw [state] at takes <;> exact nomatch takes)

/-! ## The members' lanes -/

section Member

variable {l : Lane} {e : EngineId}

theorem Lane.listen_adds_held (held : l.state = .held) :
    (l.adds .listen).listen e = { l.listen e with hold := { l.hold with listen := true } } := by
  have apart : ¬(l.state = .advertise ∨ l.state = .backoff) := by simp [held]
  unfold Lane.adds
  rw [if_neg apart]
  split
  next has =>
    have listens : l.hold.listen = true := has
    have same : ({ l.hold with listen := true } : HoldSet) = l.hold := by rw [← listens]
    rw [same]
    rfl
  next => rfl

/-- A lane that sends or waits in BACKOFF holds nothing, enters HELD, and the tap's LISTEN replaces its quiet. -/
theorem Lane.listen_adds_free (free : l.state = .advertise ∨ l.state = .backoff) (empty : l.hold = .empty) :
    (l.adds .listen).listen e = (({ l with hold := { l.hold with listen := true } } : Lane).rest .held).listen e := by
  have absent : ¬l.hold.has .listen = true := by rw [empty]; nofun
  unfold Lane.adds Lane.toHeld
  rw [if_neg absent, if_pos free]
  split <;> rfl

end Member

/-! ## The state that the start leaves (R169) -/

section Start

variable {s : State} {st : Station} {q : Port} {units : Byte} {e : EngineId}

/-- The ports whose lanes a listen job takes as members (R168). -/
def State.eligiblePorts (s : State) : List Port := s.presentPorts.filter s.listenEligible

theorem State.mem_eligiblePorts {p : Port} :
    p ∈ s.eligiblePorts ↔ s.present p = true ∧ s.listenEligible p = true := by simp [State.eligiblePorts]

/-- The engine's record of the listen job of (S, P) (R169 steps 1 and 2). -/
def State.listeningEngine (s : State) (st : Station) (q : Port) (units : Byte) : Engine :=
  { Engine.idle with
    state := .listening
    job := some ⟨st, q, s.ms + BitVec.ofNat 48 (units.toNat * 10 + 10),
      s.eligiblePorts.map fun p => ⟨p, 0, (s.lane p).state.takesListen⟩⟩ }

theorem State.takeSweepStart_idle (none_ : s.lowestIdle = none ∨ s.eligiblePorts = []) : s.takeSweepStart st q units = s := by
  unfold State.takeSweepStart
  rcases none_ with busy | empty
  · simp only [busy]
  · split
    next => rfl
    next => exact if_pos empty

theorem State.takeSweepStart_eq (lowest : s.lowestIdle = some e) (some_ : s.eligiblePorts ≠ []) :
    s.takeSweepStart st q units =
      s.eligiblePorts.foldl (fun t p => t.modifyLane p (·.listen e))
        ((s.eligiblePorts.filter fun p => (s.lane p).state.takesListen).foldl (fun t p => t.modifyLane p (·.adds .listen))
          (s.setEngine e (s.listeningEngine st q units))) := by
  have nodup : (s.eligiblePorts.filter fun p => (s.lane p).state.takesListen).Nodup :=
    (s.presentPorts_nodup.filter _).filter _
  have adds := State.foldl_eq_modifyLane (f := fun t p => t.addReason p .listen) (c := fun l => l.state.takesListen = true)
    (fun t p => State.addReason_listen) nodup (s.setEngine e (s.listeningEngine st q units))
    fun p here => (List.mem_filter.1 here).2
  unfold State.takeSweepStart
  simp only [lowest]
  rw [if_neg (show ¬s.presentPorts.filter s.listenEligible = [] from some_), ← adds, List.filter_map, List.foldl_map]
  rfl

theorem State.takeSweepStart_writes (lowest : s.lowestIdle = some e) (some_ : s.eligiblePorts ≠ []) :
    let u := s.takeSweepStart st q units
    u = { s with lanes := u.lanes, engines := u.engines } ∧
      (∀ d, u.engine d = (s.setEngine e (s.listeningEngine st q units)).engine d) ∧
      ∀ p, u.lane p = if p ∈ s.eligiblePorts then
        (if (s.lane p).state.takesListen = true then (s.lane p).adds .listen else s.lane p).listen e else s.lane p := by
  intro u
  have eq : u = _ := State.takeSweepStart_eq lowest some_
  have nodup : s.eligiblePorts.Nodup := s.presentPorts_nodup.filter _
  refine ⟨?_, fun d => ?_, fun p => ?_⟩
  · rw [eq, State.foldl_modifyLane_rest, State.foldl_modifyLane_rest]
    rfl
  · rw [eq, State.foldl_modifyLane_rest, State.foldl_modifyLane_rest]
    rfl
  · rw [eq, State.lane_foldl_modifyLane _ nodup, State.lane_foldl_modifyLane _ (nodup.filter _)]
    simp only [List.mem_filter]
    split
    next here => simp only [here, true_and]; rfl
    next apart => simp only [apart, false_and, if_false]; rfl

end Start

end Sys2Proof.Machine
end

section
/-! The statement on the start of a listen job. -/

open Sys2Proof Sys2Proof.Machine

/-- Settles O39: the members are the eligible ports, and each member's lane is `Lane.listen` of the lane that LISTEN has
reached. -/
theorem listenJobStarts : Obligations.ListenJobStarts := by
  refine ⟨fun s st b mask units taken peer outside => ?_, fun s st b mask units q taken peer named => ?_⟩
  · exact State.peer_outside taken peer outside fun t p => t.takeSweepStart st p units
  intro takes eligible out
  have starts : out = .next (s.takeSweepStart st q units).settle :=
    State.peer_named taken peer named fun t p => t.takeSweepStart st p units
  have takes_eq (x : LaneState) : takes x = x.takesListen := by cases x <;> rfl
  have member (p : Port) : eligible p = true ↔ p ∈ s.eligiblePorts := by
    obtain ⟨spares, flat, silent⟩ : ∃ spares : Bool,
        eligible p = (s.present p && (s.lane p).active.listenPeers &&
          (takes (s.lane p).state || decide ((s.lane p).state = .parked) || decide ((s.lane p).state = .disabled) ||
            decide ((s.lane p).state = .sweepWait)) &&
          !(s.lane p).hold.sweep && !(s.lane p).energy && spares) ∧
        (spares = true ↔ s.Unlistened p) := by
      refine ⟨_, rfl, List.all_eq_true.trans ⟨fun all e j job m among => ?_, fun silent e _ => ?_⟩⟩
      · have here := all e (mem_allEngines e)
        rw [job] at here
        exact of_decide_eq_true (List.all_eq_true.1 here m among)
      · cases job : (s.engine e).job with
        | none => rfl
        | some j => exact List.all_eq_true.2 fun m among => decide_eq_true (silent e j job m among)
    rw [flat, State.mem_eligiblePorts, State.listenEligible_iff, ← silent, ← takes_eq]
    simp only [Bool.and_eq_true, Bool.or_eq_true, Bool.not_eq_true', decide_eq_true_eq, and_assoc, or_assoc]
  have ports : allPorts.filter eligible = s.eligiblePorts := by
    rw [State.eligiblePorts, State.presentPorts, List.filter_filter]
    refine List.filter_congr fun p _ => Bool.eq_iff_iff.2 ((member p).trans ?_)
    rw [State.mem_eligiblePorts, Bool.and_eq_true, and_comm]
  refine ⟨fun none_ => ?_, fun e idle below some_ sound => ⟨s.takeSweepStart st q units, starts, ?_⟩⟩
  · rw [starts, State.takeSweepStart_idle (none_.imp State.lowestIdle_none fun all => ?_)]
    exact List.eq_nil_iff_forall_not_mem.2 fun p here => Bool.false_ne_true ((all p).symm.trans ((member p).2 here))
  obtain ⟨p, here⟩ := some_
  obtain ⟨rest, engines, lane⟩ := State.takeSweepStart_writes (st := st) (q := q) (units := units)
    (State.lowestIdle_eq idle below) (List.ne_nil_of_mem ((member p).1 here))
  refine ⟨rest, fun d other => ?_, ?_, fun p => ?_⟩
  · rw [engines, State.engine_setEngine_ne _ _ _ _ other]
  · rw [engines, State.engine_setEngine_same, ports]
    simp only [takes_eq]
    rfl
  · intro l armed
    refine ⟨fun apart => ?_, fun here => ?_⟩
    · exact (lane p).trans (if_neg (mt (member p).2 (Bool.eq_false_iff.1 apart)))
    · have fits := (State.allLanes_holdSound.1 sound p).fits
      have lane := (lane p).trans (if_pos ((member p).1 here))
      refine ⟨fun silent => ?_, fun held => ?_, fun free => ?_⟩
      · rw [lane, if_neg (by rw [← takes_eq, silent]; nofun)]
        rfl
      · rw [lane, if_pos (by rw [held]; rfl), Lane.listen_adds_held held]
        rfl
      · rw [lane, if_pos (by rcases free with state | state <;> rw [state] <;> rfl), Lane.listen_adds_free free (fits.free free)]
        rfl

end

section
/-! SUPPORT. The start choice (R117 to R119): what may start, what the guard set removes, and the start itself. -/

namespace Sys2Proof.Machine

section Tests

variable {s : State} {x : Entry}

theorem State.startable_iff_flat : s.startable x = true ↔
    (x.state ≠ .running ∧
      ((s.lane x.port).state ∈ [.disabled, .advertise, .backoff, .held, .sweepWait, .parked] ∨
        ((s.lane x.port).state = .up ∧ x.force = true)) ∧
      (s.lane x.port).power = false ∧ (x.force = true ∨ (s.lane x.port).energy = false)) := by
  have sweepable : (s.lane x.port).state.sweepable = true ↔
      (s.lane x.port).state ∈ [.disabled, .advertise, .backoff, .held, .sweepWait, .parked] := by
    cases (s.lane x.port).state <;> simp [LaneState.sweepable]
  rw [← sweepable]
  simp [State.startable, and_assoc]

theorem State.guardBlocked_iff : s.guardBlocked x = true ↔
    (x.state ≠ .running ∧ x.force = true ∧ (s.lane x.port).state = .up ∧ inPortSet s.guards x.port = true) := by
  simp [State.guardBlocked, and_assoc]

end Tests

/-! ## What the removals leave (R118) -/

section Removals

variable {s : State}

theorem State.removeGuarded_eq (s : State) : s.removeGuarded =
    (s.queue.filter s.guardBlocked).foldl (fun (t : State) x => t.entryGone x.port .sweepEndedEarly) s := by
  simp only [State.removeGuarded, State.removeEntry_eq]
  rfl

/-- An entry that stays has the lane it had: a removal changes the lane of its own port alone. -/
theorem State.removals_kept (l : List Entry) (o : RemovalOutcome) (s : State) {y : Entry}
    (stays : y ∈ (l.foldl (fun t x => t.removeEntry x.port o) s).queue) :
    y ∈ s.queue ∧ (l.foldl (fun t x => t.removeEntry x.port o) s).lane y.port = s.lane y.port := by
  induction l generalizing s with
  | nil => exact ⟨stays, rfl⟩
  | cons x l ih =>
    obtain ⟨here, lane⟩ := ih (s.removeEntry x.port o) stays
    rw [State.removeEntry_queue] at here
    obtain ⟨here, other⟩ := List.mem_filter.1 here
    exact ⟨here, lane.trans ((Serves.removeEntry o).lane y.port (of_decide_eq_true other))⟩

/-- Where nothing may start before the removals, nothing may start after them. -/
theorem State.chosenEntry_removeGuarded (none_ : ∀ x ∈ s.queue, s.startable x = false) :
    s.removeGuarded.chosenEntry = none := State.chosenEntry_none fun y stays => by
  obtain ⟨here, lane⟩ := State.removals_kept _ .guarded s stays
  have same : s.removeGuarded.lane y.port = s.lane y.port := lane
  rw [← none_ y here, State.startable, State.startable, same]

end Removals

/-! ## The entry that is taken (R118) -/

section Choice

variable {s : State} {x : Entry} {ahead behind : List Entry}

theorem find?_first {f : Entry → Bool} (before : ∀ y ∈ ahead, f y = false) (here : f x = true) :
    (ahead ++ x :: behind).find? f = some x := by
  have none_ : ahead.find? f = none := List.find?_eq_none.2 fun y among => by rw [before y among]; nofun
  rw [List.find?_append, none_, Option.none_or, List.find?_cons_of_pos here]

theorem State.chosenEntry_supervisor (queue : s.queue = ahead ++ x :: behind) (may : s.startable x = true)
    (origin : x.origin = .supervisor) (before : ∀ y ∈ ahead, s.startable y = true → y.origin ≠ .supervisor) :
    s.chosenEntry = some x := by
  unfold State.chosenEntry
  rw [queue, find?_first (fun y among => ?_) (by simp [may, origin])]
  rw [Bool.and_eq_false_imp]
  exact fun may => decide_eq_false (before y among may)

theorem State.chosenEntry_first (queue : s.queue = ahead ++ x :: behind) (may : s.startable x = true)
    (others : ∀ y ∈ s.queue, s.startable y = true → y.origin ≠ .supervisor) (before : ∀ y ∈ ahead, s.startable y = false) :
    s.chosenEntry = some x := by
  have none_ : (s.queue.find? fun x => s.startable x && decide (x.origin = .supervisor)) = none :=
    List.find?_eq_none.2 fun y among => by simpa using others y among
  unfold State.chosenEntry
  rw [none_, queue]
  exact find?_first before may

theorem State.engineChooses_some {e : EngineId} (idle : (s.engine e).state = .idle)
    (free : ∀ y ∈ s.queue, s.guardBlocked y = false) (chosen : s.chosenEntry = some x) :
    s.engineChooses e = s.startEntry e x.port := by
  refine (if_pos idle).trans ?_
  rw [State.removeGuarded_none free]
  simp only [chosen]

end Choice

/-! ## The start (R119) -/

section Start

variable {s : State} {p : Port} {e : EngineId}

theorem State.addReason_sweep_eq (absent : (s.lane p).hold.sweep = false) : s.addReason p .sweep = s.takesSweep p := by
  have put (t : State) (l : Lane) : (t.setLane p l).putReason p .sweep true = t.setLane p (l.put .sweep true) := by
    rw [State.putReason, State.setLane_modifyLane]
    rfl
  have here : s.putReason p .sweep true = s.setLane p ((s.lane p).put .sweep true) := rfl
  have drops : ((s.leaveUp p).modifyLane p fun y => { y with transferOwed := true }).putReason p .sweep true =
      (s.droppedLink p).setLane p
        (Lane.put { (s.droppedLink p).lane p with transferOwed := true } .sweep true) := by
    rw [State.leaveUp_eq, State.modifyLane, put]
  have takes : s.takesSweep p = match (s.lane p).state with
      | .advertise | .backoff | .negotiate | .train => s.rests p ((s.lane p).put .sweep true) .held
      | .up => (s.droppedLink p).rests p
          (Lane.put { (s.droppedLink p).lane p with transferOwed := true } .sweep true) .held
      | .starting | .disabled | .held | .sweepWait | .parked => s.setLane p ((s.lane p).put .sweep true) := rfl
  have lacks : ¬(s.lane p).hold.has .sweep = true := by rw [HoldSet.has, absent]; nofun
  unfold State.addReason State.enterHeld
  rw [drops, here, takes, State.setLane_restIn, State.setLane_restIn]
  refine (if_neg lacks).trans ?_
  cases (s.lane p).state <;> rfl

theorem State.listenDrop_sweep : ((s.listenDrop p).lane p).hold.sweep = (s.lane p).hold.sweep := by
  unfold State.listenDrop
  split
  next => rfl
  next d m _ =>
    have freed : (((s.detachMember d p).releasePort d p).lane p).hold.sweep = (s.lane p).hold.sweep := by
      rw [State.releasePort_sweep, State.detachMember_lane]
    simp only
    split
    · rw [(LaneKept.dropReason (g := False) (r := .listen) nofun).sweep, freed]
    · exact freed

/-- The queue with the entry of one port rewritten. -/
theorem map_only {x : Entry} {ahead behind : List Entry} (nodup : ((ahead ++ x :: behind).map Entry.port).Nodup)
    (f : Entry → Entry) : ((ahead ++ x :: behind).map fun y => if y.port = x.port then f y else y) = ahead ++ f x :: behind := by
  have apart : ∀ y, y ∈ ahead ∨ y ∈ behind → y.port ≠ x.port := by
    rw [List.map_append, List.map_cons, List.nodup_middle, List.nodup_cons] at nodup
    exact fun y among same => nodup.1 (same ▸ List.mem_append.2 (among.imp List.mem_map_of_mem List.mem_map_of_mem))
  have kept (l : List Entry) (beside : ∀ y ∈ l, y.port ≠ x.port) :
      (l.map fun y => if y.port = x.port then f y else y) = l := by
    refine (List.map_congr_left fun y here => if_neg (beside y here)).trans (List.map_id l)
  rw [List.map_append, List.map_cons, kept ahead fun y here => apart y (.inl here),
    kept behind fun y here => apart y (.inr here), if_pos rfl]

/-- The start, from the state in which engine and entry are bound to one another (R119 steps 3 and 4). -/
theorem State.startEntry_eq {x : Entry} {ahead behind : List Entry} (queue : s.queue = ahead ++ x :: behind)
    (nodup : (s.queue.map Entry.port).Nodup) :
    let running : Entry := { x with
      state := .running, engine := some e, snapshot := some (x.snapshot.getD (s.lane x.port).snapshot) }
    s.startEntry e x.port =
      ((({ s with queue := ahead ++ running :: behind } : State).setEngine e
        { Engine.idle with state := .preparing, bound := some x.port }).listenDrop x.port).addReason x.port .sweep := by
  intro running
  have bound : (s.modifyEntry x.port fun y =>
      { y with state := .running, engine := some e, snapshot := some (y.snapshot.getD (s.lane x.port).snapshot) }) =
      { s with queue := ahead ++ running :: behind } := by
    rw [State.modifyEntry, queue, map_only (queue ▸ nodup)]
  exact congrArg (fun t : State => ((t.setEngine e
    { Engine.idle with state := .preparing, bound := some x.port }).listenDrop x.port).addReason x.port .sweep) bound

end Start

end Sys2Proof.Machine
end

section
/-! The statement on the start choice. -/

open Sys2Proof Sys2Proof.Machine

/-- Settles O59: the chosen entry is the first that the tests pass, by its place in the queue, and the start is a drop out of the
lane's listen job, where it is in one, and SWEEP. -/
theorem startChoice : Obligations.StartChoice := by
  refine ⟨fun s x => State.startable_iff_flat, fun s x => State.guardBlocked_iff, State.removeGuarded_eq, fun s e busy => if_neg busy,
    fun s e idle none_ => ?_, fun s e x ahead behind idle free nodup queue may place absent => ?_⟩
  · refine (if_pos idle).trans ?_
    simp only [State.chosenEntry_removeGuarded none_]
  · intro l snap running t
    have chosen : s.chosenEntry = some x := by
      rcases place with ⟨origin, before⟩ | ⟨others, before⟩
      · exact State.chosenEntry_supervisor queue may origin before
      · exact State.chosenEntry_first queue may others before
    have starts : s.engineChooses e = (t.listenDrop x.port).addReason x.port .sweep :=
      (State.engineChooses_some idle free chosen).trans (State.startEntry_eq queue nodup)
    have sweeps : s.engineChooses e = (t.listenDrop x.port).takesSweep x.port :=
      starts.trans (State.addReason_sweep_eq (State.listenDrop_sweep.trans absent))
    have jobs (d : EngineId) (i : ListenJob) (job : (t.engine d).job = some i) : d ≠ e ∧ (s.engine d).job = some i := by
      by_cases same : d = e
      · rw [same, State.engine_setEngine_same] at job
        exact nomatch job
      · rw [State.engine_setEngine_ne _ _ _ _ same] at job
        exact ⟨same, job⟩
    refine ⟨fun silent => ?_, fun d j m other job member port members => ?_⟩
    · have unlistened : t.Unlistened x.port := fun d i job m member => by
        obtain ⟨other, job⟩ := jobs d i job
        exact silent d i other job m member
      rw [sweeps, unlistened.listenDrop]
    · have job' : (t.engine d).job = some j := (congrArg Engine.job (State.engine_setEngine_ne _ _ _ _ other)).trans job
      have alone : ∀ k i, k ≠ d → (t.engine k).job = some i → ∀ n ∈ i.members, n.port ≠ x.port := fun k i apart job => by
        have only : ∀ a b c : EngineId, a ≠ b → c ≠ b → a = c := by decide
        exact absurd (only k e d (jobs k i job).1 other) apart
      rw [sweeps, State.listenDrop_eq (State.memberOf_eq job' member port members alone) job']

end

section
/-! SUPPORT. The end of a listen job (R167, R173): what it records, what it leaves of each member's lane, and of the other
engine's job. -/

namespace Sys2Proof.Machine

/-! ## What is recorded and answered (R173 steps 1 and 2) -/

section Record

theorem alienLevel_eq (n : Nat) : alienLevel n = min 1000 ((2000 * n + 16376) / 32752) := by
  rw [alienLevel, roundHalfUp, ← Nat.mul_assoc]

/-- The answer of a listen job to its sweeper, from a member (R146, R173). -/
def ListenJob.answer (j : ListenJob) (m : Member) : Frame := couplingSeenFrame j.station j.port m.port (alienLevel m.reading)

theorem ListenJob.answer_eq (j : ListenJob) (m : Member) : j.answer m =
    ⟨0x14, j.station, [BitVec.ofNat 8 (j.port.val + 1), BitVec.ofNat 8 (m.port.val + 1),
      BitVec.ofNat 8 (alienLevel m.reading / 256), BitVec.ofNat 8 (alienLevel m.reading)]⟩ := by
  rw [ListenJob.answer, couplingSeenFrame, twoBytesOf_eq]
  rfl

/-- The coupling table after a member's level. -/
def ListenJob.heard (j : ListenJob) (table : List CouplingEntry) (m : Member) : List CouplingEntry :=
  recordCoupling table ⟨m.port, j.station, j.port⟩ (alienLevel m.reading) .heard

/-- A member with a level of 20 or more. -/
def State.recordLoud (s : State) (j : ListenJob) (m : Member) : State :=
  (s.learn ⟨m.port, j.station, j.port⟩ (alienLevel m.reading) .heard).postCoord (j.answer m) none

/-- Its level goes into the table and its answer into the coordination list; neither reads the other. -/
theorem State.recordLoud_of_line {s t : State} (list : t.coordList = s.coordList) (tx : t.tx = s.tx)
    (opened : t.lastOpened = s.lastOpened) (j : ListenJob) (m : Member) : t.recordLoud j m =
      { t with
        coupling := j.heard t.coupling m
        coordList := (s.postCoord (j.answer m) none).coordList
        lastOpened := (s.postCoord (j.answer m) none).lastOpened } :=
  State.postCoord_of_line (s := s) (t := t.learn ⟨m.port, j.station, j.port⟩ (alienLevel m.reading) .heard) list tx opened
    (j.answer m) none

theorem State.foldl_recordLoud (j : ListenJob) (l : List Member) {s t : State} (list : t.coordList = s.coordList)
    (tx : t.tx = s.tx) (opened : t.lastOpened = s.lastOpened) :
    l.foldl (fun t m => t.recordLoud j m) t =
      { t with
        coupling := l.foldl j.heard t.coupling
        coordList := (l.foldl (fun t m => t.postCoord (j.answer m) none) s).coordList
        lastOpened := (l.foldl (fun t m => t.postCoord (j.answer m) none) s).lastOpened } := by
  induction l generalizing s t with
  | nil => rw [List.foldl_nil, List.foldl_nil, List.foldl_nil, ← list, ← opened]
  | cons m l ih =>
    have tx' : (s.postCoord (j.answer m) none).tx = s.tx := by
      rw [State.postCoord_of_line (s := s) rfl rfl rfl (j.answer m) none]
    rw [List.foldl_cons, List.foldl_cons, List.foldl_cons, State.recordLoud_of_line list tx opened]
    exact ih (s := s.postCoord (j.answer m) none) rfl (tx.trans tx'.symm) rfl

theorem State.foldl_recordMember (s : State) (j : ListenJob) :
    let loud := j.members.filter fun m => decide (20 ≤ alienLevel m.reading)
    j.members.foldl (fun t m => t.recordMember j m) s =
      { s with
        coupling := loud.foldl j.heard s.coupling
        coordList := (loud.foldl (fun t m => t.postCoord (j.answer m) none) s).coordList
        lastOpened := (loud.foldl (fun t m => t.postCoord (j.answer m) none) s).lastOpened } := by
  intro loud
  rw [← State.foldl_recordLoud j loud rfl rfl rfl, List.foldl_filter]
  simp only [decide_eq_true_eq]
  rfl

end Record

/-! ## Folds of operations on one port each -/

section Fold

variable {s : State} {f : State → Member → State}

theorem Touches.foldl_rest (k : ∀ t m, Touches m.port t (f t m)) (l : List Member) (s : State) :
    ∃ ls es fl, l.foldl f s = { s with lanes := ls, engines := es, noticeFlags := fl } := by
  induction l generalizing s with
  | nil => exact ⟨_, _, _, rfl⟩
  | cons m l ih =>
    obtain ⟨_, _, _, one⟩ := (k s m).rest
    obtain ⟨_, _, _, rest⟩ := ih (f s m)
    exact ⟨_, _, _, by rw [List.foldl_cons, rest, one]⟩

theorem Touches.foldl_lane (k : ∀ t m, Touches m.port t (f t m)) {p : Port} (l : List Member)
    (apart : ∀ m ∈ l, m.port ≠ p) (s : State) : (l.foldl f s).lane p = s.lane p := by
  induction l generalizing s with
  | nil => rfl
  | cons m l ih =>
    rw [List.foldl_cons, ih fun n there => apart n (.tail _ there)]
    exact (k s m).lane p (apart m (.head _)).symm

/-- Where a port comes up once, its lane is what the operation on it makes of the lane it had. -/
theorem Touches.foldl_once (k : ∀ t m, Touches m.port t (f t m)) {l : List Member} (nodup : (l.map Member.port).Nodup)
    {m : Member} (here : m ∈ l) (s : State) :
    ∃ t : State, t.lane m.port = s.lane m.port ∧ t.records = s.records ∧ (l.foldl f s).lane m.port = (f t m).lane m.port := by
  induction l generalizing s with
  | nil => exact nomatch here
  | cons n l ih =>
    obtain ⟨fresh, nodup⟩ := List.nodup_cons.1 nodup
    have apart (o : Member) (there : o ∈ l) : o.port ≠ n.port := fun same => fresh (same ▸ List.mem_map_of_mem there)
    rcases List.mem_cons.1 here with rfl | there
    · exact ⟨s, rfl, rfl, Touches.foldl_lane k l apart _⟩
    · obtain ⟨t, lane, records, after⟩ := ih nodup there (f s n)
      exact ⟨t, lane.trans ((k s n).lane _ (apart m there)), records.trans (k s n).records, after⟩

/-- What every operation of a fold keeps of a lane. -/
theorem foldl_lane_keeps {c : Lane → Prop} {p : Port} (keeps : ∀ t m, c (t.lane p) → c ((f t m).lane p)) (l : List Member)
    (start : c (s.lane p)) : c ((l.foldl f s).lane p) := by
  induction l generalizing s with
  | nil => exact start
  | cons m l ih => exact ih (keeps s m start)

/-- What an operation of a fold establishes of a lane, and every one keeps. -/
theorem foldl_lane_gains {c : Lane → Prop} {p : Port} (keeps : ∀ t m, c (t.lane p) → c ((f t m).lane p)) {l : List Member}
    {m : Member} (here : m ∈ l) (gains : ∀ t, c ((f t m).lane p)) : c ((l.foldl f s).lane p) := by
  induction l generalizing s with
  | nil => exact nomatch here
  | cons n l ih =>
    rcases List.mem_cons.1 here with rfl | there
    · exact foldl_lane_keeps keeps l (gains s)
    · exact ih there

end Fold

/-! ## LISTEN leaves a lane (R64, R171) -/

section Drop

variable {s t : State} {p q : Port} {l : Lane} {e : EngineId}

/-- A command gives a lane no LISTEN (R47). -/
theorem State.laneCommand_listen (absent : (s.lane p).hold.listen = false) :
    ((s.laneCommand p).lane p).hold.listen = false := by
  unfold State.laneCommand State.laneIssue
  split
  · split
    · rw [State.lane_modifyLane_same]; exact absent
    · split
      · rw [State.lane_modifyLane_same]; rfl
      · exact absent
  · exact absent

theorem State.advertises_listen (absent : l.hold.listen = false) : ((s.advertises p l).lane p).hold.listen = false := by
  have written (m : Lane) (same : m.hold = l.hold) : (((s.setLane p m).laneCommand p).lane p).hold.listen = false :=
    State.laneCommand_listen (by rw [State.lane_setLane_same, same]; exact absent)
  unfold State.advertises
  simp only
  split
  · exact written _ rfl
  · split <;> exact written _ rfl

theorem State.leavesHeld_listen (absent : l.hold.listen = false) : ((s.leavesHeld p l).lane p).hold.listen = false := by
  unfold State.leavesHeld
  split
  next free =>
    refine State.advertises_listen ?_
    split
    · unfold Lane.atTransferPoint Lane.transferred Lane.restored
      split <;> exact absent
    · exact absent
  · rw [State.lane_setLane_same]; exact absent

theorem State.dropReason_listen (s : State) (p : Port) : ((s.dropReason p .listen).lane p).hold.listen = false := by
  cases has : (s.lane p).hold.has .listen with
  | false => rw [State.dropReason_absent has]; exact has
  | true =>
    rw [State.dropReason_has has]
    exact State.leavesHeld_listen rfl

theorem State.dropReason_listen_keeps (absent : (s.lane p).hold.listen = false) :
    ((s.dropReason q .listen).lane p).hold.listen = false := by
  by_cases here : p = q
  · subst here; exact s.dropReason_listen p
  · rw [(Touches.dropReason .listen).lane p here]; exact absent

/-- The lane holds its port, with no capture open. -/
def Lane.Owns (l : Lane) : Prop := l.holder = .lane ∧ l.outstanding = none

theorem State.dropReason_owns (owns : (s.lane p).Owns) : ((s.dropReason q .listen).lane p).Owns := by
  by_cases here : p = q
  · subst here
    cases has : (s.lane p).hold.has .listen with
    | false => rw [State.dropReason_absent has]; exact owns
    | true =>
      rw [State.dropReason_has has]
      have runs := State.leavesHeld_runsOn (s := s) (p := p) (l := (s.lane p).put .listen false) owns.1 owns.2
      exact ⟨runs.lane.holder, runs.lane.outstanding⟩
  · rw [(Touches.dropReason .listen).lane p here]; exact owns

theorem State.dropReason_engine_idle {d : EngineId} (idle : s.engine d = .idle) : (s.dropReason p .listen).engine d = .idle := by
  rcases (LaneOp.dropReason (g := False) (s := s) (p := p) .listen).engine d with same | ⟨-, -, dropped⟩
  · exact same.trans idle
  · rw [dropped, idle]; rfl

/-- HELD for nothing but LISTEN, on a port the lane holds: the lane sends its word (R62, R64). -/
theorem State.dropReason_advertises (owns : (s.lane p).holder = .lane) (held : (s.lane p).state = .held)
    (only : (s.lane p).hold = ⟨false, true, false, false⟩) (clear : (s.lane p).transferOwed = false) {offered : GradeSet}
    (offers : offered = (s.lane p).active.advertised &&& (s.record p).allowed &&& gradesUpTo (s.lane p).ceiling)
    (some_ : offered ≠ 0) :
    let l := (s.dropReason p .listen).lane p
    l.state = .advertise ∧ l.offered = offered ∧ l.tapCommand = some (.sendWord offered false) := by
  intro l
  let free : Lane := { s.lane p with hold := (s.lane p).hold.put .listen false }
  have empty : free.hold = .empty := by show (s.lane p).hold.put .listen false = .empty; rw [only]; rfl
  let sends : Lane := { free.rest .advertise with offered := offered }
  have leaves : s.dropReason p .listen = (s.setLane p sends).laneCommand p := by
    rw [State.dropReason_has (by rw [only]; rfl)]
    have advertises : s.leavesHeld p free = s.advertises p free := by
      refine (if_pos ⟨held, empty⟩).trans ?_
      rw [show free.transferOwed = false from clear]
      rfl
    refine advertises.trans ?_
    unfold State.advertises
    simp only
    rw [← offers, if_neg some_, if_neg (not_not.2 empty)]
    rfl
  have lane : (s.setLane p sends).lane p = sends := State.lane_setLane_same ..
  have issued : (s.setLane p sends).laneCommand p = s.setLane p (sends.issue (.sendWord offered false)) := by
    rw [State.laneCommand_some (c := .sendWord offered false) (by rw [lane]; rfl),
      State.laneIssue_own (by rw [lane]; exact owns), lane, State.setLane_setLane]
  have here : l = sends.issue (.sendWord offered false) := by
    show (s.dropReason p .listen).lane p = _
    rw [leaves, issued, State.lane_setLane_same]
  rw [here]
  exact ⟨rfl, rfl, rfl⟩

end Drop

/-! ## The members' ports are released (R47, R173) -/

section Release

variable {s : State} {p : Port} {e : EngineId}

/-- A member whose port the engine holds has it released once, whatever the list repeats. -/
theorem State.foldl_releasePort_member {l : List Member} {m : Member} (here : m ∈ l)
    (held : (s.lane m.port).holder = .engine e) :
    (l.foldl (fun t m => t.releasePort e m.port) s).lane m.port = (s.lane m.port).release := by
  have done {t : State} (released : t.lane m.port = (s.lane m.port).release) (n : Member) :
      (t.releasePort e n.port).lane m.port = (s.lane m.port).release := by
    by_cases same : m.port = n.port
    · have own : (t.lane n.port).holder = .lane := by rw [← same, released, Lane.release_holder]
      rw [State.releasePort, if_neg (by rw [own]; nofun)]
      exact released
    · rw [(Touches.releasePort e).lane _ same]; exact released
  induction l generalizing s with
  | nil => exact nomatch here
  | cons n l ih =>
    by_cases same : m.port = n.port
    · refine foldl_lane_keeps (c := fun l => l = (s.lane m.port).release) (fun t n released => done released n) l ?_
      show (s.releasePort e n.port).lane m.port = _
      rw [State.releasePort, ← same, if_pos held, State.lane_modifyLane_same]
    · have there : m ∈ l := (List.mem_cons.1 here).resolve_left fun isN => same (congrArg Member.port isN)
      have kept : (s.releasePort e n.port).lane m.port = s.lane m.port := (Touches.releasePort e).lane _ same
      rw [List.foldl_cons, ih there (by rw [kept]; exact held) (by rwa [kept]), kept]

end Release

/-! ## The job of an engine ends (R173) -/

section Ends

variable {s : State} {e : EngineId} {j : ListenJob}

/-- The job's members recorded and their ports released, the engine IDLE (R173 steps 1 to 3). -/
def State.jobReleased (s : State) (e : EngineId) (j : ListenJob) : State :=
  j.members.foldl (fun t m => t.releasePort e m.port) ((j.members.foldl (fun t m => t.recordMember j m) s).setEngine e .idle)

/-- The job over, before the start choice: LISTEN has left the members it was given to. -/
def State.jobLeft (s : State) (e : EngineId) (j : ListenJob) : State :=
  (j.members.filter (·.given)).foldl (fun t m => t.dropReason m.port .listen) (s.jobReleased e j)

theorem State.endListenJob_eq (job : (s.engine e).job = some j) : s.endListenJob e = (s.jobLeft e j).startChoice := by
  rw [State.endListenJob, job]
  rfl

/-- Nothing of the recording is in a lane, a record or an engine. -/
theorem State.recorded_kept (s : State) (j : ListenJob) :
    let recorded := j.members.foldl (fun t m => t.recordMember j m) s
    recorded.lanes = s.lanes ∧ recorded.records = s.records ∧ recorded.engines = s.engines := by
  intro recorded
  have eq : recorded = _ := s.foldl_recordMember j
  refine ⟨?_, ?_, ?_⟩ <;> rw [eq]

/-- What the end of a job writes (R173). -/
theorem State.jobLeft_writes (s : State) (e : EngineId) (j : ListenJob) :
    let loud := j.members.filter fun m => decide (20 ≤ alienLevel m.reading)
    let u := s.jobLeft e j
    u = { s with
      lanes := u.lanes, engines := u.engines, noticeFlags := u.noticeFlags, lastOpened := u.lastOpened
      coupling := loud.foldl j.heard s.coupling
      coordList := (loud.foldl (fun t m => t.postCoord (j.answer m) none) s).coordList } := by
  intro loud u
  obtain ⟨_, _, _, left⟩ := Touches.foldl_rest (f := fun t m => t.dropReason m.port .listen)
    (fun _ _ => Touches.dropReason .listen) (j.members.filter (·.given)) (s.jobReleased e j)
  obtain ⟨_, _, _, released⟩ := Touches.foldl_rest (f := fun t m => t.releasePort e m.port)
    (fun _ _ => Touches.releasePort e) j.members ((j.members.foldl (fun t m => t.recordMember j m) s).setEngine e .idle)
  have eq : u = _ := left
  rw [State.jobReleased, released, s.foldl_recordMember j] at eq
  rw [eq]
  rfl

theorem State.jobLeft_engine (s : State) (e : EngineId) (j : ListenJob) : (s.jobLeft e j).engine e = Engine.idle := by
  have drops (l : List Member) (t : State) (idle : t.engine e = Engine.idle) :
      (l.foldl (fun t m => t.dropReason m.port .listen) t).engine e = Engine.idle := by
    induction l generalizing t with
    | nil => exact idle
    | cons m l ih => exact ih _ (State.dropReason_engine_idle idle)
  exact drops _ _ ((State.foldl_releasePort_engine ..).trans (State.engine_setEngine_same ..))

theorem State.jobReleased_other {p : Port} (apart : ∀ m ∈ j.members, m.port ≠ p) :
    (s.jobReleased e j).lane p = s.lane p :=
  (Touches.foldl_lane (f := fun t m => t.releasePort e m.port) (fun _ _ => Touches.releasePort e) j.members apart _).trans
    (State.lane_of_lanes (s.recorded_kept j).1 p)

theorem State.jobReleased_member {m : Member} (here : m ∈ j.members) (held : (s.lane m.port).holder = .engine e) :
    (s.jobReleased e j).lane m.port = (s.lane m.port).release := by
  let idle := (j.members.foldl (fun t m => t.recordMember j m) s).setEngine e .idle
  have lane : idle.lane m.port = s.lane m.port := State.lane_of_lanes (s.recorded_kept j).1 m.port
  have released := State.foldl_releasePort_member (s := idle) here (by rw [lane]; exact held)
  rwa [lane] at released

theorem State.jobReleased_record (s : State) (e : EngineId) (j : ListenJob) (p : Port) :
    (s.jobReleased e j).record p = s.record p := by
  obtain ⟨_, _, _, released⟩ := Touches.foldl_rest (f := fun t m => t.releasePort e m.port)
    (fun _ _ => Touches.releasePort e) j.members ((j.members.foldl (fun t m => t.recordMember j m) s).setEngine e .idle)
  refine State.record_of_records ?_ p
  rw [State.jobReleased, released]
  exact (s.recorded_kept j).2.1

theorem State.jobLeft_other {p : Port} (apart : ∀ m ∈ j.members, m.port ≠ p) : (s.jobLeft e j).lane p = s.lane p :=
  (Touches.foldl_lane (f := fun t m => t.dropReason m.port .listen) (fun _ _ => Touches.dropReason .listen) _
    (fun m here => apart m (List.mem_of_mem_filter here)) _).trans (State.jobReleased_other apart)

/-- A member that the engine held has its port back (R47). -/
theorem State.jobLeft_owns {m : Member} (here : m ∈ j.members) (held : (s.lane m.port).holder = .engine e) :
    ((s.jobLeft e j).lane m.port).Owns := by
  refine foldl_lane_keeps (c := Lane.Owns) (fun _ _ owns => State.dropReason_owns owns) _ ?_
  rw [State.jobReleased_member here held]
  have runs := (s.lane m.port).release_runs
  exact ⟨runs.holder, runs.outstanding⟩

theorem State.jobLeft_listen {m : Member} (here : m ∈ j.members) (given : m.given = true) :
    ((s.jobLeft e j).lane m.port).hold.listen = false :=
  foldl_lane_gains (c := fun l => l.hold.listen = false) (fun _ _ absent => State.dropReason_listen_keeps absent)
    (List.mem_filter.2 ⟨here, given⟩) fun t => t.dropReason_listen m.port

/-- A member HELD for nothing but the job sends its word again (R64, R62). -/
theorem State.jobLeft_advertises {m : Member} (here : m ∈ j.members) (given : m.given = true)
    (nodup : (j.members.map Member.port).Nodup) (holder : (s.lane m.port).holder = .engine e)
    (held : (s.lane m.port).state = .held) (only : (s.lane m.port).hold = ⟨false, true, false, false⟩)
    (clear : (s.lane m.port).transferOwed = false) {offered : GradeSet}
    (offers : offered =
      (s.lane m.port).active.advertised &&& (s.record m.port).allowed &&& gradesUpTo (s.lane m.port).ceiling)
    (some_ : offered ≠ 0) :
    let l := (s.jobLeft e j).lane m.port
    l.state = .advertise ∧ l.offered = offered ∧ l.tapCommand = some (.sendWord offered false) := by
  intro l
  obtain ⟨t, lane, records, after⟩ := Touches.foldl_once (f := fun t m => t.dropReason m.port .listen)
    (fun _ _ => Touches.dropReason .listen) (nodup.sublist (List.filter_sublist.map _)) (List.mem_filter.2 ⟨here, given⟩)
    (s.jobReleased e j)
  have released : t.lane m.port = (s.lane m.port).release := lane.trans (State.jobReleased_member here holder)
  have record : t.record m.port = s.record m.port :=
    (State.record_of_records records m.port).trans (s.jobReleased_record e j m.port)
  have profile : (s.lane m.port).release.active = (s.lane m.port).active ∧
      (s.lane m.port).release.ceiling = (s.lane m.port).ceiling := by
    unfold Lane.release
    simp only
    split <;> exact ⟨rfl, rfl⟩
  have runs := (s.lane m.port).release_runs
  show ((s.jobLeft e j).lane m.port).state = _ ∧ ((s.jobLeft e j).lane m.port).offered = _ ∧
    ((s.jobLeft e j).lane m.port).tapCommand = _
  rw [show (s.jobLeft e j).lane m.port = (t.dropReason m.port .listen).lane m.port from after]
  refine State.dropReason_advertises ?_ ?_ ?_ ?_ ?_ some_
  · rw [released]; exact runs.holder
  · rw [released, Lane.release_state]; exact held
  · rw [released, runs.hold]; exact only
  · rw [released, Lane.release_transferOwed]; exact clear
  · rw [released, record, profile.1, profile.2]; exact offers

end Ends

/-! ## The other engine's job (R167, R171) -/

namespace JobsFrom

variable {s : State}

theorem recordMember (j : ListenJob) (m : Member) : JobsFrom s (s.recordMember j m) := by
  have eq := s.foldl_recordMember { j with members := [m] }
  exact same (by rw [show s.recordMember j m = _ from eq])

theorem releasePort (e : EngineId) (p : Port) : JobsFrom s (s.releasePort e p) :=
  of_engine fun d => .inl (s.releasePort_engine d e p)

theorem dropReason (p : Port) (r : HoldReason) : JobsFrom s (s.dropReason p r) := lane (LaneOp.dropReason (g := False) r)

theorem listenDrop (p : Port) : JobsFrom s (s.listenDrop p) := by
  unfold State.listenDrop
  split
  next => exact refl s
  next e m _ =>
    have detached : JobsFrom s (s.detachMember e p) := of_engine fun d => by
      rw [State.detachMember_eq]
      by_cases here : d = e
      · subst here; exact .inr (.inr ⟨p, State.engine_setEngine_same ..⟩)
      · exact .inl (State.engine_setEngine_ne _ _ _ _ here)
    have released := detached.trans (releasePort e p)
    simp only
    split
    · exact released.trans (dropReason p .listen)
    · exact released

theorem startEntry (e : EngineId) (p : Port) : JobsFrom s (s.startEntry e p) := by
  let t := s.modifyEntry p fun x =>
    { x with state := .running, engine := some e, snapshot := some (x.snapshot.getD (s.lane p).snapshot) }
  have bound : JobsFrom s (t.setEngine e { Engine.idle with state := .preparing, bound := some p }) :=
    (same rfl : JobsFrom s t).trans (setEngine e rfl)
  exact (bound.trans (listenDrop p)).trans (lane (LaneOp.addReason (g := False) .sweep))

theorem removeEntry (p : Port) (o : RemovalOutcome) : JobsFrom s (s.removeEntry p o) :=
  (same rfl : JobsFrom s { s.post p (removalFlag o) with queue := s.queue.filter fun x => decide (x.port ≠ p) }).trans
    (lane (LaneOp.laneEntryRemoved (g := False)))

theorem engineChooses (e : EngineId) : JobsFrom s (s.engineChooses e) := by
  have removed : JobsFrom s s.removeGuarded := foldl (fun _ x => removeEntry (Entry.port x) _) _ s
  unfold State.engineChooses
  split
  · simp only
    split
    · exact removed.trans (startEntry e _)
    · exact removed
  · exact refl s

theorem startChoice : JobsFrom s s.startChoice := ((engineChooses 0).trans (engineChooses 1)).trans (engineChooses 0)

theorem endListenJob (e : EngineId) : JobsFrom s (s.endListenJob e) := by
  cases job : (s.engine e).job with
  | none => rw [State.endListenJob, job]; exact refl s
  | some j =>
    rw [State.endListenJob_eq job]
    have recorded : JobsFrom s (j.members.foldl (fun t m => t.recordMember j m) s) := foldl (fun _ m => recordMember j m) _ s
    have released : JobsFrom s (s.jobReleased e j) :=
      (recorded.trans (setEngine e rfl)).trans (foldl (fun _ m => releasePort e (Member.port m)) _ _)
    exact (released.trans (foldl (fun _ m => dropReason (Member.port m) .listen) _ _)).trans startChoice

end JobsFrom

end Sys2Proof.Machine
end

section
/-! The statement on the end of a listen job. -/

open Sys2Proof Sys2Proof.Machine

/-- Settles O40: the parts of `State.jobLeft`, and the key that a job keeps while it runs (`JobsFrom`). -/
theorem listenJobEnds : Obligations.ListenJobEnds := by
  refine ⟨fun s e j job => ?_, fun s e j awake job due => ?_, fun s e awake idle => ?_, fun s st b q taken peer named => ?_⟩
  · intro alien loud seen
    have level : alien = alienLevel := funext fun n => (alienLevel_eq n).symm
    have answer : seen = j.answer := funext fun m => by rw [j.answer_eq, ← level]
    refine ⟨s.jobLeft e j, State.endListenJob_eq job, ?_, s.jobLeft_engine e j, fun p => State.jobLeft_other,
      fun m here held => State.jobLeft_owns here held, fun m here given => State.jobLeft_listen here given,
      fun m here given nodup holder held only clear offered offers some_ =>
        State.jobLeft_advertises here given nodup holder held only clear offers some_⟩
    have heard : (fun t m => recordCoupling t ⟨m.port, j.station, j.port⟩ (alien m.reading) .heard) = j.heard := by
      rw [level]
      rfl
    have writes := s.jobLeft_writes e j
    rw [← answer, ← level, ← heard] at writes
    exact writes
  · refine (State.perform_taken _ awake).trans (State.next_settle (if_pos ?_))
    exact State.jobDue_iff.2 ⟨j, job, due⟩
  · refine (State.perform_taken _ awake).trans (State.next_settle (if_neg fun due => ?_))
    obtain ⟨j, job, ends⟩ := State.jobDue_iff.1 due
    exact idle j job ends
  · intro ended hasKey
    have same : s.endQuiet st q = ended := s.endQuiet_eq st q
    have takes : exec (.sweepEnd st b) s = .next ((ended.endJobOf 0 st q).endJobOf 1 st q).settle := by
      rw [← same]
      exact State.peer_named taken peer named fun t p => t.takeSweepEnd st p
    have quiet : JobsFrom s ended := same ▸ JobsFrom.endQuiet st q
    have first : JobsFrom s (ended.endListenJob 0) := quiet.trans (.endListenJob 0)
    refine ⟨fun e key alone => ?_, fun key0 key1 => ?_⟩
    · match e with
      | 0 =>
        rw [takes, State.endJobOf_key quiet key, State.endJobOf_other fun other => alone 1 (by decide) (first.key other)]
      | 1 =>
        rw [takes, State.endJobOf_other fun other => alone 0 (by decide) (quiet.key other), State.endJobOf_key quiet key]
    · rw [takes, State.endJobOf_key quiet key0, State.endJobOf_key first key1]

end

section
/-! SUPPORT. Every result an engine hands over is sound (R145, R149): its reflections are of kept levels, its fault distance
goes with a fault verdict, its cross level is at most 1000. -/

namespace Sys2Proof.Machine

/-! ## Reflections (R141, R142) -/

theorem clampInt_bounds {lo hi : Int} (le : lo ≤ hi) (x : Int) : lo ≤ clampInt lo hi x ∧ clampInt lo hi x ≤ hi := by
  unfold clampInt
  split
  · exact ⟨le_rfl, le⟩
  · split <;> constructor <;> omega

theorem compensatedLevel_natAbs_le (measured : Int) (gain : Nat) : (compensatedLevel measured gain).natAbs ≤ 1000 := by
  have bounds := clampInt_bounds (by decide : (-1000 : Int) ≤ 1000) (roundHalfAway (measured * gain) 1024)
  unfold compensatedLevel
  omega

/-- A reflection that is not dropped has a level of at least 150 permille, and its class is a fault verdict (R142). -/
theorem reflectionClass_some {level : Int} {v : Verdict} (kept : reflectionClass level = some v) :
    150 ≤ level.natAbs ∧ v.isFault = true := by
  unfold reflectionClass at kept
  split at kept
  · cases kept; exact ⟨by omega, rfl⟩
  split at kept
  · cases kept; exact ⟨by omega, rfl⟩
  split at kept
  · cases kept; exact ⟨by omega, rfl⟩
  split at kept
  · cases kept; exact ⟨by omega, rfl⟩
  · cases kept

/-- A reflection as the analysis keeps it: of some class, within the clamp of R141. -/
structure Reflection.Kept (r : Reflection) : Prop where
  classed : ∃ v, reflectionClass r.level = some v
  clamped : r.level.natAbs ≤ 1000

theorem keptReflections_kept {snap : Snapshot} {launch nf : Nat} {y : List Int} {r : Reflection}
    (here : r ∈ keptReflections snap launch nf y) : r.Kept := by
  obtain ⟨listed, classed⟩ := List.mem_filter.1 (List.mem_of_mem_take here)
  obtain ⟨k, -, rfl⟩ := List.mem_map.1 listed
  exact ⟨Option.isSome_iff_exists.1 classed, compensatedLevel_natAbs_le _ _⟩

theorem keptReflections_length_le (snap : Snapshot) (launch nf : Nat) (y : List Int) :
    (keptReflections snap launch nf y).length ≤ 3 := List.length_take_le _ _

/-! ## Cross levels (R143) -/

theorem crossView_level_le (snap : Snapshot) (launch : Nat) (q : Pair) (y : List Int) :
    (crossView snap launch q y).level ≤ 1000 := by
  unfold crossView
  split
  · exact Nat.zero_le _
  · exact Nat.min_le_left _ _

theorem largestCross_mem (v : CrossView) (l : List CrossView) : largestCross v l ∈ v :: l := by
  induction l generalizing v with
  | nil => exact List.mem_singleton.2 rfl
  | cons x l ih =>
    rw [largestCross]
    split
    · exact List.mem_cons_of_mem v (ih x)
    · exact ((List.sublist_cons_self x l).cons_cons v).mem (ih v)

/-! ## The verdict (R144) -/

/-- A fault distance exactly with a fault verdict (R149). -/
def Agrees (choice : Verdict × Option Nat) : Prop := choice.2.isSome = choice.1.isFault

theorem Reflection.Kept.agrees {r : Reflection} (kept : r.Kept) :
    Agrees ((reflectionClass r.level).getD .good, some r.distance) := by
  obtain ⟨v, classed⟩ := kept.classed
  rw [classed]
  exact (reflectionClass_some classed).2.symm

theorem openBeyond_mem {d : Nat} {refs : List Reflection} {r : Reflection} (found : openBeyond d refs = some r) : r ∈ refs :=
  List.mem_of_find?_eq_some found

/-- What a CROSSED event comes to: an OPEN or SHORT reflection close beyond it, else the event itself (R144). -/
def crossedChoice (refs : List Reflection) (v : CrossView) : Verdict × Option Nat :=
  match openBeyond v.distance refs with
  | some r => ((reflectionClass r.level).getD .good, some r.distance)
  | none => (.crossed v.pair, some v.distance)

theorem crossedChoice_agrees {refs : List Reflection} (kept : ∀ r ∈ refs, r.Kept) (v : CrossView) :
    Agrees (crossedChoice refs v) := by
  unfold crossedChoice
  split
  next r found => exact (kept r (openBeyond_mem found)).agrees
  next => rfl

/-- Every verdict is GOOD without a distance, or that of a kept reflection or a CROSSED event with its distance. -/
theorem chooseVerdict_agrees {refs : List Reflection} (kept : ∀ r ∈ refs, r.Kept) (crossed : List CrossView) :
    Agrees (chooseVerdict refs crossed) := by
  match refs, crossed with
  | [], [] => rfl
  | r :: _, [] => exact (kept r List.mem_cons_self).agrees
  | [], v :: vs => exact crossedChoice_agrees kept (nearestCross v vs)
  | r :: _, v :: vs =>
    unfold chooseVerdict
    simp only
    split
    · exact (kept r List.mem_cons_self).agrees
    · exact crossedChoice_agrees kept (nearestCross v vs)

/-! ## The result (R121, R145) -/

theorem PairResult.sound_iff {r : PairResult} : r.sound = true ↔ r.distance.isSome = r.verdict.isFault ∧
    r.reflections.length ≤ 3 ∧ (∀ x ∈ r.reflections, 150 ≤ x.level.natAbs ∧ x.level.natAbs ≤ 1000) ∧ r.cross ≤ 1000 := by
  simp only [PairResult.sound, Bool.and_eq_true, decide_eq_true_eq, List.all_eq_true, and_assoc]
  exact Iff.rfl

theorem untestedResult_sound (c : PairCapture) : (untestedResult c).sound = true :=
  PairResult.sound_iff.2 ⟨rfl, Nat.zero_le _, nofun, Nat.zero_le _⟩

theorem analysePair_sound (code : List Int) (snap : Snapshot) (c : PairCapture) : (analysePair code snap c).sound = true := by
  rw [PairResult.sound_iff]
  unfold analysePair
  simp only
  split
  · exact ⟨rfl, Nat.zero_le _, nofun, Nat.zero_le _⟩
  · refine ⟨chooseVerdict_agrees (fun r => keptReflections_kept) _, keptReflections_length_le _ _ _ _, fun r here => ?_, ?_⟩
    · obtain ⟨⟨v, classed⟩, clamped⟩ := keptReflections_kept here
      exact ⟨(reflectionClass_some classed).1, clamped⟩
    · split
      next => exact Nat.zero_le _
      next v vs views =>
        obtain ⟨q, -, same⟩ := List.mem_map.1 (views ▸ largestCross_mem v vs)
        rw [← same]
        exact crossView_level_le _ _ _ _

end Sys2Proof.Machine
end

section
/-! SUPPORT. Every cable record stays sound (R96, R149, R151, R153, R154) through every command: only a pair write and the
minute write a record, and a reset blanks them all. -/

namespace Sys2Proof.Machine

/-- Every port's record is sound. -/
def RecordsSound (s : State) : Prop := ∀ p, (s.record p).sound = true

theorem State.recordsSound_iff {s : State} : s.recordsSound = true ↔ RecordsSound s := by
  simp [State.recordsSound, RecordsSound]

theorem Serves.records {p : Port} {s t : State} (a : Serves p s t) : t.records = s.records := by
  obtain ⟨_, _, _, _, h⟩ := a.rest; rw [h]

theorem ServesQueue.records {s t : State} (a : ServesQueue s t) : t.records = s.records := by
  obtain ⟨_, _, _, _, h⟩ := a.rest; rw [h]

@[simp] theorem State.postCoord_records (s : State) (f : Frame) (e : Option EngineId) :
    (s.postCoord f e).records = s.records := by
  unfold State.postCoord
  split
  · rfl
  · split
    · rfl
    · split <;> rfl

/-- A minute more of age stays within its limit (R153). -/
theorem CableRecord.ageMinute_sound {r : CableRecord} (h : r.sound = true) : r.ageMinute.sound = true := by
  simp only [CableRecord.sound, Bool.and_eq_true, decide_eq_true_eq] at h ⊢
  obtain ⟨⟨⟨⟨status, overall⟩, allowed⟩, -⟩, pairs⟩ := h
  exact ⟨⟨⟨⟨status, overall⟩, allowed⟩, Nat.min_le_left _ _⟩, pairs⟩

namespace RecordsSound

theorem ite {c : Prop} [Decidable c] {s t : State} (a : c → RecordsSound s) (b : ¬c → RecordsSound t) :
    RecordsSound (if c then s else t) := by
  split
  next h => exact a h
  next h => exact b h

variable {s t : State} (h : RecordsSound s)
include h

/-! ## Writes that leave the records alone -/

theorem same (records : t.records = s.records) : RecordsSound t := fun p => by
  rw [State.record_of_records records]
  exact h p

theorem touches {p : Port} (a : Touches p s t) : RecordsSound t := h.same a.records

theorem serves {p : Port} (a : Serves p s t) : RecordsSound t := h.same a.records

theorem foldl {α : Type} {f : State → α → State} (k : ∀ u x, RecordsSound u → RecordsSound (f u x)) (l : List α) :
    RecordsSound (l.foldl f s) := by
  induction l generalizing s with
  | nil => exact h
  | cons x l ih => exact ih (k s x h)

theorem modifyLane (p : Port) (f : Lane → Lane) : RecordsSound (s.modifyLane p f) := h.same rfl

theorem modifyEngine (e : EngineId) (f : Engine → Engine) : RecordsSound (s.modifyEngine e f) := h.same rfl

theorem modifyEntry (p : Port) (f : Entry → Entry) : RecordsSound (s.modifyEntry p f) := h.same rfl

theorem postCoord (f : Frame) (e : Option EngineId) : RecordsSound (s.postCoord f e) := h.same (s.postCoord_records f e)

theorem requestSweep (r : SweepRequest) : RecordsSound (s.requestSweep r) := h.same (s.requestSweep_records r)

theorem removeEntry (p : Port) (o : RemovalOutcome) : RecordsSound (s.removeEntry p o) := h.serves (.removeEntry o)

theorem freeEngine (e : EngineId) (p : Port) : RecordsSound (s.freeEngine e p) := h.touches (.freeEngine e)

theorem addReason (p : Port) (r : HoldReason) : RecordsSound (s.addReason p r) := h.touches (.addReason r)

theorem dropReason (p : Port) (r : HoldReason) : RecordsSound (s.dropReason p r) := h.touches (.dropReason r)

theorem enterAdvertise (p : Port) (b : Bool) : RecordsSound (s.enterAdvertise p b) := h.touches (.enterAdvertise b)

theorem leaveUp (p : Port) : RecordsSound (s.leaveUp p) := h.touches .leaveUp

theorem transferAndRestore (p : Port) : RecordsSound (s.transferAndRestore p) := h.touches .transferAndRestore

/-! ## The writes of a record (R150, R153) -/

theorem setRecord (p : Port) {r : CableRecord} (sound : r.sound = true) : RecordsSound (s.setRecord p r) := fun q => by
  by_cases here : q = p
  · subst here; rw [State.record_setRecord_same]; exact sound
  · rw [State.record_setRecord_ne _ _ _ _ here]; exact h q

/-- A pair write of a sound result; the hand-over and the flag write no record. -/
theorem pairWrite (p : Port) (q : Pair) {x : PairResult} (sound : x.sound = true) (o : Origin) (c : Bool) :
    RecordsSound (s.pairWrite p q x o c) := by
  have written := h.setRecord p (CableRecord.write_sound (q := q) o c (h p) sound)
  have handed (old new : GradeSet) : RecordsSound (State.handOver _ p old new) :=
    ite (fun _ => written.touches .unparkByRecord) fun _ => written
  unfold State.pairWrite State.postOption
  simp only
  split
  · exact (handed _ _).touches (.post _)
  · exact handed _ _

theorem advanceMinute : RecordsSound s.advanceMinute :=
  (h.foldl (fun _ p k => k.setRecord p (CableRecord.ageMinute_sound (k p))) s.presentPorts :
    RecordsSound s.ageRecords).same rfl

/-! ## The course of a sweep (R113 to R127) -/

theorem failLane (p : Port) (r : LastFailure) (cable : Bool) : RecordsSound (s.failLane p r cable) := by
  let u := s.modifyLane p (·.countFailure r)
  have counted : RecordsSound u := h.modifyLane p _
  have asked : RecordsSound
      (if (s.lane p).asksSweep cable then u.requestSweep (u.automaticRequest p .laneFailure) else u) :=
    ite (fun _ => counted.requestSweep _) fun _ => counted
  have after {t : State} (k : RecordsSound t) (queued : Bool) (o : LadderOutcome) :
      RecordsSound (t.afterFailure p queued o) := by
    cases o with
    | park => exact k.touches .enterParked
    | retry | downshift => exact ite (fun _ => k.touches .enterSweepWait) fun _ => k.touches .enterBackoff
  exact after (asked.touches (.setLane _)) _ _

theorem enterUp (p : Port) : RecordsSound (s.enterUp p) := by
  have up : RecordsSound ((s.modifyLane p (·.goUp s.ms)).post p .linkUp) := h.same rfl
  unfold State.enterUp State.preempt
  split
  · exact ite (fun _ => up.removeEntry p _) fun _ => up
  · exact up

theorem postEndFrame (e : EngineId) (p : Port) : RecordsSound (s.postEndFrame e p) := by
  unfold State.postEndFrame
  refine RecordsSound.modifyEngine ?_ e _
  split
  · exact h
  · exact h.postCoord _ _
  · exact h.postCoord _ _

theorem completeSweep (e : EngineId) (p : Port) : RecordsSound (s.completeSweep e p) :=
  (((h.postCoord _ _).modifyEngine e _).freeEngine e p).removeEntry p _

theorem cancelStop (e : EngineId) (p : Port) : RecordsSound (s.cancelStop e p) :=
  ((h.postEndFrame e p).freeEngine e p).removeEntry p _

theorem suspendSweep (e : EngineId) (p : Port) : RecordsSound (s.suspendSweep e p) :=
  (((h.postEndFrame e p).freeEngine e p).modifyEntry p _).touches .laneEntrySuspended

theorem suspendOn (p : Port) (b : Bool) : RecordsSound (s.suspendOn p b) := by
  unfold State.suspendOn
  split
  · split
    · exact ite (fun _ => h.suspendSweep _ p) fun _ => h
    · exact h
  · exact h

theorem beginPair (e : EngineId) (p : Port) (q : Pair) : RecordsSound (s.beginPair e p q) := h.touches (.beginPair e q)

theorem passEnd (e : EngineId) (x : Entry) : RecordsSound (s.passEnd e x) :=
  ite (fun _ => h.completeSweep e x.port) fun _ => ite (fun _ => h.suspendSweep e x.port) fun _ =>
    ((h.postCoord _ _).modifyEntry x.port _).modifyEngine e _

theorem afterPair (e : EngineId) (p : Port) (q : Pair) : RecordsSound (s.afterPair e p q) := by
  unfold State.afterPair
  split
  · exact h
  · refine ite (fun _ => ite (fun _ => h.completeSweep e p) fun _ => h.cancelStop e p) fun _ => ?_
    split
    · exact ite (fun _ => h.suspendSweep e p) fun _ => h.beginPair e p _
    · exact h.passEnd e _

theorem writePair (e : EngineId) (p : Port) (q : Pair) {r : PairResult} (sound : r.sound = true) :
    RecordsSound (s.writePair e p q r) := by
  unfold State.writePair
  split
  · exact h
  · exact (((h.modifyEntry p _).modifyEngine e _).pairWrite p q sound _ _).afterPair e p q

theorem afterShot (e : EngineId) (p : Port) (q : Pair) (d : Nat) : RecordsSound (s.afterShot e p q d) :=
  have untestable := h.writePair e p q (untestedResult_sound ((s.engine e).capture q))
  ite (fun _ => untestable) fun _ => ite (fun _ => h.touches (.fireShot e q)) fun _ =>
    ite (fun _ => untestable) fun _ => h.modifyEngine e _

/-- The confidence, which a noisy result lowers (R122), has no part in the soundness of a result. -/
theorem endAnalysis (e : EngineId) (p : Port) (q : Pair) : RecordsSound (s.endAnalysis e p q) := by
  unfold State.endAnalysis
  split
  · exact h
  · exact ite (fun _ => (h.modifyEngine e _).afterPair e p q) fun _ =>
      h.writePair e p q (PairResult.sound_iff.2 (PairResult.sound_iff.1 (analysePair_sound _ _ _)))

theorem settled (e : EngineId) (x : Entry) : RecordsSound (s.settled e x) := by
  unfold State.settled
  simp only
  split
  · exact ((h.postCoord _ _).modifyEngine e _).beginPair e x.port _
  · exact (h.postCoord _ _).modifyEngine e _

theorem shotCompleted (e : EngineId) (p : Port) (b : Four ShotBlock) : RecordsSound (s.shotCompleted e p b) := by
  unfold State.shotCompleted
  split
  · exact ((h.modifyLane p _).modifyEngine e _).afterShot e p _ _
  · exact h.modifyLane p _

/-! ## Calibration and start-up (R37 to R39) -/

theorem takeCalibration (e : EngineId) : RecordsSound (s.takeCalibration e) := by
  unfold State.takeCalibration
  split <;> exact h.same rfl

theorem afterCalShot (e : EngineId) : RecordsSound (s.afterCalShot e) := by
  unfold State.afterCalShot
  split
  · exact h
  · exact ite (fun _ => h.same rfl) fun _ => h.modifyEngine e _

theorem shotFailed (p : Port) : RecordsSound (s.shotFailed p) := by
  have closed := h.modifyLane p Lane.closeCapture
  unfold State.shotFailed
  simp only
  split
  next => exact closed
  next e _ =>
    split
    case h_1 => exact closed.afterCalShot e
    case h_2 =>
      split
      · exact (closed.modifyEngine e _).afterShot e p _ _
      · exact closed
    all_goals exact closed

theorem finishCalibration (e : EngineId) : RecordsSound (s.finishCalibration e) := by
  unfold State.finishCalibration
  split
  · exact h
  · exact ((h.modifyLane _ _).touches (.releasePort e)).takeCalibration e

theorem startupEnd : RecordsSound s.startupEnd := by
  have leaves (t : State) (p : Port) (k : RecordsSound t) : RecordsSound (t.leaveStarting p) :=
    ite (fun _ => (k.transferAndRestore p).enterAdvertise p true) fun _ => (k.transferAndRestore p).touches .enterDisabled
  exact ite (fun _ => (h.foldl leaves s.presentPorts).same rfl) fun _ => h

/-! ## Listen jobs and the frames of peers (R164 to R174) -/

theorem takeQuietAsk (st : Station) (port : Port) (units : Byte) : RecordsSound (s.takeQuietAsk st port units) :=
  h.foldl (fun _ _ k => k.touches (.quietAskLane _)) _

theorem endQuiet (st : Station) (port : Port) : RecordsSound (s.endQuiet st port) :=
  h.foldl (fun _ _ k => k.touches (.quietEndLane st port)) _

theorem takeSweepStart (st : Station) (port : Port) (units : Byte) : RecordsSound (s.takeSweepStart st port units) := by
  unfold State.takeSweepStart
  simp only
  split
  · exact h
  next e _ =>
    refine ite (fun _ => h) fun _ => ?_
    have started (job : Engine) : RecordsSound (s.setEngine e job) := h.same rfl
    have listening (job : Engine) := (started job).foldl (f := fun t m => t.addReason (Member.port m) .listen)
      fun _ m k => k.addReason m.port .listen
    exact (listening _ _).foldl (fun _ _ k => k.touches (.listenPort e)) _

theorem endListenJob (e : EngineId) : RecordsSound (s.endListenJob e) := by
  unfold State.endListenJob
  split
  · exact h
  next j _ =>
    have recorded := h.foldl (f := fun t m => t.recordMember j m) (fun _ m k =>
      ite (fun _ => (k.same rfl : RecordsSound (State.learn _ _ _ _)).postCoord _ _) fun _ => k) j.members
    have freed : RecordsSound (State.setEngine _ e .idle) := recorded.same rfl
    have released := freed.foldl (f := fun t m => t.releasePort e (Member.port m))
      (fun _ _ k => k.touches (.releasePort e)) j.members
    exact (released.foldl (fun _ m k => k.dropReason (Member.port m) .listen) _).same (ServesQueue.startChoice _).records

theorem takeSweepEnd (st : Station) (port : Port) : RecordsSound (s.takeSweepEnd st port) := by
  have endJobOf {t : State} (k : RecordsSound t) (e : EngineId) : RecordsSound (t.endJobOf e st port) :=
    ite (fun _ => k.endListenJob e) fun _ => k
  exact endJobOf (endJobOf (h.endQuiet st port) 0) 1

theorem fromPeer (st : Station) {f : State → State} (k : RecordsSound (f s)) : RecordsSound (s.fromPeer st f) :=
  ite (fun _ => h) fun _ => ite (fun _ => k) fun _ => h

theorem withPeerPort (b : Byte) {f : Port → State} (k : ∀ p, RecordsSound (f p)) : RecordsSound (s.withPeerPort b f) := by
  unfold State.withPeerPort
  split
  · exact k _
  · exact h

theorem quietAskFrom (st : Station) (port units : Byte) : RecordsSound (s.quietAskFrom st port units) :=
  h.fromPeer st (h.withPeerPort port fun p => h.takeQuietAsk st p units)

theorem sweepStartFrom (st : Station) (port units : Byte) : RecordsSound (s.sweepStartFrom st port units) :=
  h.fromPeer st (h.withPeerPort port fun p => h.takeSweepStart st p units)

theorem sweepEndFrom (st : Station) (port : Byte) : RecordsSound (s.sweepEndFrom st port) :=
  h.fromPeer st (h.withPeerPort port fun p => h.takeSweepEnd st p)

theorem quietEndFrom (st : Station) (port : Byte) : RecordsSound (s.quietEndFrom st port) :=
  h.fromPeer st (h.withPeerPort port fun p => h.endQuiet st p)

theorem couplingSeenFrom (st : Station) (swept port : Byte) (level : BitVec 16) :
    RecordsSound (s.couplingSeenFrom st swept port level) := by
  refine h.fromPeer st ?_
  split
  · exact ite (fun _ => h) fun _ => h.same rfl
  · exact h

theorem takeCoordination (kind : Byte) (st : Station) (payload : List Byte) :
    RecordsSound (s.takeCoordination kind st payload) := by
  unfold State.takeCoordination
  split
  · exact h.quietAskFrom st _ _
  · exact h.sweepStartFrom st _ _
  · exact h.sweepEndFrom st _
  · exact h.quietEndFrom st _
  · exact h.couplingSeenFrom st _ _ _
  · exact h

/-! ## The survey and the holdoffs (R178, R181) -/

theorem restartSurvey : RecordsSound s.restartSurvey := h.same rfl

theorem expireSurvey : RecordsSound s.expireSurvey := by
  unfold State.expireSurvey
  split
  next p _ =>
    have asked := h.requestSweep (s.automaticRequest p .survey)
    exact restartSurvey (ite (fun _ => asked.same rfl) fun _ => asked)
  next => exact ite (fun _ => h.same rfl) fun _ => h.same rfl

theorem expireHoldoff (p : Port) : RecordsSound (s.expireHoldoff p) :=
  have cleared : RecordsSound (s.setHoldoff p none) := h.same rfl
  ite (fun _ => cleared.requestSweep _) fun _ => cleared

/-! ## The events of the taps (R52 to R58) -/

theorem energyRises (p : Port) : RecordsSound (s.energyRises p) := by
  have dropped := ((h.modifyLane p fun l => { l with energy := true }).suspendOn p true).touches (.listenDrop (p := p))
  exact (dropped.same rfl : RecordsSound (State.setHoldoff _ p none)).touches .sweepWaitTest

theorem energyFalls (p : Port) : RecordsSound (s.energyFalls p) :=
  have noted := h.modifyLane p fun l => { l with energy := false }
  ite (fun _ => noted.enterAdvertise p false) fun _ => ite (fun _ => noted.failLane p _ _) fun _ => noted

theorem firstWord (p : Port) (offer : GradeSet) (fault : Bool) : RecordsSound (s.firstWord p offer fault) :=
  have entered : RecordsSound (s.enterNegotiate p) := h.touches .enterNegotiate
  ite (fun _ => entered.failLane p _ _) fun _ => entered.modifyLane p _

theorem completeNegotiation (p : Port) : RecordsSound (s.completeNegotiation p) := by
  unfold State.completeNegotiation
  simp only
  split
  · exact h.touches (.enterTrain _)
  · exact h.failLane p _ _

theorem nextWord (p : Port) (offer : GradeSet) (ack fault : Bool) : RecordsSound (s.nextWord p offer ack fault) :=
  have noted : RecordsSound (s.setLane p { s.lane p with neg := (s.lane p).neg.word offer ack }) := h.same rfl
  ite (fun _ => h.failLane p _ _) fun _ => ite (fun _ => noted.touches (.laneIssue _)) fun _ =>
    ite (fun _ => noted.completeNegotiation p) fun _ => noted

theorem legacyDetected (p : Port) : RecordsSound (s.legacyDetected p) :=
  ite (fun _ => h.touches (.enterTrain .g1)) fun _ => h.failLane p _ _

theorem loseLink (p : Port) : RecordsSound (s.loseLink p) := by
  let u := (s.leaveUp p).modifyLane p fun x => { x with transferOwed := true, grade := none }
  have dropped : RecordsSound u := (h.leaveUp p).modifyLane p _
  have ready : RecordsSound (if (s.lane p).active.autoSweep then u.setHoldoff p (some (u.after Config.holdoffMs)) else u) :=
    ite (fun _ => dropped.same rfl) fun _ => dropped
  exact ite (fun _ => ready.failLane p _ _) fun _ => ite (fun _ => ready.enterAdvertise p false) fun _ =>
    (ready.modifyLane p _).enterAdvertise p false

/-! ## The owners' decisions (R41 to R43, R86 to R89, R113, R114, R177) -/

theorem enableLane (p : Port) : RecordsSound (s.enableLane p) :=
  ite (fun _ => (h.transferAndRestore p).enterAdvertise p true) fun _ => h

theorem disableLane (p : Port) : RecordsSound (s.disableLane p) := by
  have owed : RecordsSound (if (s.lane p).state = .up
      then (s.leaveUp p).modifyLane p fun l => { l with transferOwed := true } else s) :=
    ite (fun _ => (h.leaveUp p).modifyLane p _) fun _ => h
  have quieted := owed.modifyLane p Lane.clearQuiet
  exact ite (fun _ => quieted) fun _ => quieted.touches .enterDisabled

theorem carryOutRetrain (p : Port) : RecordsSound (s.carryOutRetrain p) :=
  have dropped : RecordsSound (if (s.lane p).state = .up then s.leaveUp p else s) := ite (fun _ => h.leaveUp p) fun _ => h
  (dropped.transferAndRestore p).enterAdvertise p true

theorem retrainLane (p : Port) : RecordsSound (s.retrainLane p).1 := by
  unfold State.retrainLane
  split
  · exact h
  · split
    · exact h
    · exact h.carryOutRetrain p

theorem unparkLane (p : Port) : RecordsSound (s.unparkLane p).1 := by
  unfold State.unparkLane
  split
  · exact h.retrainLane p
  · exact h

theorem sweepDecision (p : Port) (mask : PairSet) (depth : Nat) (force : Bool) :
    RecordsSound (s.sweepDecision p mask depth force).1 := by
  unfold State.sweepDecision
  simp only
  repeat (split; exact h)
  exact h.requestSweep _

theorem cancelDecision (p : Port) : RecordsSound (s.cancelDecision p) := by
  unfold State.cancelDecision
  split
  · exact h
  · split
    · exact ite (fun _ => h) fun _ => ite (fun _ => (h.modifyEntry p _).cancelStop _ p) fun _ => h.modifyEntry p _
    · exact h
    · exact h.removeEntry p _

theorem profileDecision (b : ProfileBytes) : RecordsSound (s.profileDecision b).1 := by
  have written := h.foldl (f := fun t p => t.modifyLane p fun l => l.writeShadow b)
    (fun _ p k => k.modifyLane p _) (portsOf (b.mask.setWidth 12))
  unfold State.profileDecision
  simp only
  split
  · exact h
  · split
    · exact h
    · exact written.foldl (fun _ _ k => k.touches (.applyProfile _)) _

theorem surveyDecision (interval : Nat) (continuous : Bool) : RecordsSound (s.surveyDecision interval continuous).1 :=
  ite (fun _ => h.same rfl) fun _ => h.same rfl

/-! ## The requests (R18 to R30) -/

theorem answer (k : RequestKind) (v : Decision) : RecordsSound (s.answer k v) := h.same rfl

theorem withPort {k : RequestKind} {b : Byte} {f : Port → State} (decided : ∀ p, RecordsSound (f p)) :
    RecordsSound (s.withPort k b f) := by
  unfold State.withPort
  split
  · exact decided _
  · exact h.answer _ _

theorem laneControl (port action : Byte) : RecordsSound (s.laneControl port action) := by
  refine h.withPort fun p => ?_
  split
  · exact (h.enableLane p).answer _ _
  · exact (h.disableLane p).answer _ _
  · exact (h.retrainLane p).answer _ _
  · exact (h.unparkLane p).answer _ _
  · exact h.answer _ _

theorem sweepRequest (port mask depth flags : Byte) : RecordsSound (s.sweepRequest port mask depth flags) :=
  h.withPort fun p => ite (fun _ => h.answer _ _) fun _ => (h.sweepDecision p _ _ _).answer _ _

theorem cancelRequest (port : Byte) : RecordsSound (s.cancelRequest port) :=
  h.withPort fun p => (h.cancelDecision p).answer _ _

theorem profileRequest (b : ProfileBytes) : RecordsSound (s.profileRequest b) :=
  ite (fun _ => h.answer _ _) fun _ => ite (fun _ => h.answer _ _) fun _ => (h.profileDecision b).answer _ _

theorem guardRequest (mask : BitVec 16) : RecordsSound (s.guardRequest mask) :=
  ite (fun _ => h.answer _ _) fun _ => h.same rfl

theorem surveyRequest (interval mode : Byte) : RecordsSound (s.surveyRequest interval mode) :=
  ite (fun _ => h.answer _ _) fun _ => (h.surveyDecision _ _).answer _ _

theorem portQuery (port : Byte) : RecordsSound (s.portQuery port) := h.withPort fun _ => h.same rfl

theorem recordRead (port : Byte) : RecordsSound (s.recordRead port) := h.withPort fun _ => h.same rfl

/-- STATION_RESET keeps every record (R30). -/
theorem stationReset : RecordsSound s.stationReset := by
  have resets (t : State) (p : Port) (k : RecordsSound t) : RecordsSound (t.resetLane p) :=
    have restored := (k.modifyLane p Lane.clearForReset).transferAndRestore p
    ite (fun _ => restored.touches .laneCommand) fun _ => restored.enterAdvertise p true
  have freed : RecordsSound s.resetSweeps := h.same rfl
  have restarted : RecordsSound s.resetSweeps.resetSurvey := ite (fun _ => freed.same rfl) fun _ => freed.same rfl
  exact (restarted.foldl resets s.resetSweeps.resetSurvey.presentPorts).same rfl

/-! ## Requests and frames handed on, and the transmitter (R7 to R9) -/

theorem takeRequest {f : State → State} (decided : RecordsSound (f s)) : RecordsSound (s.takeRequest f) :=
  ite (fun _ => h.same rfl) fun _ => ite (fun _ => h.same rfl) fun _ => decided

theorem decideRequest {k : RequestKind} {payload : List Byte} {f : State → State}
    (decided : Machine.decideRequest k payload = some f) : RecordsSound (f s) := by
  cases k with
  | stationReset => match payload, decided with | [], rfl => exact h.stationReset
  | laneControl => match payload, decided with | [_, _], rfl => exact h.laneControl _ _
  | sweep => match payload, decided with | [_, _, _, _], rfl => exact h.sweepRequest _ _ _ _
  | cancelSweep => match payload, decided with | [_], rfl => exact h.cancelRequest _
  | setProfile =>
    match payload, decided with
    | [_, _, _, _, _, _, _, _, _, _, _, _, _], rfl => exact h.profileRequest _
  | setGuard => match payload, decided with | [_, _], rfl => exact h.guardRequest _
  | setSurvey => match payload, decided with | [_, _], rfl => exact h.surveyRequest _ _
  | queryStation => match payload, decided with | [], rfl => exact h.same rfl
  | queryPort => match payload, decided with | [_], rfl => exact h.portQuery _
  | readRecord => match payload, decided with | [_], rfl => exact h.recordRead _
  | readCoupling => match payload, decided with | [_], rfl => exact h.same rfl
  | clearCoupling => match payload, decided with | [], rfl => exact h.same rfl

theorem takeFrame (kind header : Byte) (payload : List Byte) (check : Byte) :
    RecordsSound (s.takeFrame kind header payload check) := by
  have after : RecordsSound { s with rx := .afterFrame } := h.same rfl
  refine ite (fun _ => h.same rfl) fun _ => ite (fun _ => ?_) fun _ => h.same rfl
  rcases State.accept_cases { s with rx := .afterFrame } kind (header.extractLsb' 4 4) (header.extractLsb' 0 4) payload
    with e | e | e | ⟨k, f, -, decided, e⟩ | e <;> rw [e]
  · exact after
  · exact after.same rfl
  · exact after.same rfl
  · exact after.takeRequest (after.decideRequest decided)
  · exact after.takeCoordination _ _ _

theorem leaveQueue (place : TxPlace) : RecordsSound (s.leaveQueue place) := by
  cases place with
  | coordination | portNotice => exact h.same rfl
  | stationNotice => exact ite (fun _ => h.same rfl) fun _ => h
  | reply =>
    cases list : s.replyList with
    | nil => rw [State.leaveQueue_reply_nil list]; exact h
    | cons r rest => rw [State.leaveQueue_reply_cons list]; exact h.same rfl

theorem collide (f : TxFrame) : RecordsSound (s.collide f) :=
  have stopped : RecordsSound s.collided := h.same rfl
  ite (fun _ => (stopped.leaveQueue f.place).same rfl) fun _ => stopped

end RecordsSound

/-! ## The forms of a command -/

/-- Where the outcome is a state, its records are sound. -/
def RecordsAfter (o : Host.Outcome State Fault Refusal) : Prop := ∀ t, o = .next t → RecordsSound t

namespace RecordsAfter

variable {s : State} (h : RecordsSound s)
include h

theorem perform {f : State → State} (k : RecordsSound (f s)) : RecordsAfter (s.perform f) := by
  intro t ran
  unfold State.perform at ran
  split at ran <;> cases ran
  · exact h
  · exact k.same (State.settle_records _)

theorem tapEvent {p : Port} {f : State → State} (k : RecordsSound (f s)) : RecordsAfter (s.tapEvent p f) :=
  perform h (.ite (fun _ => k) fun _ => h)

theorem request {f : State → State} (k : RecordsSound (f s)) : RecordsAfter (s.perform fun t => t.takeRequest f) :=
  perform h (h.takeRequest k)

theorem plainPulse (p : Port) : RecordsAfter (execPlainPulse p s) := by
  have counted (l : Lane) : RecordsSound (s.setLane p l) := h.same rfl
  exact tapEvent h (.ite (fun _ => .ite (fun _ => (counted _).legacyDetected p) fun _ => counted _) fun _ => h)

theorem captureDone (p : Port) (tag : Byte) (data : Capture) : RecordsAfter (execCaptureDone p tag data s) := by
  have ignored : RecordsAfter (s.perform id) := perform h h
  unfold execCaptureDone
  split
  next => exact ignored
  next =>
    split
    next => exact ignored
    next e _ =>
      split
      case h_1 => exact perform h (h.shotCompleted e p _)
      case h_2 => exact perform h (((h.modifyLane p _).modifyEngine e _).afterCalShot e)
      case h_3 => exact perform h (h.modifyEngine e _)
      case h_10 | h_11 | h_12 => exact ignored
      all_goals exact fun _ stopped => nomatch stopped

theorem collisionError : RecordsAfter (execCollisionError s) := by
  refine perform h ?_
  split
  · exact h.collide _
  · exact h

theorem frameSent : RecordsAfter (execFrameSent s) := by
  refine perform h ?_
  split
  · exact (h.leaveQueue _).same rfl
  · exact h

theorem burst (p : Port) (offer : GradeSet) (ack fault : Bool) : RecordsAfter (execBurst p offer ack fault s) := by
  refine tapEvent h ?_
  split
  · exact h.firstWord p offer fault
  · exact h.nextWord p offer ack fault
  all_goals exact h

theorem trainFault (p : Port) (kind : TrainFaultKind) (q : Pair) : RecordsAfter (execTrainFault p kind q s) := by
  refine tapEvent h ?_
  split
  · exact .ite (fun _ => h.failLane p _ _) fun _ => h
  · exact h

theorem settleExpiry (e : EngineId) : RecordsAfter (execSettleExpiry e s) := by
  refine perform h (.ite (fun _ => ?_) fun _ => h)
  split
  · exact h.settled e _
  · exact h.modifyEngine e _

theorem preparePass (e : EngineId) : RecordsAfter (execPreparePass e s) := by
  refine perform h (.ite (fun _ => ?_) fun _ => h)
  split
  · exact (h.postCoord _ _).modifyEngine e _
  · exact h

theorem analysisEnd (e : EngineId) : RecordsAfter (execAnalysisEnd e s) := by
  refine perform h (.ite (fun _ => ?_) fun _ => h)
  simp only
  split
  · exact (h.modifyEngine e _).endAnalysis e _ _
  · exact h.modifyEngine e _

end RecordsAfter

/-! ## The resets (R35, R36) -/

theorem State.powerOnValues_recordsSound (s : State) (station : Station) (twelve aut : Bool) :
    RecordsSound (s.powerOnValues station twelve aut) := fun p => by
  have blank : (s.powerOnValues station twelve aut).record p = .neverTested := by
    simp [State.record, State.powerOnValues]
  rw [blank]
  exact CableRecord.neverTested_sound

theorem execResetAssert_recordsAfter (s : State) : RecordsAfter (execResetAssert s) := by
  rintro _ ⟨⟩
  exact (s.powerOnValues_recordsSound s.station s.twelvePorts s.autostart).same rfl

theorem execResetRelease_recordsAfter (s : State) (sta : BitVec 3) (pcs aut : Bool) :
    RecordsAfter (execResetRelease sta pcs aut s) := by
  rintro _ ⟨⟩
  let u := s.powerOnValues (strapStation sta) pcs aut
  have listed : RecordsSound { u with calList := u.presentPorts } :=
    (s.powerOnValues_recordsSound (strapStation sta) pcs aut).same rfl
  exact (listed.takeCalibration 0).takeCalibration 1

/-! ## Every command -/

/-- Every command keeps every record sound. -/
theorem exec_recordsAfter (c : Instr) {s : State} (h : RecordsSound s) : RecordsAfter (exec c s) := by
  cases c <;> rw [exec]
  case resetAssert => exact execResetAssert_recordsAfter s
  case resetRelease => exact execResetRelease_recordsAfter s _ _ _
  case minuteAdvance => exact .perform h (.ite (fun _ => h.advanceMinute) fun _ => h)
  case frameReceived => exact .perform h (.ite (fun _ => h.takeFrame _ _ _ _) fun _ => h)
  case frameBreak | frameLengthOverflow | trailingCell | lineIdle | newFrame | arbitrationLost =>
    exact .perform h (.ite (fun _ => h.same rfl) fun _ => h)
  case collisionError => exact .collisionError h
  case frameSent => exact .frameSent h
  case stationReset => exact .request h h.stationReset
  case enable | disable | retrain | unpark => exact .request h (h.laneControl _ _)
  case sweep => exact .request h (h.sweepRequest _ _ _ _)
  case cancelSweep => exact .request h (h.cancelRequest _)
  case setProfile => exact .request h (h.profileRequest _)
  case setGuard => exact .request h (h.guardRequest _)
  case setSurvey => exact .request h (h.surveyRequest _ _)
  case queryStation | readCoupling | clearCoupling => exact .request h (h.same rfl)
  case queryPort => exact .request h (h.portQuery _)
  case readRecord => exact .request h (h.recordRead _)
  case quietAsk => exact .perform h (h.quietAskFrom _ _ _)
  case quietEnd => exact .perform h (h.quietEndFrom _ _)
  case sweepStart => exact .perform h (h.sweepStartFrom _ _ _)
  case sweepEnd => exact .perform h (h.sweepEndFrom _ _)
  case couplingSeen => exact .perform h (h.couplingSeenFrom _ _ _ _)
  case energyOn p => exact .tapEvent h (.ite (fun _ => h) fun _ => h.energyRises p)
  case energyOff p => exact .tapEvent h (.ite (fun _ => h.energyFalls p) fun _ => h)
  case burst p offer ack fault => exact .burst h p offer ack fault
  case plainPulse p => exact .plainPulse h p
  case trainProgress p _ => exact .tapEvent h (.ite (fun _ => h.enterUp p) fun _ => h)
  case trainFault p kind q => exact .trainFault h p kind q
  case linkLost p => exact .tapEvent h (.ite (fun _ => h.loseLink p) fun _ => h)
  case powerDetectBegin p =>
    exact .tapEvent h (.ite (fun _ => h) fun _ => ((h.modifyLane p _).addReason p .power).suspendOn p false)
  case powerDetectEnd p => exact .tapEvent h (.ite (fun _ => (h.modifyLane p _).dropReason p .power) fun _ => h)
  case captureDone p tag data => exact .captureDone h p tag data
  case captureTimeout p => exact .tapEvent h (.ite (fun _ => h.shotFailed p) fun _ => h)
  case calibrationResult e =>
    exact .perform h (.ite (fun _ => .ite (fun _ => ((h.finishCalibration 0).finishCalibration 1).startupEnd) fun _ =>
      (h.finishCalibration e).startupEnd) fun _ => h)
  case negWindowExpiry p | trainWindowExpiry p => exact .tapEvent h (.ite (fun _ => h.failLane p _ _) fun _ => h)
  case backoffExpiry p => exact .tapEvent h (.ite (fun _ => h.enterAdvertise p false) fun _ => h)
  case quietRecordExpiry => exact .tapEvent h (.ite (fun _ => h.touches (.quietEndLane _ _)) fun _ => h)
  case settleExpiry e => exact .settleExpiry h e
  case retryWaitExpiry e => exact .perform h (.ite (fun _ => h.modifyEngine e _) fun _ => h)
  case preparePass e => exact .preparePass h e
  case analysisEnd e => exact .analysisEnd h e
  case listenJobEnd e => exact .perform h (.ite (fun _ => h.endListenJob e) fun _ => h)
  case holdoffExpiry p => exact .tapEvent h (.ite (fun _ => h.expireHoldoff p) fun _ => h)
  case surveyExpiry => exact .perform h (.ite (fun _ => h.expireSurvey) fun _ => h)

end Sys2Proof.Machine
end

section
/-! The statement on what every step keeps of the cable records. -/

open Sys2Proof Sys2Proof.Machine

/-- Settles O12: records change by a pair write, which writes header and allowed set afresh from the pair records and takes only
results that an engine makes (`analysePair_sound`), by the minute, which counts an age, and by a reset. -/
theorem stepKeepsRecords : Obligations.StepKeepsRecords := by
  intro s t sound next
  rw [State.recordsSound_iff] at sound ⊢
  rcases step_cases next with ⟨c, pending, free, ran⟩ | rfl | rfl
  · have moved : RecordsSound { s with pending := pending, freeCount := free } := sound.same rfl
    exact exec_recordsAfter c moved t ran
  · exact sound
  · exact sound.same rfl

end

section
/-! SUPPORT. The header and the allowed set of a cable record, by what its pair records hold (R96, R151, R154), the change flag
of a write (R155), and the hand-over to the lane (R97, R106). -/

namespace Sys2Proof.Machine

/-! ## The four pair records -/

/-- The pair records in pair order. -/
def pairList {α : Type} (f : Four α) : List α := [f.a, f.b, f.c, f.d]

theorem mem_allPairs (q : Pair) : q ∈ allPairs := by cases q <;> decide

theorem mem_pairList {α : Type} {f : Four α} {x : α} : x ∈ pairList f ↔ ∃ q, atPair f q = x := by
  constructor
  · intro here
    simp only [pairList, List.mem_cons, List.not_mem_nil, or_false] at here
    rcases here with rfl | rfl | rfl | rfl
    exacts [⟨.a, rfl⟩, ⟨.b, rfl⟩, ⟨.c, rfl⟩, ⟨.d, rfl⟩]
  · rintro ⟨q, rfl⟩
    cases q <;> simp [pairList, atPair]

theorem any_allPairs {α : Type} {f : Four α} {test : α → Bool} :
    (allPairs.any fun q => test (atPair f q)) = true ↔ ∃ x ∈ pairList f, test x = true := by
  simp only [List.any_eq_true, mem_allPairs, true_and, mem_pairList, exists_exists_eq_and]

theorem PairRecord.tested_iff {x : PairRecord} : x.tested = true ↔ x.verdict ≠ none := Option.isSome_iff_ne_none

theorem Verdict.isFault_eq (v : Verdict) : v.isFault = (decide (v ≠ .good) && decide (v ≠ .untestable)) := by
  cases v <;> simp [Verdict.isFault]

/-! ## Status (R151) -/

theorem testedCount_four {f : Four PairRecord} (all : ∀ x ∈ pairList f, x.verdict ≠ none) : testedCount f = 4 :=
  List.length_filter_eq_length_iff.2 fun q _ => PairRecord.tested_iff.2 (all _ (mem_pairList.2 ⟨q, rfl⟩))

theorem testedCount_lt {f : Four PairRecord} (some_ : ∃ x ∈ pairList f, x.verdict = none) : testedCount f < 4 := by
  obtain ⟨x, here, untested⟩ := some_
  obtain ⟨q, rfl⟩ := mem_pairList.1 here
  refine (List.length_filter_lt_length_iff_exists (l := allPairs)).2 ⟨q, mem_allPairs q, fun tested => ?_⟩
  exact PairRecord.tested_iff.1 tested untested

theorem testedCount_pos {f : Four PairRecord} {q : Pair} (tested : (atPair f q).tested = true) : 0 < testedCount f :=
  List.length_pos_of_mem (List.mem_filter.2 ⟨mem_allPairs q, tested⟩)

theorem statusOf_complete {f : Four PairRecord} (all : ∀ x ∈ pairList f, x.verdict ≠ none) : statusOf f = .complete := by
  rw [statusOf, testedCount_four all]
  rfl

theorem statusOf_partly {f : Four PairRecord} {q : Pair} (tested : (atPair f q).tested = true)
    (some_ : ∃ x ∈ pairList f, x.verdict = none) : statusOf f = .partly := by
  have few := testedCount_lt some_
  have one := testedCount_pos tested
  unfold statusOf
  split
  · omega
  · omega
  · rfl

/-! ## Overall verdict (R154) -/

/-- The pair is not TESTED, or UNTESTABLE. -/
theorem PairRecord.undecided_iff {x : PairRecord} :
    (!x.tested || x.judged fun v => decide (v = .untestable)) = true ↔ x.verdict = none ∨ x.verdict = some .untestable := by
  unfold PairRecord.tested PairRecord.judged
  cases x.verdict <;> simp

theorem overallOf_eq (f : Four PairRecord) : overallOf f =
    if ∃ x ∈ pairList f, x.judged Verdict.isFault = true then .fault
    else if ∃ x ∈ pairList f, x.verdict = none ∨ x.verdict = some .untestable then .unknown
    else .good := by
  refine if_congr (any_allPairs (test := fun x : PairRecord => x.judged Verdict.isFault)) rfl (if_congr ?_ rfl rfl)
  refine (any_allPairs (test := fun x : PairRecord => !x.tested || x.judged fun v => decide (v = .untestable))).trans ?_
  simp only [PairRecord.undecided_iff]

/-! ## Allowed set (R96) -/

theorem cutsPair_iff {x : PairRecord} : cutsPair x = true ↔
    x.low = false ∧ ∃ v, x.verdict = some v ∧ v.isFault = true ∧ v ≠ .highImp ∧ v ≠ .lowImp := by
  unfold cutsPair PairRecord.judged
  cases x.verdict with
  | none => simp
  | some v => cases v <;> simp [Verdict.isFault]

theorem weakensPair_iff {x : PairRecord} : weakensPair x = true ↔
    x.low = false ∧ (x.verdict = some .highImp ∨ x.verdict = some .lowImp) := by
  unfold weakensPair PairRecord.judged
  cases x.verdict with
  | none => simp
  | some v => cases v <;> simp

theorem allowedSet_cutAB {f : Four PairRecord} (cut : cutsPair f.a = true ∨ cutsPair f.b = true) : allowedSet f = 0b0000 :=
  if_pos (Bool.or_eq_true_iff.2 cut)

theorem allowedSet_cutCD {f : Four PairRecord} (whole : ¬(cutsPair f.a = true ∨ cutsPair f.b = true))
    (cut : cutsPair f.c = true ∨ cutsPair f.d = true) : allowedSet f = 0b0011 :=
  (if_neg (whole ∘ Bool.or_eq_true_iff.1)).trans (if_pos (Bool.or_eq_true_iff.2 cut))

theorem allowedSet_uncut {f : Four PairRecord} (ab : ¬(cutsPair f.a = true ∨ cutsPair f.b = true))
    (cd : ¬(cutsPair f.c = true ∨ cutsPair f.d = true)) :
    allowedSet f = if (pairList f).any weakensPair then 0b0111 else 0b1111 := by
  refine (if_neg (ab ∘ Bool.or_eq_true_iff.1)).trans ((if_neg (cd ∘ Bool.or_eq_true_iff.1)).trans ?_)
  simp only [pairList, List.any_cons, List.any_nil, Bool.or_false, Bool.or_assoc]

/-! ## The change flag (R155) -/

/-- The verdict has changed, or the fault moved by more than 10 dm. -/
def PairRecord.Moved (old : PairRecord) (new : PairResult) : Prop :=
  old.verdict ≠ some new.verdict ∨ old.distance.getD 0 + 10 < new.distance.getD 0 ∨
    new.distance.getD 0 + 10 < old.distance.getD 0

theorem distanceMoved_iff {old new : Option Nat} : distanceMoved old new = true ↔
    old.getD 0 + 10 < new.getD 0 ∨ new.getD 0 + 10 < old.getD 0 := by
  simp only [distanceMoved, Bool.or_eq_true, decide_eq_true_eq]
  omega

theorem changeFlag_of_sound {old : PairRecord} (sound : ¬old.judged Verdict.isFault = true) (new : PairResult) :
    changeFlag old new = if new.verdict.isFault then some .faultFound else none := if_neg sound

theorem changeFlag_cleared {old : PairRecord} {new : PairResult} (faulted : old.judged Verdict.isFault = true)
    (sound : new.verdict.isFault = false) : changeFlag old new = some .faultCleared :=
  (if_pos faulted).trans (if_pos (by rw [sound]; rfl))

theorem changeFlag_moved {old : PairRecord} {new : PairResult} (faulted : old.judged Verdict.isFault = true)
    (faulty : new.verdict.isFault = true) (moved : old.Moved new) : changeFlag old new = some .faultMoved := by
  refine (if_pos faulted).trans ((if_neg (by rw [faulty]; decide)).trans ?_)
  rcases moved with verdict | distance
  · exact if_pos verdict
  · rw [distanceMoved_iff.2 distance]
    exact ite_id _

theorem changeFlag_stays {old : PairRecord} {new : PairResult} (faulted : old.judged Verdict.isFault = true)
    (faulty : new.verdict.isFault = true) (stays : ¬old.Moved new) : changeFlag old new = none := by
  obtain ⟨verdict, distance⟩ := not_or.1 stays
  exact (if_pos faulted).trans ((if_neg (by rw [faulty]; decide)).trans
    ((if_neg verdict).trans (if_neg (distance ∘ distanceMoved_iff.1))))

/-! ## The hand-over and the write (R97, R106, R150) -/

theorem setGrew_iff {old new : GradeSet} : setGrew old new = true ↔ new ≠ old ∧ new &&& old = old := by
  simp only [setGrew, Bool.and_eq_true, decide_eq_true_eq]

/-- A PARKED lane is released with its ceiling restored and last failure NONE, at a transfer point (R106). -/
theorem State.unparkByRecord_eq (s : State) (p : Port) : s.unparkByRecord p =
    s.advertises p (({ (s.lane p).restored (s.record p).allowed with lastFailure := .none } : Lane).atTransferPoint
      (s.record p).allowed) := by
  unfold State.unparkByRecord
  simp only [State.modifyLane, State.setLane_enterAdvertise, Lane.restoreCeiling_eq]
  rw [← Lane.transfer_eq]
  rfl

/-- What the lane makes of a written record: only a PARKED lane whose allowed set grew does anything (R97). -/
theorem State.handOver_eq (s : State) (p : Port) (old : GradeSet) : s.handOver p old (s.record p).allowed =
    if (s.lane p).state = .parked ∧ (s.record p).allowed ≠ old ∧ (s.record p).allowed &&& old = old then
      s.advertises p (({ (s.lane p).restored (s.record p).allowed with lastFailure := .none } : Lane).atTransferPoint
        (s.record p).allowed)
    else s := by
  unfold State.handOver
  rw [State.unparkByRecord_eq]
  exact if_congr (and_congr_right fun _ => setGrew_iff) rfl rfl

theorem Touches.handOver {p : Port} {s : State} (old new : GradeSet) : Touches p s (s.handOver p old new) := by
  unfold State.handOver
  split
  · exact unparkByRecord
  · exact refl s

theorem State.pairWrite_record (s : State) (p : Port) (q : Pair) (x : PairResult) (o : Origin) (c : Bool) :
    (s.pairWrite p q x o c).record p = (s.record p).write q x o c := by
  have handed (old new : GradeSet) : ((s.setRecord p ((s.record p).write q x o c)).handOver p old new).record p =
      (s.record p).write q x o c := by
    rw [(Touches.handOver old new).record, State.record_setRecord_same]
  unfold State.pairWrite State.postOption
  simp only
  split
  · exact (Touches.record (.post _) p).trans (handed _ _)
  · exact handed _ _

end Sys2Proof.Machine
end

section
/-! The statements on a ceiling restore and a pair write. -/

open Sys2Proof Sys2Proof.Machine

/-- Settles O45: the highest grade of a set is the one that has every other of the set below it. -/
theorem ceilingRestore : Obligations.CeilingRestore := by
  intro l allowed g
  refine ⟨fun ⟨has, highest⟩ => ?_, fun ⟨empty, has, highest⟩ => ?_⟩
  · rw [Lane.restoreCeiling, highestGrade_eq_some has highest]
  · have none_ : highestGrade (l.active.advertised &&& allowed) = none := by rw [empty]; rfl
    rw [Lane.restoreCeiling, none_, highestGrade_eq_some has highest]
    rfl

/-- Settles O58: the record is `CableRecord.write`, its header and allowed set by the lemmas on the pair records; the state is the
hand-over (`State.handOver_eq`) with the flag of the write. -/
theorem pairWrite : Obligations.PairWrite := by
  intro s p q r o completing old was pairs each fault cuts weakens u new
  have record : new = old.write q r o completing := s.pairWrite_record p q r o completing
  have isFault : fault = Verdict.isFault := funext fun v => (Verdict.isFault_eq v).symm
  have judged (x : PairRecord) : (∃ v, x.verdict = some v ∧ fault v = true) ↔ x.judged Verdict.isFault = true := by
    rw [isFault]
    exact PairRecord.judged_iff.symm
  have cut (x : PairRecord) : cuts x ↔ cutsPair x = true := by
    simp only [cuts, isFault]
    exact cutsPair_iff.symm
  have weak (x : PairRecord) : weakens x ↔ weakensPair x = true := weakensPair_iff.symm
  have status : new.status = statusOf pairs := congrArg CableRecord.status record
  have overall : new.overall = overallOf pairs := congrArg CableRecord.overall record
  have allowed : new.allowed = allowedSet pairs := congrArg CableRecord.allowed record
  refine ⟨by rw [record]; exact ⟨rfl, rfl, rfl, rfl⟩, ?_, ?_, ?_, ?_⟩
  · rw [status]
    refine ⟨statusOf_complete, statusOf_partly (q := q) ?_⟩
    exact (congrArg PairRecord.tested (atPair_putPair_same _ q r.record)).trans r.record_tested
  · rw [overall, overallOf_eq]
    refine ⟨fun ⟨x, here, faulty⟩ => if_pos ⟨x, here, (judged x).1 faulty⟩, fun sound => ?_⟩
    rw [if_neg]
    · refine ⟨fun undecided => if_pos undecided, fun good => if_neg ?_⟩
      rintro ⟨x, here, undecided⟩
      simp [good x here] at undecided
    · rintro ⟨x, here, faulty⟩
      obtain ⟨v, verdict, bad⟩ := (judged x).2 faulty
      simp [sound x here v verdict] at bad
  · rw [allowed]
    simp only [cut, weak]
    refine ⟨allowedSet_cutAB, fun ab => ⟨allowedSet_cutCD ab, fun cd => ?_⟩⟩
    rw [allowedSet_uncut ab cd]
    exact ⟨fun some_ => if_pos (List.any_eq_true.2 some_), fun none_ => if_neg fun some_ => by
      obtain ⟨x, here, weakened⟩ := List.any_eq_true.1 some_
      exact none_ x here weakened⟩
  · intro written grew released faulted moved
    have kept : written.record p = new := s.record_setRecord_same p new
    have handed : written.handOver p old.allowed new.allowed = released := by
      rw [← kept, State.handOver_eq, kept]
      rfl
    have flagged : u = released.postOption p (changeFlag was r) := by
      rw [← handed]
      show s.pairWrite p q r o completing = (State.handOver (s.setRecord p new) p _ _).postOption p _
      rw [record]
      rfl
    have before : faulted ↔ was.judged Verdict.isFault = true := judged was
    rw [flagged, before, isFault]
    refine ⟨fun sound faulty => ?_, fun sound fine => ?_, fun bad fine => ?_, fun bad faulty shifts => ?_,
      fun bad faulty stays => ?_⟩
    · rw [changeFlag_of_sound sound, faulty]; rfl
    · rw [changeFlag_of_sound sound, fine]; rfl
    · rw [changeFlag_cleared bad fine]; rfl
    · rw [changeFlag_moved bad faulty shifts]; rfl
    · rw [changeFlag_stays bad faulty stays]; rfl

end

section
/-! SUPPORT. The start choice leaves no engine IDLE beside an entry that may start (R117, R118, R171). -/

namespace Sys2Proof.Machine

/-! ## An engine without a listen job -/

theorem Engine.without_jobless {g : Engine} (none_ : g.job = none) (p : Port) : g.without p = g := by
  rw [Engine.without, none_]

/-- From s to t an engine changes only where it has a listen job to lose a member of (R171). -/
def KeepsJobless (s t : State) : Prop := ∀ e, (s.engine e).job = none → t.engine e = s.engine e

namespace KeepsJobless

variable {s t u : State}

theorem refl (s : State) : KeepsJobless s s := fun _ _ => rfl

theorem same (engines : t.engines = s.engines) : KeepsJobless s t := fun e _ => State.engine_of_engines engines e

theorem trans (a : KeepsJobless s t) (b : KeepsJobless t u) : KeepsJobless s u := fun e none_ =>
  (b e ((congrArg Engine.job (a e none_)).trans none_)).trans (a e none_)

theorem lane {p : Port} (a : LaneOp False p s t) : KeepsJobless s t := fun e none_ => by
  rcases a.engine e with same | ⟨-, -, dropped⟩
  · exact same
  · rw [dropped, Engine.without_jobless none_]

theorem foldl {α : Type} {f : State → α → State} (k : ∀ t x, KeepsJobless t (f t x)) (l : List α) (s : State) :
    KeepsJobless s (l.foldl f s) := by
  induction l generalizing s with
  | nil => exact refl s
  | cons x l ih => exact (k s x).trans (ih (f s x))

theorem listenDrop (s : State) (p : Port) : KeepsJobless s (s.listenDrop p) := by
  unfold State.listenDrop
  split
  next => exact refl s
  next e m _ =>
    have detached : KeepsJobless s (s.detachMember e p) := fun d none_ => by
      rw [State.detachMember_eq]
      by_cases here : d = e
      · subst here
        rw [State.engine_setEngine_same, Engine.without_jobless none_]
      · exact State.engine_setEngine_ne _ _ _ _ here
    have released : KeepsJobless s ((s.detachMember e p).releasePort e p) :=
      detached.trans fun d _ => State.releasePort_engine _ d e p
    simp only
    split
    · exact released.trans (lane (LaneOp.dropReason .listen))
    · exact released

theorem removeEntry (s : State) (p : Port) (o : RemovalOutcome) : KeepsJobless s (s.removeEntry p o) :=
  (same rfl : KeepsJobless s { s.post p (removalFlag o) with queue := s.queue.filter fun x => decide (x.port ≠ p) }).trans
    (lane LaneOp.laneEntryRemoved)

theorem removeGuarded (s : State) : KeepsJobless s s.removeGuarded :=
  foldl (fun t x => removeEntry t (Entry.port x) .guarded) _ s

end KeepsJobless

/-! ## What an engine's choice comes to -/

/-- No entry may start (R117). -/
def State.NoneStarts (s : State) : Prop := ∀ x ∈ s.queue, s.startable x = false

theorem State.choiceMade_iff {s : State} : s.choiceMade = true ↔ (∀ e, (s.engine e).state ≠ .idle) ∨ s.NoneStarts := by
  simp [State.choiceMade, State.engineIdle, State.NoneStarts, Fin.forall_fin_two]

section Chooses

variable {s : State}

/-- Whether an entry may start is read off the entry and its lane. -/
theorem State.startable_congr {t : State} {x : Entry} (lane : t.lane x.port = s.lane x.port) :
    t.startable x = s.startable x := by
  rw [State.startable, State.startable, lane]

theorem State.NoneStarts.of_same {t : State} (h : s.NoneStarts) (queue : t.queue = s.queue) (lanes : t.lanes = s.lanes) :
    t.NoneStarts := fun x here =>
  (State.startable_congr (State.lane_of_lanes lanes x.port)).trans (h x (queue ▸ here))

theorem State.NoneStarts.removeGuarded (h : s.NoneStarts) : s.removeGuarded.NoneStarts := fun x stays => by
  obtain ⟨here, lane⟩ := State.removals_kept _ .guarded s stays
  exact (State.startable_congr lane).trans (h x here)

theorem State.noneStarts_of_chosenEntry (none_ : s.chosenEntry = none) : s.NoneStarts := by
  unfold State.chosenEntry at none_
  split at none_
  next => cases none_
  next => exact fun x here => Bool.eq_false_iff.2 (List.find?_eq_none.1 none_ x here)

/-- An engine as it starts a sweep of port p (R119). -/
def Engine.starting (p : Port) : Engine := { Engine.idle with state := .preparing, bound := some p }

/-- Once the engine is bound, the start makes nobody but the lane's listen job lose anything (R119 steps 3 and 4). -/
theorem State.startEntry_jobless (s : State) (e : EngineId) (p : Port) :
    KeepsJobless (s.setEngine e (.starting p)) (s.startEntry e p) := by
  let bound := (s.modifyEntry p fun x =>
    { x with state := .running, engine := some e, snapshot := some (x.snapshot.getD (s.lane p).snapshot) }).setEngine e
      (.starting p)
  have entry : KeepsJobless (s.setEngine e (.starting p)) bound := .same rfl
  exact entry.trans ((KeepsJobless.listenDrop bound p).trans (.lane (LaneOp.addReason .sweep)))

theorem State.startEntry_engine_same (s : State) (e : EngineId) (p : Port) :
    (s.startEntry e p).engine e = .starting p := by
  have started : (s.setEngine e (.starting p)).engine e = .starting p := State.engine_setEngine_same ..
  rw [s.startEntry_jobless e p e (by rw [started]; rfl), started]

/-- A start leaves the other engine as it is, but where that engine listens on the port (R171). -/
theorem State.startEntry_engine_other {d e : EngineId} (other : d ≠ e) (none_ : (s.engine d).job = none) (p : Port) :
    (s.startEntry e p).engine d = s.engine d := by
  have same : (s.setEngine e (.starting p)).engine d = s.engine d := State.engine_setEngine_ne _ _ _ _ other
  rw [s.startEntry_jobless e p d (by rw [same]; exact none_), same]

/-- A busy engine chooses nothing; an IDLE one starts an entry, or finds none that may start (R118). -/
theorem State.engineChooses_cases (s : State) (e : EngineId) :
    ((s.engine e).state ≠ .idle ∧ s.engineChooses e = s) ∨
    (∃ p, s.engineChooses e = s.removeGuarded.startEntry e p) ∨
    (s.engineChooses e = s.removeGuarded ∧ s.removeGuarded.NoneStarts) := by
  by_cases idle : (s.engine e).state = .idle
  · have chooses : s.engineChooses e = match s.removeGuarded.chosenEntry with
        | some x => s.removeGuarded.startEntry e x.port
        | none => s.removeGuarded := if_pos idle
    cases chosen : s.removeGuarded.chosenEntry with
    | some x => exact .inr (.inl ⟨x.port, by rw [chooses, chosen]⟩)
    | none => exact .inr (.inr ⟨by rw [chooses, chosen], State.noneStarts_of_chosenEntry chosen⟩)
  · exact .inl ⟨idle, if_neg idle⟩

/-- An engine that is IDLE after its choice found no entry that may start. -/
theorem State.engineChooses_idle {e : EngineId} (idle : ((s.engineChooses e).engine e).state = .idle) :
    (s.engineChooses e).NoneStarts := by
  rcases s.engineChooses_cases e with ⟨busy, same⟩ | ⟨p, starts⟩ | ⟨removes, none_⟩
  · rw [same] at idle
    exact absurd idle busy
  · rw [starts, State.startEntry_engine_same] at idle
    exact nomatch idle
  · rw [removes]
    exact none_

theorem State.NoneStarts.engineChooses (h : s.NoneStarts) (e : EngineId) : (s.engineChooses e).NoneStarts := by
  by_cases idle : (s.engine e).state = .idle
  · have removes : s.engineChooses e = s.removeGuarded := by
      refine (if_pos idle).trans ?_
      simp only [State.chosenEntry_removeGuarded h]
    rw [removes]
    exact h.removeGuarded
  · rw [State.engineChooses, if_neg idle]
    exact h

/-- An engine's choice leaves the other engine as it is, where that one has no listen job. -/
theorem State.engineChooses_engine_other {d e : EngineId} (other : d ≠ e) (none_ : (s.engine d).job = none) :
    (s.engineChooses e).engine d = s.engine d := by
  have removed : s.removeGuarded.engine d = s.engine d := KeepsJobless.removeGuarded s d none_
  rcases s.engineChooses_cases e with ⟨-, same⟩ | ⟨p, starts⟩ | ⟨removes, -⟩
  · rw [same]
  · rw [starts, State.startEntry_engine_other other (by rw [removed]; exact none_), removed]
  · rw [removes, removed]

/-- Engine 0's second choice does not free engine 1: an engine 1 that has started an entry has no listen job, and where it was
busy before, engine 0 has chosen already (R118, R171). -/
theorem State.engine1_idle_noneStarts
    (idle : ((((s.engineChooses 0).engineChooses 1).engineChooses 0).engine 1).state = .idle) :
    (((s.engineChooses 0).engineChooses 1).engineChooses 0).NoneStarts := by
  generalize first : s.engineChooses 0 = a at idle ⊢
  rcases a.engineChooses_cases 1 with ⟨busy, same⟩ | ⟨p, starts⟩ | ⟨removes, none_⟩
  · rw [same] at idle ⊢
    by_cases free : (a.engine 0).state = .idle
    · subst first
      exact (State.engineChooses_idle free).engineChooses 0
    · rw [State.engineChooses, if_neg free] at idle
      exact absurd idle busy
  · have started := State.startEntry_engine_same a.removeGuarded 1 p
    rw [starts, State.engineChooses_engine_other (by decide) (by rw [started]; rfl), started] at idle
    exact nomatch idle
  · rw [removes]
    exact none_.engineChooses 0

theorem State.startChoice_choiceMade (s : State) : s.startChoice.choiceMade = true := by
  rw [State.choiceMade_iff]
  by_cases idle0 : (s.startChoice.engine 0).state = .idle
  · exact .inr (State.engineChooses_idle idle0)
  · by_cases idle1 : (s.startChoice.engine 1).state = .idle
    · exact .inr (State.engine1_idle_noneStarts idle1)
    · exact .inl (Fin.forall_fin_two.2 ⟨idle0, idle1⟩)

end Chooses

/-! ## The end of a command, and the commands -/

theorem State.choiceMade_of_same {s t : State} (queue : t.queue = s.queue) (lanes : t.lanes = s.lanes)
    (engines : t.engines = s.engines) (h : s.choiceMade = true) : t.choiceMade = true := by
  rw [State.choiceMade_iff] at h ⊢
  refine h.imp (fun busy e => ?_) fun none_ => none_.of_same queue lanes
  rw [State.engine_of_engines engines]
  exact busy e

theorem State.choiceMade_of_empty {s : State} (empty : s.queue = []) : s.choiceMade = true :=
  State.choiceMade_iff.2 (.inr fun x here => by rw [empty] at here; exact nomatch here)

theorem State.settle_choiceMade (s : State) : s.settle.choiceMade = true := by
  obtain ⟨_, _, _, _, opens⟩ := s.startChoice.transmitChoice_rest
  rw [State.settle, opens]
  exact State.choiceMade_of_same (s := s.startChoice) rfl rfl rfl s.startChoice_choiceMade

/-- Where the command completes, no engine is IDLE beside a startable entry. -/
def ChosenAfter (o : Host.Outcome State Fault Refusal) : Prop := ∀ t, o = .next t → t.choiceMade = true

/-- A command that is taken ends with the choice; one that RSTN keeps out leaves the state as it is. -/
theorem ChosenAfter.perform {s : State} (h : s.choiceMade = true) (f : State → State) : ChosenAfter (s.perform f) := by
  intro t ran
  unfold State.perform at ran
  split at ran
  · cases ran; exact h
  · cases ran; exact State.settle_choiceMade _

theorem ChosenAfter.captureDone {s : State} (h : s.choiceMade = true) (p : Port) (tag : Byte) (data : Capture) :
    ChosenAfter (execCaptureDone p tag data s) := by
  unfold execCaptureDone
  split
  · exact .perform h id
  · split
    · exact .perform h id
    · split
      case h_1 | h_2 | h_3 | h_10 | h_11 | h_12 => exact .perform h _
      all_goals exact fun _ stopped => nomatch stopped

theorem ChosenAfter.resetAssert (s : State) : ChosenAfter (execResetAssert s) := by
  rintro _ ⟨⟩
  exact State.choiceMade_of_empty rfl

theorem ChosenAfter.resetRelease (s : State) (sta : BitVec 3) (pcs aut : Bool) :
    ChosenAfter (execResetRelease sta pcs aut s) := by
  rw [execResetRelease, State.beginCalibration_powerOnValues]
  rintro _ ⟨⟩
  exact State.choiceMade_of_empty rfl

theorem exec_chosen {s : State} (h : s.choiceMade = true) (c : Instr) : ChosenAfter (exec c s) := by
  cases c with rw [exec]
  | resetAssert => exact .resetAssert s
  | resetRelease sta pcs aut => exact .resetRelease s sta pcs aut
  | captureDone p tag data => exact .captureDone h p tag data
  | _ => exact .perform h _

end Sys2Proof.Machine
end

section
/-! The statement on the start choice that every step leaves made. -/

open Sys2Proof Sys2Proof.Machine

/-- Settles O16: every command ends with the start choice, after which an IDLE engine has found no entry that may start; a
millisecond changes neither entries nor lanes. -/
theorem stepKeepsChoice : Obligations.StepKeepsChoice := by
  intro s t chosen next
  rcases step_cases next with ⟨c, pending, free, ran⟩ | rfl | rfl
  · have moved : ({ s with pending := pending, freeCount := free } : State).choiceMade = true :=
      State.choiceMade_of_same rfl rfl rfl chosen
    exact exec_chosen moved c t ran
  · exact chosen
  · exact State.choiceMade_of_same rfl rfl rfl chosen

end

section
/-! SUPPORT. What becomes of a request to the Sweep Scheduler (R110 to R112), and the supervisor's SWEEP (R113). -/

namespace Sys2Proof.Machine

/-! ## The outcome of a request, and what it writes -/

section Request

variable {s : State} {p : Port} {x : Entry}

theorem State.requestOutcome_new (absent : ∀ x ∈ s.queue, x.port ≠ p) (room : s.queue.length < 6) :
    s.requestOutcome p = .new := by
  rw [State.requestOutcome, State.entryOf_none.2 absent]
  exact if_pos room

theorem State.requestOutcome_full (absent : ∀ x ∈ s.queue, x.port ≠ p) (full : 6 ≤ s.queue.length) :
    s.requestOutcome p = .full := by
  rw [State.requestOutcome, State.entryOf_none.2 absent]
  exact if_neg (Nat.not_lt.2 full)

theorem State.requestOutcome_running (entry : s.entryOf p = some x) (running : x.state = .running) :
    s.requestOutcome p = .running := by
  rw [State.requestOutcome, entry]
  exact if_pos running

theorem State.requestOutcome_merged (entry : s.entryOf p = some x) (stands : x.state ≠ .running) :
    s.requestOutcome p = .merged := by
  rw [State.requestOutcome, entry]
  exact if_neg stands

theorem State.requestOutcome_ne_running (free : ∀ x ∈ s.queue, x.port = p → x.state ≠ .running) :
    s.requestOutcome p ≠ .running := by
  cases entry : s.entryOf p with
  | none =>
    have absent := State.entryOf_none.1 entry
    rcases Nat.lt_or_ge s.queue.length 6 with room | full
    · rw [State.requestOutcome_new absent room]; nofun
    · rw [State.requestOutcome_full absent full]; nofun
  | some x =>
    obtain ⟨member, port⟩ := State.entryOf_some entry
    rw [State.requestOutcome_merged entry (free x member port)]
    nofun

variable {r : SweepRequest}

theorem State.requestSweep_new (absent : ∀ x ∈ s.queue, x.port ≠ r.port) (room : s.queue.length < 6) :
    s.requestSweep r = { s with queue := s.queue ++ [r.newEntry] } := by
  rw [State.requestSweep, State.requestOutcome_new absent room]

theorem State.requestSweep_full (absent : ∀ x ∈ s.queue, x.port ≠ r.port) (full : 6 ≤ s.queue.length) :
    s.requestSweep r = s := by
  rw [State.requestSweep, State.requestOutcome_full absent full]

theorem State.requestSweep_running (entry : s.entryOf r.port = some x) (running : x.state = .running) :
    s.requestSweep r = s := by
  rw [State.requestSweep, State.requestOutcome_running entry running]

theorem State.requestSweep_merged (entry : s.entryOf r.port = some x) (stands : x.state ≠ .running) :
    s.requestSweep r = s.modifyEntry r.port (·.merge r) := by
  rw [State.requestSweep, State.requestOutcome_merged entry stands]

/-- No origin ranks above the supervisor's (R111). -/
theorem Entry.merge_supervisor (x : Entry) (mask : PairSet) (depth : Nat) (force : Bool) :
    x.merge ⟨p, mask, depth, .supervisor, force⟩ =
      { x with mask := x.mask ||| mask, depth := max x.depth depth, origin := .supervisor, force := x.force || force } := by
  have origin : (if originRank .supervisor < originRank x.origin then .supervisor else x.origin) = Origin.supervisor := by
    cases x.origin <;> rfl
  rw [Entry.merge, origin]

end Request

/-! ## SWEEP (R113) -/

section Sweep

variable {s : State} {p : Port} {mask : PairSet} {depth : Nat} {force : Bool}

theorem State.sweepDecision_empty (zero : mask = 0) : s.sweepDecision p mask depth force = (s, .refused .badValue) :=
  if_pos zero

theorem State.sweepDecision_busy (some_ : mask ≠ 0) (running : s.requestOutcome p = .running) :
    s.sweepDecision p mask depth force = (s, .refused .portBusy) :=
  (if_neg some_).trans (if_pos running)

theorem State.sweepDecision_linkUp (some_ : mask ≠ 0) (idle : s.requestOutcome p ≠ .running) (up : (s.lane p).state = .up) :
    s.sweepDecision p mask depth false = (s, .refused .linkUp) :=
  (if_neg some_).trans ((if_neg idle).trans (if_pos ⟨decide_eq_true up, rfl⟩))

theorem State.sweepDecision_guarded (some_ : mask ≠ 0) (idle : s.requestOutcome p ≠ .running) (up : (s.lane p).state = .up)
    (guarded : inPortSet s.guards p = true) : s.sweepDecision p mask depth true = (s, .refused .guarded) :=
  (if_neg some_).trans ((if_neg idle).trans ((if_neg nofun).trans (if_pos ⟨decide_eq_true up, guarded⟩)))

/-- A request that no link stops. -/
theorem State.sweepDecision_open (some_ : mask ≠ 0) (idle : s.requestOutcome p ≠ .running)
    (opens : (s.lane p).state = .up → force = true ∧ inPortSet s.guards p = false) :
    s.sweepDecision p mask depth force =
      if s.requestOutcome p = .full then (s, .refused .queueFull)
      else (s.requestSweep ⟨p, mask, min 6 depth, .supervisor, force⟩,
        .accepted (if 6 < depth then .clamped else if s.requestOutcome p = .merged then .merged else .new)) := by
  have forced : ¬(decide ((s.lane p).state = .up) = true ∧ force = false) := fun ⟨up, free⟩ =>
    nomatch free.symm.trans (opens (of_decide_eq_true up)).1
  have unguarded : ¬(decide ((s.lane p).state = .up) = true ∧ inPortSet s.guards p = true) := fun ⟨up, guarded⟩ =>
    nomatch guarded.symm.trans (opens (of_decide_eq_true up)).2
  exact (if_neg some_).trans ((if_neg idle).trans ((if_neg forced).trans (if_neg unguarded)))

theorem State.answer_clamped (s : State) (k : RequestKind) (c : Prop) [Decidable c] (d : Detail) :
    s.answer k (.accepted (if c then .clamped else d)) =
      s.reply (acceptedReply (requestCode k) (if c then 2 else detailCode d)) := by
  split <;> rfl

variable {b m d flags : Byte}

theorem State.sweepRequest_decided (named : b.toNat = p.val + 1) (here : s.present p = true) (pairs : m.toNat < 16)
    (defined : flags.toNat < 2) : s.sweepRequest b m d flags =
      State.conclude .sweep (s.sweepDecision p (m.setWidth 4) d.toNat (flags.getLsbD 0)) :=
  (State.withPort_present named here).trans (if_neg (by omega))

theorem pairMask_eq_zero {m : Byte} (pairs : m.toNat < 16) (zero : m.setWidth 4 = (0 : PairSet)) : m = 0 := by
  have value := congrArg BitVec.toNat zero
  rw [BitVec.toNat_setWidth] at value
  refine BitVec.eq_of_toNat_eq ?_
  simp at value ⊢
  omega

end Sweep

end Sys2Proof.Machine
end

section
/-! The statement on SWEEP. -/

open Sys2Proof Sys2Proof.Machine

/-- Settles O29: the entry found at the port, the link and the room in the queue select the row. -/
theorem sweepRequest : Obligations.SweepRequest := by
  intro s p b mask depth flags decides named here pairs defined nodup up k force refused out running
  have decided : out = .next (State.conclude .sweep (s.sweepDecision p (mask.setWidth 4) depth.toNat force)).settle :=
    (State.request_decided _ decides).trans (State.next_settle (State.sweepRequest_decided named here pairs defined))
  have some_ (given : mask ≠ 0) : mask.setWidth 4 ≠ (0 : PairSet) := fun zero => given (pairMask_eq_zero pairs zero)
  have stands (free : ¬running) {x : Entry} (member : x ∈ s.queue) (port : x.port = p) : x.state ≠ .running := fun runs =>
    free ⟨x, member, port, runs⟩
  have idle (free : ¬running) : s.requestOutcome p ≠ .running := State.requestOutcome_ne_running fun x => stands free
  refine ⟨fun zero => ?_, fun given ⟨x, member, port, runs⟩ => ?_, fun given free up zero => ?_,
    fun given free up one guarded => ?_, fun given free opens => ?_⟩
  · subst zero
    rw [decided, show (0 : Byte).setWidth 4 = (0 : PairSet) from rfl, State.sweepDecision_empty rfl]
    rfl
  · rw [decided, State.sweepDecision_busy (some_ given)
      (State.requestOutcome_running (State.entryOf_mem nodup member port) runs)]
    rfl
  · subst zero
    rw [decided, show force = false from rfl, State.sweepDecision_linkUp (some_ given) (idle free) up]
    rfl
  · subst one
    rw [decided, show force = true from rfl, State.sweepDecision_guarded (some_ given) (idle free) up guarded]
    rfl
  · have forced (isUp : (s.lane p).state = .up) : force = true ∧ inPortSet s.guards p = false := by
      obtain ⟨one, unguarded⟩ := opens isUp
      subst one
      exact ⟨rfl, unguarded⟩
    rw [State.sweepDecision_open (some_ given) (idle free) forced] at decided
    refine ⟨fun absent full => decided.trans (State.next_settle ?_), fun absent room => decided.trans (State.next_settle ?_),
      fun ⟨x, member, port⟩ => decided.trans (State.next_settle ?_)⟩
    · rw [State.requestOutcome_full absent full]
      rfl
    · rw [State.requestOutcome_new absent room, State.requestSweep_new absent room]
      exact State.answer_clamped _ .sweep _ .new
    · have entry := State.entryOf_mem nodup member port
      have other := stands free member port
      rw [State.requestOutcome_merged entry other, State.requestSweep_merged entry other, State.modifyEntry]
      simp only [Entry.merge_supervisor]
      exact State.answer_clamped _ .sweep _ .merged

end

section
/-! SUPPORT. The port that the survey picks (R178), and what its expiry and a holdoff's request (R178, R181). -/

namespace Sys2Proof.Machine

/-! ## The best candidate (R178) -/

section Best

variable {s : State}

/-- Port p is preferred to port q by R178: NEVER_TESTED before tested, then the larger age, then the lower port. -/
def State.surveyBeats (s : State) (p q : Port) : Prop :=
  let fresh (x : Port) : Bool := decide ((s.record x).status = .neverTested)
  (fresh p = true ∧ fresh q = false) ∨
    (fresh p = fresh q ∧ ((s.record q).age < (s.record p).age ∨ ((s.record q).age = (s.record p).age ∧ p < q)))

/-- A better port that comes first stays. -/
theorem State.surveyPrefers_later {p q : Port} (better : s.surveyBeats p q) : s.surveyPrefers p q = false := by
  unfold State.surveyPrefers
  rcases better with ⟨fresh, tested⟩ | ⟨same, older⟩
  · simp only [fresh, tested, ne_eq, reduceCtorEq, not_false_eq_true, if_true]
  · simp only [same, ne_eq, not_true_eq_false, if_false, decide_eq_false_iff_not]
    omega

/-- A better port that comes later takes the place. -/
theorem State.surveyPrefers_earlier {p q : Port} (better : s.surveyBeats p q) (before : q < p) :
    s.surveyPrefers q p = true := by
  unfold State.surveyPrefers
  rcases better with ⟨fresh, tested⟩ | ⟨same, older⟩
  · simp only [fresh, tested, ne_eq, reduceCtorEq, not_false_eq_true, if_true]
  · simp only [same, ne_eq, not_true_eq_false, if_false, decide_eq_true_eq]
    exact older.resolve_right fun ⟨_, after⟩ => lt_asymm before after

/-- Of ports in port order, the one that is preferred to every other is taken. -/
theorem State.bestCandidate_eq {p c : Port} {l : List Port} (order : (c :: l).Pairwise (· < ·)) (among : p ∈ c :: l)
    (best : ∀ q ∈ c :: l, q ≠ p → s.surveyBeats p q) : s.bestCandidate c l = p := by
  induction l generalizing c with
  | nil => exact (List.mem_singleton.1 among).symm
  | cons q rest ih =>
    obtain ⟨above, order⟩ := List.pairwise_cons.1 order
    have first : c < q := above q List.mem_cons_self
    have withoutSecond : (c :: rest).Pairwise (· < ·) :=
      List.pairwise_cons.2 ⟨fun r later => above r (List.mem_cons_of_mem q later), (List.pairwise_cons.1 order).2⟩
    have bestSkip : ∀ r ∈ c :: rest, r ≠ p → s.surveyBeats p r := fun r here =>
      best r (by rcases List.mem_cons.1 here with rfl | later <;> simp [*])
    have bestRest : ∀ r ∈ q :: rest, r ≠ p → s.surveyBeats p r := fun r here => best r (List.mem_cons_of_mem c here)
    rw [State.bestCandidate]
    rcases List.mem_cons.1 among with rfl | later
    · rw [State.surveyPrefers_later (best q (by simp) (ne_of_gt first)), if_neg nofun]
      exact ih withoutSecond List.mem_cons_self bestSkip
    · rcases List.mem_cons.1 later with rfl | last
      · rw [State.surveyPrefers_earlier (best c (by simp) (ne_of_lt first)) first, if_pos rfl]
        exact ih order List.mem_cons_self bestRest
      · split
        · exact ih order (List.mem_cons_of_mem q last) bestRest
        · exact ih withoutSecond (List.mem_cons_of_mem c last) bestSkip

end Best

/-! ## The candidates (R178) -/

section Candidates

variable {s : State} {p : Port}

theorem State.surveyCandidate_iff : s.surveyCandidate p = true ↔
    (s.lane p).active.surveyMember = true ∧ (∀ x ∈ s.queue, x.port ≠ p) ∧ (s.lane p).power = false ∧
      (s.surveyContinuous = true ∨ inPortSet s.passSet p = false) ∧
      (((s.lane p).state = .advertise ∧ (s.lane p).energy = false) ∨
        ((s.lane p).state = .held ∧ (s.lane p).hold.sweep = false) ∨ (s.lane p).state = .parked ∨
        (s.lane p).state = .disabled) := by
  unfold State.surveyCandidate
  simp only [Bool.and_eq_true, Option.isNone_iff_eq_none, State.entryOf_none]
  cases (s.lane p).state <;> simp [and_assoc, and_comm, and_left_comm]

/-- The ports that a survey expiry chooses among. -/
def State.surveyPorts (s : State) : List Port := s.presentPorts.filter s.surveyCandidate

theorem State.mem_surveyPorts : p ∈ s.surveyPorts ↔ s.present p = true ∧ s.surveyCandidate p = true := by
  rw [State.surveyPorts, List.mem_filter, State.mem_presentPorts]

theorem State.surveyPorts_order (s : State) : s.surveyPorts.Pairwise (· < ·) :=
  ((by decide : allPorts.Pairwise (· < ·)).filter _).filter _

theorem State.surveyPick_none (none_ : ∀ p, p ∉ s.surveyPorts) : s.surveyPick = none := by
  have empty : s.presentPorts.filter s.surveyCandidate = [] := List.eq_nil_iff_forall_not_mem.2 none_
  rw [State.surveyPick, empty]

theorem State.surveyPick_best (among : p ∈ s.surveyPorts) (best : ∀ q ∈ s.surveyPorts, q ≠ p → s.surveyBeats p q) :
    s.surveyPick = some p := by
  have order := s.surveyPorts_order
  cases ports : s.surveyPorts with
  | nil => rw [ports] at among; cases among
  | cons c rest =>
    rw [ports] at among best order
    have listed : s.presentPorts.filter s.surveyCandidate = c :: rest := ports
    rw [State.surveyPick, listed]
    exact congrArg some (State.bestCandidate_eq order among best)

end Candidates

/-! ## The expiries -/

section Expiry

variable {s : State} {p : Port}

/-- A request leaves the survey as it is. -/
theorem State.requestSweep_survey (s : State) (r : SweepRequest) :
    (s.requestSweep r).surveyInterval = s.surveyInterval ∧ (s.requestSweep r).surveyContinuous = s.surveyContinuous ∧
      (s.requestSweep r).passSet = s.passSet := by
  unfold State.requestSweep
  split <;> exact ⟨rfl, rfl, rfl⟩

/-- A survey takes a port into its pass set only in SINGLE mode, and only where the request made a new entry: a candidate has no
entry, so it does exactly where the queue has a place (R178, R112). -/
theorem State.expireSurvey_some (picked : s.surveyPick = some p) (absent : ∀ x ∈ s.queue, x.port ≠ p) :
    let asked := s.requestSweep ⟨p, 0b1111, (s.lane p).active.depth, .survey, false⟩
    s.expireSurvey = { (if s.surveyContinuous = false ∧ s.queue.length < 6 then { asked with passSet := addPort s.passSet p }
      else asked) with surveyTimer := some (s.ms + BitVec.ofNat 48 (s.surveyInterval * 10000)) } := by
  intro asked
  obtain ⟨interval, mode, passes⟩ := s.requestSweep_survey ⟨p, 0b1111, (s.lane p).active.depth, .survey, false⟩
  have ms : asked.ms = s.ms := State.requestSweep_ms (s := s) _
  have takes : (!asked.surveyContinuous && decide (s.requestOutcome p = .new)) = true ↔
      s.surveyContinuous = false ∧ s.queue.length < 6 := by
    rw [mode]
    rcases Nat.lt_or_ge s.queue.length 6 with room | full
    · simp [State.requestOutcome_new absent room, room]
    · simp [State.requestOutcome_full absent full, Nat.not_lt.2 full]
  have expires : s.expireSurvey = State.restartSurvey
      (if (!asked.surveyContinuous && decide (s.requestOutcome p = .new)) = true then
        { asked with passSet := addPort asked.passSet p } else asked) := by
    rw [State.expireSurvey, picked]
    rfl
  rw [expires, if_congr takes rfl rfl, State.restartSurvey, State.after, passes]
  split <;> simp only [ms, interval, asked]

theorem State.expireSurvey_none (none_ : s.surveyPick = none) : s.expireSurvey =
    if s.surveyContinuous then s.restartSurvey
    else { s with surveyEnabled := false, surveyTimer := none, stationNotice := some .surveyDone } := by
  rw [State.expireSurvey, none_]
  rfl

end Expiry

end Sys2Proof.Machine
end

section
/-! The statement on the automatic requests. -/

open Sys2Proof Sys2Proof.Machine

/-- Settles O57: the holdoff's lane decides on its request, the survey picks the port that R178 prefers to every other, and the
entry found at a port and the room in the queue decide what a request does. -/
theorem automaticRequests : Obligations.AutomaticRequests := by
  refine ⟨?_, ?_, ?_⟩
  · intro s p hears l t
    have taken : exec (.holdoffExpiry p) s =
        .next (if s.holdoff p = some s.ms then s.expireHoldoff p else s).settle := State.tapEvent_taken _ hears
    have expires : s.expireHoldoff p =
        if (l.state = .advertise ∨ l.state = .held) ∧ l.energy = false then
          t.requestSweep ⟨p, 0b1111, l.active.depth, .linkDown, false⟩ else t := rfl
    refine ⟨fun notDue => ?_, fun due quiet silent => ?_, fun due other => ?_⟩
    · rw [taken, if_neg notDue]
    · rw [taken, if_pos due, expires, if_pos ⟨quiet, silent⟩]
    · rw [taken, if_pos due, expires, if_neg other]
  · intro s up candidate fresh again
    have taken : exec .surveyExpiry s = .next (if s.surveyTimer = some s.ms then s.expireSurvey else s).settle :=
      State.perform_taken _ up
    have listed (p : Port) : candidate p ↔ p ∈ s.surveyPorts := by
      rw [State.mem_surveyPorts, State.surveyCandidate_iff]
    refine ⟨fun notDue => ?_, fun p due here best => ?_, fun due none_ => ?_⟩
    · rw [taken, if_neg notDue]
    · have picked := State.surveyPick_best ((listed p).1 here) fun q among other => best q ((listed q).2 among) other
      obtain ⟨-, -, absent, -⟩ := here
      rw [taken, if_pos due, State.expireSurvey_some picked absent]
    · rw [taken, if_pos due, State.expireSurvey_none (State.surveyPick_none fun p among => none_ p ((listed p).2 among))]
      exact ⟨fun continuous => by rw [if_pos continuous]; rfl, fun single => by rw [if_neg (by rw [single]; nofun)]⟩
  · intro s p mask k o force asked
    refine ⟨fun absent room => ?_, fun absent full => ?_, fun nodup x member port => ⟨fun running => ?_, fun stands => ?_⟩⟩
    · exact State.requestSweep_new absent room
    · exact State.requestSweep_full absent full
    · exact State.requestSweep_running (State.entryOf_mem nodup member port) running
    · exact State.requestSweep_merged (State.entryOf_mem nodup member port) stands

end

section
/-! SUPPORT. A pass of a sweep (R120 to R123): its pairs in order, the frames and units it posts, and its first shot. -/

namespace Sys2Proof.Machine

/-! ## The pairs of a set in order (R120, R122) -/

section Pairs

variable {ps : PairSet} {q r : Pair}

/-- Of the pairs that pass a test, the one of the least number comes first. -/
theorem allPairs_filter_first {f : Pair → Bool} (here : f q = true) (least : ∀ r, f r = true → pairNumber q ≤ pairNumber r) :
    ∃ rest, allPairs.filter f = q :: rest := by
  have order : (allPairs.filter f).Pairwise fun y z => pairNumber y < pairNumber z :=
    (by decide : allPairs.Pairwise fun y z => pairNumber y < pairNumber z).filter f
  have among : q ∈ allPairs.filter f := List.mem_filter.2 ⟨by cases q <;> decide, here⟩
  cases listed : allPairs.filter f with
  | nil => rw [listed] at among; cases among
  | cons y rest =>
    have passes : f y = true := (List.mem_filter.1 (listed ▸ List.mem_cons_self)).2
    rw [listed] at among order
    rcases List.mem_cons.1 among with rfl | later
    · exact ⟨rest, rfl⟩
    · exact absurd ((List.pairwise_cons.1 order).1 q later) (Nat.not_lt.2 (least y passes))

theorem pairsOf_first (here : hasPair ps q = true) (least : ∀ r, hasPair ps r = true → pairNumber q ≤ pairNumber r) :
    ∃ rest, pairsOf ps = q :: rest := allPairs_filter_first here least

theorem pairsAfter_eq (ps : PairSet) (q : Pair) :
    pairsAfter ps q = allPairs.filter fun r => decide (pairNumber q < pairNumber r) && hasPair ps r := by
  rw [pairsAfter, pairsOf, List.filter_filter]

theorem pairsAfter_first (here : hasPair ps r = true) (later : pairNumber q < pairNumber r)
    (least : ∀ y, hasPair ps y = true → pairNumber q < pairNumber y → pairNumber r ≤ pairNumber y) :
    ∃ rest, pairsAfter ps q = r :: rest := by
  rw [pairsAfter_eq]
  refine allPairs_filter_first (by simp [here, later]) fun y passes => ?_
  rw [Bool.and_eq_true, decide_eq_true_eq] at passes
  exact least y passes.2 passes.1

theorem pairsAfter_nil : pairsAfter ps q = [] ↔ ∀ r, hasPair ps r = true → pairNumber r ≤ pairNumber q := by
  have listed (r : Pair) : r ∈ allPairs := by cases r <;> decide
  rw [pairsAfter_eq, List.filter_eq_nil_iff]
  simp only [Bool.and_eq_true, decide_eq_true_eq, not_and', Nat.not_lt, listed, true_implies]

end Pairs

/-! ## The first shot of a pair (R121, R133) -/

section Begin

variable {s : State} {e : EngineId} {p : Port} {q : Pair}

theorem State.beginPair_setEngine (s : State) (e : EngineId) (p : Port) (q : Pair) (g : Engine) :
    (s.setEngine e g).beginPair e p q =
      (s.setEngine e { g.emptied with state := .shooting, current := some q, issued := 1 }).fires e p (.shoot q) := by
  rw [State.beginPair, State.fireShot, State.setEngine_modifyEngine, State.setEngine_modifyEngine]
  rfl

theorem State.beginPair_eq (s : State) (e : EngineId) (p : Port) (q : Pair) : s.beginPair e p q =
    (s.setEngine e { (s.engine e).emptied with state := .shooting, current := some q, issued := 1 }).fires e p (.shoot q) := by
  rw [← State.beginPair_setEngine, State.setEngine_own]

end Begin

/-! ## Posting for an engine (R120, R123) -/

theorem State.postCoord_modifyEngine (s : State) (f : Frame) (d : Option EngineId) (e : EngineId) (h : Engine → Engine) :
    (s.postCoord f d).modifyEngine e h = (s.postCoord f d).setEngine e (h (s.engine e)) := by
  rw [State.modifyEngine, State.postCoord_engine]

section Pass

variable {s : State} {e : EngineId} {p : Port} {x : Entry} {q : Pair}

theorem State.boundEntry_eq (bound : (s.engine e).bound = some p) (entry : s.entryOf p = some x) :
    s.boundEntry e = some x := by
  rw [State.boundEntry, bound]
  exact entry

/-- Steps 1 to 3 of R120. -/
theorem State.preparePass_eq (s : State) (e : EngineId) (x : Entry) : s.preparePass e x =
    (s.postCoord (quietAskFrame x.port (holdUnits (pairsOf x.remaining).length x.depth)) (some e)).setEngine e
      { s.engine e with
        passPairs := x.remaining, heldBack := 0, announcement := .asked, timer := some (.settle, s.ms + 20) } := by
  rw [State.preparePass, State.postCoord_modifyEngine]
  rfl

/-- Steps 4 and 5 of R120, where q is the first pair of the pass. -/
theorem State.settled_eq {rest : List Pair} (first : pairsOf (s.engine e).passPairs = q :: rest) (x : Entry) :
    s.settled e x =
      ((s.postCoord (sweepStartFrame x.port (s.engine e).passPairs
          (listenUnits (pairsOf (s.engine e).passPairs).length x.depth)) (some e)).setEngine e
        { (s.engine e).emptied with state := .shooting, announcement := .started, current := some q, issued := 1 }).fires e
          x.port (.shoot q) := by
  rw [State.settled, State.postCoord_modifyEngine, first]
  exact State.beginPair_setEngine ..

theorem exec_preparePass_notReady (up : s.inReset = false) (notReady : ¬s.passReady e = true) :
    exec (.preparePass e) s = .next s.settle :=
  (State.perform_taken _ up).trans (State.next_settle (if_neg notReady))

theorem exec_preparePass_ready (up : s.inReset = false) (ready : s.passReady e = true) (entry : s.boundEntry e = some x) :
    exec (.preparePass e) s = .next (s.preparePass e x).settle :=
  (State.perform_taken _ up).trans (State.next_settle (by rw [if_pos ready, entry]))

theorem exec_settleExpiry_notDue (up : s.inReset = false) (notDue : ¬s.engineTimerDue e .settle = true) :
    exec (.settleExpiry e) s = .next s.settle :=
  (State.perform_taken _ up).trans (State.next_settle (if_neg notDue))

theorem exec_settleExpiry_due (up : s.inReset = false) (due : s.engineTimerDue e .settle = true)
    (entry : s.boundEntry e = some x) : exec (.settleExpiry e) s = .next (s.settled e x).settle :=
  (State.perform_taken _ up).trans (State.next_settle (by rw [if_pos due, entry]))

end Pass

end Sys2Proof.Machine
end

section
/-! The statement on passes. -/

open Sys2Proof Sys2Proof.Machine

/-- Settles O54: the two waits of R120 and the two timers decide whether anything is done; what is done is R120's steps for the
entry found at the bound port. -/
theorem passes : Obligations.Passes := by
  intro s e up g units ready
  refine ⟨fun notReady => ?_, fun p x isReady bound entry => ?_, fun notDue => ?_, fun p x q due bound entry here least => ?_,
    fun notDue => ?_, fun due => ?_⟩
  · exact exec_preparePass_notReady up (mt State.passReady_iff.1 notReady)
  · obtain ⟨-, rfl⟩ := State.entryOf_some entry
    rw [exec_preparePass_ready up (State.passReady_iff.2 isReady) (State.boundEntry_eq bound entry), State.preparePass_eq]
    rfl
  · exact exec_settleExpiry_notDue up (mt State.engineTimerDue_iff.1 notDue)
  · obtain ⟨-, rfl⟩ := State.entryOf_some entry
    obtain ⟨rest, first⟩ := pairsOf_first here least
    rw [exec_settleExpiry_due up (State.engineTimerDue_iff.2 due) (State.boundEntry_eq bound entry), State.settled_eq first]
    rfl
  · exact (State.perform_taken _ up).trans (State.next_settle (if_neg (mt State.engineTimerDue_iff.1 notDue)))
  · exact (State.perform_taken _ up).trans (State.next_settle (if_pos (State.engineTimerDue_iff.2 due)))

end

section
/-! SUPPORT. What follows a pair: its write or its return, the next pair, and the ends of a pass and of a sweep (R115, R122 to
R126, R150). -/

namespace Sys2Proof.Machine

/-! ## The ends of a sweep (R115, R125) -/

section Ends

variable (s : State) (e : EngineId) (p : Port)

theorem State.completeSweep_eq : s.completeSweep e p = (s.postCoord (sweepEndFrame p) (some e)).sweepOver e p .sweepDone := by
  rw [State.completeSweep, State.removeEntry_eq, State.freeEngine, State.modifyEngine, State.releasePort_setEngine,
    State.setEngine_setEngine]
  rfl

theorem State.cancelStop_eq : s.cancelStop e p = (s.endAnnounced e p).sweepOver e p .sweepEndedEarly := by
  rw [State.cancelStop, State.removeEntry_eq, State.freeEngine_postEndFrame]
  rfl

end Ends

/-! ## After a pair (R122, R123) -/

section After

variable {s : State} {e : EngineId} {p : Port} {q r : Pair} {x : Entry}

theorem State.mustSuspend_iff : s.mustSuspend x = true ↔
    (x.force = false ∧ (s.lane x.port).energy = true) ∨ (s.lane x.port).power = true := by
  simp [State.mustSuspend]

theorem State.afterPair_cancelled (entry : s.entryOf p = some x) (pending : x.cancelPending = true) : s.afterPair e p q =
    if x.remaining = 0 ∧ (s.engine e).heldBack = 0 then s.completeSweep e p else s.cancelStop e p := by
  rw [State.afterPair, entry]
  exact if_pos pending

theorem State.afterPair_next {rest : List Pair} (entry : s.entryOf p = some x) (fresh : x.cancelPending = false)
    (more : pairsAfter (s.engine e).passPairs q = r :: rest) : s.afterPair e p q =
      if s.mustSuspend x then s.suspendSweep e p else s.beginPair e p r := by
  rw [State.afterPair, entry]
  refine (if_neg (by rw [fresh]; nofun)).trans ?_
  rw [more]

theorem State.afterPair_last (entry : s.entryOf p = some x) (fresh : x.cancelPending = false)
    (last : pairsAfter (s.engine e).passPairs q = []) : s.afterPair e p q = s.passEnd e x := by
  rw [State.afterPair, entry]
  refine (if_neg (by rw [fresh]; nofun)).trans ?_
  rw [last]

/-- SWEEP_END and the retry wait (R123). -/
theorem State.passEnd_retries (held : (s.engine e).heldBack ≠ 0) (calm : ¬s.mustSuspend x = true) : s.passEnd e x =
    ({ s.postCoord (sweepEndFrame x.port) (some e) with queue := s.queue.map fun y =>
        if y.port = x.port then { y with retries := y.retries + 1 } else y } : State).setEngine e
      { s.engine e with
        state := .preparing, current := none, announcement := .none, timer := some (.retryWait, s.ms + 100) } := by
  obtain ⟨queue, -⟩ := s.postCoord_kept (sweepEndFrame x.port) (some e)
  have own : (s.postCoord (sweepEndFrame x.port) (some e)).engine e = s.engine e := State.postCoord_engine ..
  rw [← own, ← queue]
  exact (if_neg held).trans (if_neg calm)

end After

/-! ## The pair itself (R122, R150) -/

section Written

variable {s : State} {e : EngineId} {p : Port} {q : Pair} {x : Entry}

theorem State.writePair_eq (entry : s.entryOf p = some x) (r : PairResult) : s.writePair e p q r =
    ((({ s with queue := s.queue.map fun y =>
          if y.port = p then { y with completed := x.completed ||| onePair q } else y } : State).setEngine e
        (s.engine e).emptied).pairWrite p q r x.origin (decide (x.mask &&& ~~~(x.completed ||| onePair q) = 0))).afterPair
      e p q := by
  rw [State.writePair, entry]
  rfl

/-- The analysis of the pair whose timer has stopped (R122). -/
theorem State.endAnalysis_eq {snap : Snapshot} (g : Engine) (entry : s.entryOf p = some x) (taken : x.snapshot = some snap) :
    let r := analysePair (pulseCode s.station) snap ⟨q, g.sums, g.floors, g.clipped, g.completed⟩
    (s.setEngine e g).endAnalysis e p q =
      if r.noisy ∧ x.retries < 2 then
        (s.setEngine e { g.emptied with heldBack := g.heldBack ||| onePair q }).afterPair e p q
      else (s.setEngine e g).writePair e p q { r with low := r.low || r.noisy } := by
  intro r
  have same : (s.setEngine e g).entryOf p = some x := entry
  rw [State.endAnalysis, same]
  simp only [taken, State.setEngine_modifyEngine, State.engine_setEngine_same]
  rfl

theorem exec_analysisEnd_due (up : s.inReset = false) (due : (s.engine e).timer = some (.analysis, s.ms))
    (bound : (s.engine e).bound = some p) (current : (s.engine e).current = some q) :
    exec (.analysisEnd e) s = .next ((s.setEngine e { s.engine e with timer := none }).endAnalysis e p q).settle := by
  refine (State.perform_taken _ up).trans (State.next_settle ?_)
  rw [if_pos (State.engineTimerDue_iff.2 due)]
  simp only [State.modifyEngine, State.engine_setEngine_same, Engine.stopTimer, bound, current]

end Written

end Sys2Proof.Machine
end

section
/-! The statement on the end of an analysis. -/

open Sys2Proof Sys2Proof.Machine

/-- Settles O55: noise and the retries made decide on the pair; the cancellation, the pairs left in the pass, the pairs held back and
the lane's flags decide, in this order, on what follows it. -/
theorem analysisEnd : Obligations.AnalysisEnd := by
  refine ⟨?_, fun s e p q r x entry => State.writePair_eq entry r, ?_⟩
  · intro s e up g
    refine ⟨fun notDue => ?_, ?_⟩
    · exact (State.perform_taken _ up).trans (State.next_settle (if_neg (mt State.engineTimerDue_iff.1 notDue)))
    · intro p q x snap due bound current entry taken r
      have ends := exec_analysisEnd_due up due bound current
      rw [State.endAnalysis_eq _ entry taken] at ends
      refine ⟨fun noisy few => ?_, fun done => ?_⟩
      · exact ends.trans (State.next_settle (if_pos ⟨noisy, few⟩))
      · refine ends.trans (State.next_settle (if_neg fun ⟨noisy, few⟩ => ?_))
        rcases done with clean | many
        · exact nomatch clean.symm.trans noisy
        · exact absurd few (Nat.not_lt.2 many)
  · intro s e p q x entry g l sweepEnd disturbed left last
    obtain ⟨-, port⟩ := State.entryOf_some entry
    have suspends : s.mustSuspend x = true ↔ disturbed := by
      rw [State.mustSuspend_iff, port]
    have noneLeft : x.remaining = 0 ∧ (s.engine e).heldBack = 0 ↔ left := Iff.rfl
    have isLast : pairsAfter g.passPairs q = [] ↔ last := pairsAfter_nil
    refine ⟨fun pending none_ => ?_, fun pending some_ => ?_, fun fresh more stops => ?_, fun r fresh calm here later least => ?_,
      fun fresh ended clean => ?_, fun fresh ended held _ stops => ?_, fun fresh ended held _ calm => ?_⟩
    · rw [State.afterPair_cancelled entry pending, if_pos (noneLeft.2 none_), State.completeSweep_eq]
      rfl
    · rw [State.afterPair_cancelled entry pending, if_neg (mt noneLeft.1 some_), State.cancelStop_eq]
    · obtain ⟨r, rest, next⟩ := List.exists_cons_of_ne_nil (mt isLast.1 more)
      rw [State.afterPair_next entry fresh next, if_pos (suspends.2 stops), State.suspendSweep_eq entry]
    · obtain ⟨rest, next⟩ := pairsAfter_first here later least
      rw [State.afterPair_next entry fresh next, if_neg (mt suspends.1 calm), State.beginPair_eq]
    · rw [State.afterPair_last entry fresh (isLast.2 ended), State.passEnd, if_pos clean, port, State.completeSweep_eq]
      rfl
    · rw [State.afterPair_last entry fresh (isLast.2 ended), State.passEnd, if_neg held, if_pos (suspends.2 stops), port,
        State.suspendSweep_eq entry]
    · rw [State.afterPair_last entry fresh (isLast.2 ended), State.passEnd_retries held (mt suspends.1 calm), port]
      rfl

end

section
/-! SUPPORT. Echo Arithmetic by index (R134 to R139): the rounding, the correlation, and the peaks of a correlation as the indices
they stand at. -/

namespace Sys2Proof.Machine

/-! ## Rounding -/

theorem roundHalfAway_mul (x d : Int) : roundHalfAway x d * d =
    if x < 0 then -(((2 * x.natAbs + d.natAbs) / (2 * d.natAbs) * d.natAbs : Nat) : Int)
    else ((2 * x.natAbs + d.natAbs) / (2 * d.natAbs) * d.natAbs : Nat) := by
  simp only [roundHalfAway]
  generalize (2 * x.natAbs + d.natAbs) / (2 * d.natAbs) = q
  rcases lt_or_ge d 0 with neg | pos
  · have size : (d.natAbs : Int) = -d := by omega
    by_cases below : x < 0 <;> simp [neg, below, size]
  · have size : (d.natAbs : Int) = d := by omega
    by_cases below : x < 0 <;> simp [not_lt.2 pos, below, size]

/-- The rounded quotient is a nearest one, and on a tie the one nearer to zero is not taken. -/
theorem roundHalfAway_nearest (x : Int) {d : Int} (nonzero : d ≠ 0) :
    2 * (x - roundHalfAway x d * d).natAbs ≤ d.natAbs ∧
      (2 * (x - roundHalfAway x d * d).natAbs = d.natAbs → x.natAbs ≤ (roundHalfAway x d * d).natAbs) := by
  rw [roundHalfAway_mul]
  have whole := Nat.div_add_mod (2 * x.natAbs + d.natAbs) (2 * d.natAbs)
  have rest := Nat.mod_lt (2 * x.natAbs + d.natAbs) (show 0 < 2 * d.natAbs by omega)
  generalize (2 * x.natAbs + d.natAbs) / (2 * d.natAbs) = q at whole ⊢
  have twice : 2 * d.natAbs * q = 2 * (q * d.natAbs) := by rw [Nat.mul_assoc, Nat.mul_comm q]
  rw [twice] at whole
  generalize q * d.natAbs = product at whole ⊢
  split <;> omega

theorem clampInt_eq {lo hi : Int} (le : lo ≤ hi) (x : Int) : clampInt lo hi x = max lo (min hi x) := by
  unfold clampInt
  split
  · omega
  · split <;> omega

/-! ## The correlation (R136) -/

theorem chipSum_drop (chip : Int) (chips : List Int) {a : List Int} {i : Nat} (inside : i < a.length) :
    chipSum (chip :: chips) (a.drop i) = chip * a.getD i 0 + chipSum chips (a.drop (i + 1)) := by
  rw [List.drop_eq_getElem_cons inside, chipSum, List.getD_eq_getElem _ _ inside]

theorem length_correlate (code a : List Int) : (correlate code a).length = a.length - 7 := by
  rw [correlate, length_correlateFrom]
  omega

/-- Eight chips gather the eight samples that begin at an index. -/
theorem correlate_eightChips (c0 c1 c2 c3 c4 c5 c6 c7 : Int) {a : List Int} {i : Nat} (inside : i + 7 < a.length) :
    (correlate [c0, c1, c2, c3, c4, c5, c6, c7] a)[i]? = some
      (c0 * a.getD i 0 + c1 * a.getD (i + 1) 0 + c2 * a.getD (i + 2) 0 + c3 * a.getD (i + 3) 0 + c4 * a.getD (i + 4) 0 +
        c5 * a.getD (i + 5) 0 + c6 * a.getD (i + 6) 0 + c7 * a.getD (i + 7) 0) := by
  rw [correlate, correlateFrom_getElem? _ _ _ _ (by omega) (by omega), chipSum_drop _ _ (by omega),
    chipSum_drop _ _ (by omega), chipSum_drop _ _ (by omega), chipSum_drop _ _ (by omega), chipSum_drop _ _ (by omega),
    chipSum_drop _ _ (by omega), chipSum_drop _ _ (by omega), chipSum_drop _ _ inside]
  simp only [chipSum, Int.add_zero, Int.add_assoc]

theorem foldl_max_natAbs (ys : List Int) : (ys.map Int.natAbs).foldl max 0 = largestMagnitude ys := List.foldl_map

/-! ## Peaks at their indices (R137) -/

section Peaks

variable (y : List Int) (first i : Nat)

/-- The value of a correlation at an index, with its neighbours; before the first of all stands 0. -/
def peakAt : Peak := ⟨i, (0 :: y).getD i 0, y.getD i 0, y[i + 1]?⟩

/-- The peaks of a correlation from an index on are those at its indices. -/
theorem peaksFrom_eq_map : peaksFrom first ((0 :: y).getD first 0) (y.drop first) =
    (List.range' first (y.length - first)).map (peakAt y) := by
  refine List.ext_getElem? fun j => ?_
  by_cases inside : j < y.length - first
  · rw [peaksFrom_getElem? _ _ _ _ (by rwa [List.length_drop]), List.getElem?_map, List.getElem?_range' inside]
    have left : (((0 :: y).getD first 0) :: y.drop first).getD j 0 = (0 :: y).getD (first + j) 0 := by
      cases j with
      | zero => rfl
      | succ j => simp [← Nat.add_assoc]
    rw [left]
    simp [peakAt, Nat.add_assoc]
  · rw [List.getElem?_eq_none (by simpa using inside), List.getElem?_eq_none (by simpa using inside)]

theorem searchZone_eq_map : searchZone y = (List.range' 16 (y.length - 16)).map (peakAt y) := peaksFrom_eq_map y 16

/-- The delay of a peak is that of its index. -/
theorem peakAt_delay {y : List Int} {first i : Nat} (from_ : first ≤ i) (inside : i < y.length) :
    (peakAt y i).delay first = delayAt y first i := by
  by_cases edge : i = first
  · subst edge
    cases right : y[i + 1]? <;> simp [Peak.delay, delayAt, peakAt, right]
  by_cases last : i + 1 = y.length
  · simp [Peak.delay, delayAt, peakAt, last]
  obtain ⟨j, rfl⟩ := Nat.exists_eq_add_one_of_ne_zero (show i ≠ 0 by omega)
  have right : y[j + 1 + 1]? = some (y.getD (j + 1 + 1) 0) := by
    rw [List.getD_eq_getElem _ _ (by omega), List.getElem?_eq_getElem]
  simp only [Peak.delay, delayAt, peakAt, right, edge, last, interpolate, false_or, if_false, List.getD_cons_succ,
    Nat.add_sub_cancel, clampInt_eq (show (-4 : Int) ≤ 4 by decide)]

theorem peakAt_candidate : (peakAt y i).candidate = true ↔
    magnitude (0 :: y) i ≤ magnitude y i ∧ (y.length ≤ i + 1 ∨ magnitude y (i + 1) < magnitude y i) := by
  rw [Peak.candidate, Bool.and_eq_true, decide_eq_true_eq]
  refine and_congr Iff.rfl ?_
  by_cases right : i + 1 < y.length
  · simp [peakAt, magnitude, right, not_le.2 right]
  · simp [peakAt, not_lt.1 right]

end Peaks

/-- Of the indices below a length, those from an index on. -/
theorem range_filter_le (k n : Nat) (p : Nat → Bool) :
    ((List.range n).filter fun i => decide (k ≤ i) && p i) = (List.range' k (n - k)).filter p := by
  have before : ((List.range (min k n)).filter fun i => decide (k ≤ i) && p i) = [] := by
    simp only [List.filter_eq_nil_iff, List.mem_range]
    intro i below
    simp [show ¬k ≤ i by omega]
  have after : ((List.range' k (n - k)).filter fun i => decide (k ≤ i) && p i) = (List.range' k (n - k)).filter p :=
    List.filter_congr fun i here => by simp [(List.mem_range'_1.1 here).1]
  rcases Nat.le_total n k with short | long
  · rw [Nat.sub_eq_zero_of_le short, ← Nat.min_eq_right short, before]
    rfl
  · have parts : List.range n = List.range (min k n) ++ List.range' k (n - k) := by
      rw [Nat.min_eq_left long, List.range_eq_range', List.range_eq_range']
      simpa [long] using (List.range'_append_1 (s := 0) (m := k) (n := n - k)).symm
    rw [parts, List.filter_append, before, after, List.nil_append]

/-- The kept candidates are the candidates of the search zone that reach the threshold. -/
theorem searchZone_filter (y : List Int) (threshold : Nat) :
    ((searchZone y).filter fun k => k.candidate && decide (threshold ≤ k.mid.natAbs)) =
      (candidates y threshold).map (peakAt y) := by
  rw [searchZone_eq_map, List.filter_map]
  refine congrArg _ ?_
  rw [← range_filter_le 16 y.length, candidates]
  refine List.filter_congr fun i here => ?_
  have inside := List.mem_range.1 here
  rw [Bool.eq_iff_iff]
  simp only [Bool.and_eq_true, decide_eq_true_eq, Function.comp_apply, peakAt_candidate, and_assoc]
  refine and_congr_right fun zone => ?_
  obtain ⟨j, rfl⟩ := Nat.exists_eq_add_one_of_ne_zero (show i ≠ 0 by omega)
  refine and_congr Iff.rfl (and_congr (or_congr_left ?_) Iff.rfl)
  omega

/-! ## Merging (R138) -/

section Merging

variable (y : List Int)

theorem retain_last (kept : List Nat) (j i : Nat) : retain y (kept ++ [j]) i =
    if j + 8 ≤ i then kept ++ [j] ++ [i] else if magnitude y j < magnitude y i then kept ++ [i] else kept ++ [j] := by
  simp [retain]

theorem mergePeaks_eq (later kept : List Nat) (j : Nat) : (later.foldl (retain y) (kept ++ [j])).map (peakAt y) =
    kept.map (peakAt y) ++ mergePeaks (peakAt y j) (later.map (peakAt y)) := by
  induction later generalizing kept j with
  | nil => simp [mergePeaks]
  | cons i later ih =>
    have apart : (peakAt y j).index + 8 ≤ (peakAt y i).index ↔ j + 8 ≤ i := Iff.rfl
    have larger : (peakAt y j).mid.natAbs < (peakAt y i).mid.natAbs ↔ magnitude y j < magnitude y i := Iff.rfl
    rw [List.foldl_cons, retain_last, List.map_cons, mergePeaks]
    simp only [apart, larger]
    split
    · rw [ih, List.map_append, List.map_singleton, List.append_assoc, List.singleton_append]
    · split
      · exact ih kept i
      · exact ih kept j

/-- The retained peaks stand at the retained indices. -/
theorem retainedPeaks_eq (threshold : Nat) :
    retainedPeaks y threshold = ((candidates y threshold).foldl (retain y) []).map (peakAt y) := by
  rw [retainedPeaks, searchZone_filter]
  cases candidates y threshold with
  | nil => rfl
  | cons i later => exact (mergePeaks_eq y later [] i).symm

theorem mem_of_mem_retain {y : List Int} {kept : List Nat} {i j : Nat} (here : j ∈ retain y kept i) : j ∈ kept ∨ j = i := by
  rcases List.eq_nil_or_concat kept with rfl | ⟨front, last, rfl⟩
  · exact .inr (List.mem_singleton.1 here)
  · rw [List.concat_eq_append, retain_last] at *
    split at here
    · simpa [or_assoc] using here
    · split at here <;> simp at here ⊢ <;> tauto

/-- Every retained index is that of a candidate. -/
theorem mem_candidates_of_retained {y : List Int} {threshold i : Nat}
    (here : i ∈ (candidates y threshold).foldl (retain y) []) : i ∈ candidates y threshold := by
  refine List.foldlRecOn (motive := fun kept => ∀ j ∈ kept, j ∈ candidates y threshold) (candidates y threshold) (retain y)
    (fun _ none => absurd none List.not_mem_nil) (fun kept ih k listed j retained => ?_) i here
  rcases mem_of_mem_retain retained with old | rfl
  · exact ih j old
  · exact listed

end Merging

end Sys2Proof.Machine
end

section
/-! SUPPORT. The choices of Echo Arithmetic, each the first of the greatest (R143, R144, R147), and what a neighbour shows (R143). -/

namespace Sys2Proof.Machine

/-! ## The first of the greatest -/

section Greatest

variable {α : Type} (score : α → Int)

/-- The first thing of greatest score, of a list that begins with v. -/
def firstGreatest (v : α) : List α → α
  | [] => v
  | x :: rest => firstGreatest (if score v < score x then x else v) rest

/-- What stands before the first of the greatest scores less, and nothing behind it scores more. -/
theorem firstGreatest_split (v : α) (l : List α) : ∃ before after, v :: l = before ++ firstGreatest score v l :: after ∧
    (∀ x ∈ before, score x < score (firstGreatest score v l)) ∧ ∀ x ∈ after, score x ≤ score (firstGreatest score v l) := by
  induction l generalizing v with
  | nil => exact ⟨[], [], rfl, by simp, by simp⟩
  | cons x l ih =>
    rw [firstGreatest]
    split
    next more =>
      obtain ⟨before, after, parts, less, most⟩ := ih x
      refine ⟨v :: before, after, by rw [parts]; rfl, List.forall_mem_cons.2 ⟨lt_of_lt_of_le more ?_, less⟩, most⟩
      cases before with
      | nil => exact (congrArg score (List.cons.inj parts).1).le
      | cons b before => exact (List.cons.inj parts).1 ▸ (less b List.mem_cons_self).le
    next atMost =>
      obtain ⟨before, after, parts, less, most⟩ := ih v
      cases before with
      | nil =>
        obtain ⟨same, rest⟩ := List.cons.inj parts
        refine ⟨[], x :: after, by rw [← same, ← rest]; rfl, by simp, List.forall_mem_cons.2 ⟨?_, most⟩⟩
        exact same ▸ not_lt.1 atMost
      | cons b before =>
        obtain ⟨rfl, rest⟩ := List.cons.inj parts
        obtain ⟨below, others⟩ := List.forall_mem_cons.1 less
        refine ⟨v :: x :: before, after, congrArg (v :: x :: ·) rest, ?_, most⟩
        exact List.forall_mem_cons.2 ⟨below, List.forall_mem_cons.2 ⟨(not_lt.1 atMost).trans_lt below, others⟩⟩

theorem firstGreatest_mem (v : α) (l : List α) : firstGreatest score v l ∈ v :: l := by
  obtain ⟨before, after, parts, -, -⟩ := firstGreatest_split score v l
  rw [parts]
  exact List.mem_append_right before List.mem_cons_self

/-- In an ordered list, a thing scores less than the first of the greatest, is it, or stands behind it and scores no more. -/
theorem firstGreatest_order {r : α → α → Prop} {v : α} {l : List α} (ordered : (v :: l).Pairwise r) {x : α}
    (here : x ∈ v :: l) : score x < score (firstGreatest score v l) ∨ x = firstGreatest score v l ∨
      r (firstGreatest score v l) x ∧ score x ≤ score (firstGreatest score v l) := by
  obtain ⟨before, after, parts, less, most⟩ := firstGreatest_split score v l
  rw [parts] at here ordered
  obtain ⟨-, behind, -⟩ := List.pairwise_append.1 ordered
  rcases List.mem_append.1 here with earlier | here
  · exact .inl (less x earlier)
  · rcases List.mem_cons.1 here with same | later
    · exact .inr (.inl same)
    · exact .inr (.inr ⟨(List.pairwise_cons.1 behind).1 x later, most x later⟩)

end Greatest

theorem strongest_eq (k : Peak) (l : List Peak) : strongest k l = firstGreatest (fun k => k.mid.natAbs) k l := by
  induction l generalizing k with
  | nil => rfl
  | cons x l ih => simp only [strongest, firstGreatest, Int.ofNat_lt, ih]

theorem largestCross_eq (v : CrossView) (l : List CrossView) : largestCross v l = firstGreatest (fun v => v.level) v l := by
  induction l generalizing v with
  | nil => rfl
  | cons x l ih => simp only [largestCross, firstGreatest, Int.ofNat_lt, ih]

theorem nearestCross_eq (v : CrossView) (l : List CrossView) :
    nearestCross v l = firstGreatest (fun v => -(v.distance : Int)) v l := by
  induction l generalizing v with
  | nil => rfl
  | cons x l ih => simp only [nearestCross, firstGreatest, neg_lt_neg_iff, Int.ofNat_lt, ih]

/-! ## The strongest index (R143, R147) -/

/-- Index i is the earliest of the largest magnitude from an index on. -/
structure StrongestAt (first : Nat) (y : List Int) (i : Nat) : Prop where
  zone : first ≤ i
  inside : i < y.length
  greatest : ∀ j, first ≤ j → j < y.length → magnitude y j ≤ magnitude y i
  earliest : ∀ j, first ≤ j → j < i → magnitude y j < magnitude y i

theorem StrongestAt.strongestIndex_eq {first : Nat} {y : List Int} {i : Nat} (h : StrongestAt first y i) :
    strongestIndex first y = i := by
  have found : ((List.range y.length).find? fun i => decide (first ≤ i) &&
      (List.range y.length).all fun j => decide (j < first ∨ magnitude y j ≤ magnitude y i)) = some i := by
    refine List.find?_range_eq_some.2 ⟨?_, List.mem_range.2 h.inside, fun j before => ?_⟩
    · simp only [Bool.and_eq_true, decide_eq_true_eq, List.all_eq_true, List.mem_range]
      exact ⟨h.zone, fun j inside => (Nat.lt_or_ge j first).imp_right fun from_ => h.greatest j from_ inside⟩
    · simp only [Bool.not_eq_true', Bool.and_eq_false_imp, decide_eq_true_eq, List.all_eq_false, List.mem_range]
      exact fun from_ => ⟨i, h.inside, not_or.2 ⟨Nat.not_lt.2 h.zone, Nat.not_le.2 (h.earliest j from_ before)⟩⟩
  rw [strongestIndex, found]
  rfl

theorem StrongestAt.largestMagnitude_eq {first : Nat} {y : List Int} {i : Nat} (h : StrongestAt first y i) :
    largestMagnitude (y.drop first) = magnitude y i := by
  refine Nat.le_antisymm ?_ ?_
  · obtain ⟨v, here, largest⟩ := largestMagnitude_mem (y.drop first)
      (List.ne_nil_of_length_pos (by rw [List.length_drop]; exact Nat.sub_pos_of_lt (h.zone.trans_lt h.inside)))
    obtain ⟨j, inside, rfl⟩ := List.mem_drop_iff_getElem.1 here
    rw [← largest, ← List.getD_eq_getElem (d := 0)]
    exact h.greatest (first + j) (Nat.le_add_right first j) (by omega)
  · refine le_largestMagnitude _ (List.mem_drop_iff_getElem.2 ⟨i - first, by have := h.zone; have := h.inside; omega, ?_⟩)
    rw [List.getD_eq_getElem _ _ h.inside]
    exact getElem_congr_idx (Nat.add_sub_of_le h.zone)

/-- The strongest peak from an index on stands at the strongest index. -/
theorem strongest_peaksFrom {first : Nat} {y : List Int} {k : Peak} {rest : List Peak}
    (peaks : peaksFrom first ((0 :: y).getD first 0) (y.drop first) = k :: rest) :
    ∃ i, StrongestAt first y i ∧ strongest k rest = peakAt y i := by
  rw [peaksFrom_eq_map] at peaks
  have ordered : (k :: rest).Pairwise fun a b => a.index < b.index := by
    rw [← peaks, List.pairwise_map]
    exact List.pairwise_lt_range' 1
  obtain ⟨i, among, top⟩ := List.mem_map.1 (peaks ▸ firstGreatest_mem (fun k : Peak => (k.mid.natAbs : Int)) k rest)
  have compare (j : Nat) (from_ : first ≤ j) (inside : j < y.length) :
      magnitude y j < magnitude y i ∨ peakAt y j = peakAt y i ∨ i < j ∧ magnitude y j ≤ magnitude y i := by
    have here : peakAt y j ∈ k :: rest := peaks ▸ List.mem_map_of_mem (List.mem_range'_1.2 (by omega))
    have order := firstGreatest_order (fun k : Peak => (k.mid.natAbs : Int)) ordered here
    rw [← top] at order
    exact order.imp Int.ofNat_lt.1 (Or.imp_right (And.imp_right Int.ofNat_le.1))
  obtain ⟨zone, inside⟩ := List.mem_range'_1.1 among
  refine ⟨i, ⟨zone, by omega, fun j from_ inside => ?_, fun j from_ before => ?_⟩, (strongest_eq k rest).trans top.symm⟩
  · rcases compare j from_ inside with less | same | ⟨-, atMost⟩
    · exact less.le
    · exact (congrArg (fun k : Peak => k.mid.natAbs) same).le
    · exact atMost
  · rcases compare j from_ (by omega) with less | same | ⟨after, -⟩
    · exact less
    · exact absurd (congrArg Peak.index same) before.ne
    · omega

/-- The reference delay is that of the earliest strongest index (R147). -/
theorem referenceDelay_eq (code sums : List Int) (n : Nat) : referenceDelay code sums n =
    delayAt (correlate code (average sums n)) 0 (strongestIndex 0 (correlate code (average sums n))) := by
  unfold referenceDelay
  generalize correlate code (average sums n) = y
  split
  next none =>
    have empty : y = [] := List.length_eq_zero_iff.1 (by rw [← length_peaksFrom 0 0 y, none]; rfl)
    rw [empty]
    rfl
  next k rest peaks =>
    obtain ⟨i, strongest, top⟩ := strongest_peaksFrom (first := 0) (y := y) peaks
    rw [top, strongest.strongestIndex_eq, peakAt_delay strongest.zone strongest.inside]

/-! ## What a neighbour shows (R143) -/

section Cross

variable (snap : Snapshot) (launch : Nat) (q : Pair) {y : List Int}

theorem crossLevel_eq (y : List Int) :
    crossLevel launch y = min 1000 (roundHalfUp (1000 * largestMagnitude (y.drop 16)) launch) := by
  rw [crossLevel, roundHalfUp, foldl_max_natAbs, ← Nat.mul_assoc]

/-- A correlation that reaches the search zone shows its cross level, at its strongest index. -/
theorem crossView_long (long : 16 < y.length) :
    crossView snap launch q y = ⟨q, crossLevel launch y, distanceAt snap y (strongestIndex 16 y)⟩ := by
  unfold crossView
  split
  next none =>
    have : (searchZone y).length = 0 := congrArg List.length none
    rw [searchZone, length_peaksFrom, List.length_drop] at this
    omega
  next k rest peaks =>
    obtain ⟨i, strongest, top⟩ := strongest_peaksFrom (first := 16) (y := y) peaks
    simp only [top]
    rw [strongest.strongestIndex_eq, peakAt_delay strongest.zone strongest.inside, crossLevel_eq,
      strongest.largestMagnitude_eq]
    rfl

theorem crossView_short (short : y.length ≤ 16) : crossView snap launch q y = ⟨q, 0, 0⟩ := by
  rw [crossView, searchZone, List.drop_eq_nil_of_le short]
  rfl

theorem crossView_pair (y : List Int) : (crossView snap launch q y).pair = q := by
  rcases Nat.lt_or_ge 16 y.length with long | short
  · rw [crossView_long snap launch q long]
  · rw [crossView_short snap launch q short]

theorem crossView_level {launch : Nat} (tested : 0 < launch) (y : List Int) :
    (crossView snap launch q y).level = crossLevel launch y := by
  rcases Nat.lt_or_ge 16 y.length with long | short
  · rw [crossView_long snap launch q long]
  · rw [crossView_short snap launch q short, crossLevel_eq, List.drop_eq_nil_of_le short]
    have none : roundHalfUp (1000 * largestMagnitude []) launch = 0 := Nat.div_eq_of_lt (by change 0 + launch < 2 * launch; omega)
    rw [none]
    rfl

/-- A neighbour with any cross level shows it at its strongest index. -/
theorem crossView_distance (shows : 0 < (crossView snap launch q y).level) :
    (crossView snap launch q y).distance = distanceAt snap y (strongestIndex 16 y) := by
  rcases Nat.lt_or_ge 16 y.length with long | short
  · rw [crossView_long snap launch q long]
  · rw [crossView_short snap launch q short] at shows
    exact absurd shows (lt_irrefl 0)

end Cross

end Sys2Proof.Machine
end

section
/-! SUPPORT. The reflections of a pair by index (R139 to R142), the choice of the verdict (R144), and the pair result field by field
(R145). -/

namespace Sys2Proof.Machine

/-! ## Reflections (R139 to R142) -/

theorem peakReflection_peakAt (snap : Snapshot) (launch : Nat) {y : List Int} {i : Nat} (zone : 16 ≤ i) (inside : i < y.length) :
    peakReflection snap launch (peakAt y i) = ⟨distanceAt snap y i, levelAt snap launch y i⟩ := by
  simp only [peakReflection, peakAt_delay zone inside, compensatedLevel, measuredLevel,
    clampInt_eq (show (-1000 : Int) ≤ 1000 by decide)]
  rfl

/-- A level of 150 permille or more either way has a class, and no other. -/
theorem reflectionClass_eq (level : Int) :
    reflectionClass level = if 150 ≤ level.natAbs then some (classOf level) else none := by
  unfold reflectionClass classOf
  split_ifs <;> grind

theorem reflectionClass_isSome (level : Int) : (reflectionClass level).isSome = decide (150 ≤ level.natAbs) := by
  rw [reflectionClass_eq]
  split <;> simp [*]

theorem classOf_open_or_short (level : Int) : classOf level = .opened ∨ classOf level = .shorted ↔ 600 ≤ level.natAbs := by
  unfold classOf
  split_ifs <;> simp <;> omega

theorem classOf_isFault (level : Int) : (classOf level).isFault = true := by
  unfold classOf
  split_ifs <;> rfl

/-- The kept reflections are those of the retained indices. -/
theorem keptReflections_eq (snap : Snapshot) (launch nf : Nat) (y : List Int) :
    keptReflections snap launch nf y = reflectionsOf snap launch (detectionThreshold nf launch) y := by
  simp only [keptReflections, reflectionsOf, reflectionClass_isSome, retainedPeaks_eq, List.map_map]
  refine congrArg (fun l : List Reflection => (l.filter _).take 3) (List.map_congr_left fun i here => ?_)
  obtain ⟨inside, kept⟩ := List.mem_filter.1 (mem_candidates_of_retained here)
  exact peakReflection_peakAt snap launch (of_decide_eq_true kept).1 (List.mem_range.1 inside)

/-! ## The verdict (R144) -/

/-- A reflection's class, with its distance. -/
def Reflection.choice (x : Reflection) : Verdict × Option Nat := (classOf x.level, some x.distance)

theorem Reflection.Kept.class_eq {x : Reflection} (kept : x.Kept) : reflectionClass x.level = some (classOf x.level) := by
  obtain ⟨v, classed⟩ := kept.classed
  rw [reflectionClass_eq, if_pos (reflectionClass_some classed).1]

theorem Reflection.Kept.choice_eq {x : Reflection} (kept : x.Kept) :
    ((reflectionClass x.level).getD .good, some x.distance) = x.choice := by
  rw [kept.class_eq]
  rfl

/-- A reflection of class OPEN or SHORT, not more than 3 dm beyond a distance. -/
def Reflection.Hides (x : Reflection) (d : Nat) : Prop := 600 ≤ x.level.natAbs ∧ x.distance ≤ d + 3

section Verdict

variable {refs : List Reflection} {v : CrossView}

/-- Of reflections beyond a distance, those looked for are those that hide it. -/
theorem openBeyond_test {d : Nat} {x : Reflection} (kept : x.Kept) (beyond : d < x.distance) :
    (decide (d < x.distance ∧ x.distance ≤ d + 3) &&
      (decide (reflectionClass x.level = some .opened) || decide (reflectionClass x.level = some .shorted))) = true ↔
      x.Hides d := by
  simp only [Bool.and_eq_true, Bool.or_eq_true, decide_eq_true_eq, kept.class_eq, Option.some.injEq, classOf_open_or_short,
    beyond, true_and]
  exact and_comm

theorem crossedChoice_clear (kept : ∀ x ∈ refs, x.Kept) (beyond : ∀ x ∈ refs, v.distance < x.distance)
    (clear : ∀ x ∈ refs, ¬x.Hides v.distance) : crossedChoice refs v = (.crossed v.pair, some v.distance) := by
  have none : openBeyond v.distance refs = none :=
    List.find?_eq_none.2 fun x here => mt (openBeyond_test (kept x here) (beyond x here)).1 (clear x here)
  rw [crossedChoice, none]

/-- The nearest reflection that hides a CROSSED event takes its place. -/
theorem crossedChoice_hidden (kept : ∀ x ∈ refs, x.Kept) (beyond : ∀ x ∈ refs, v.distance < x.distance)
    {nearer further : List Reflection} {x : Reflection} (parts : refs = nearer ++ x :: further) (hides : x.Hides v.distance)
    (clear : ∀ n ∈ nearer, ¬n.Hides v.distance) : crossedChoice refs v = x.choice := by
  have here : x ∈ refs := parts ▸ List.mem_append_right nearer List.mem_cons_self
  have found : openBeyond v.distance refs = some x := by
    refine List.find?_eq_some_iff_append.2 ⟨(openBeyond_test (kept x here) (beyond x here)).2 hides, nearer, further, parts,
      fun n among => ?_⟩
    have listed : n ∈ refs := parts ▸ List.mem_append_left _ among
    rw [Bool.not_eq_true', Bool.eq_false_iff]
    exact mt (openBeyond_test (kept n listed) (beyond n listed)).1 (clear n among)
  rw [crossedChoice, found]
  exact (kept x here).choice_eq

theorem nearestCross_mem (v : CrossView) (vs : List CrossView) : nearestCross v vs ∈ v :: vs :=
  nearestCross_eq v vs ▸ firstGreatest_mem _ v vs

theorem chooseVerdict_both {x : Reflection} (kept : x.Kept) (v : CrossView) (vs : List CrossView) :
    chooseVerdict (x :: refs) (v :: vs) =
      if x.distance ≤ (nearestCross v vs).distance then x.choice else crossedChoice (x :: refs) (nearestCross v vs) := by
  rw [← kept.choice_eq]
  rfl

/-- With no CROSSED event nearer, the nearest reflection gives the verdict. -/
theorem chooseVerdict_reflection {x : Reflection} (kept : x.Kept) {crossed : List CrossView}
    (nearest : ∀ v ∈ crossed, x.distance ≤ v.distance) : chooseVerdict (x :: refs) crossed = x.choice := by
  cases crossed with
  | nil => exact kept.choice_eq
  | cons v vs => exact (chooseVerdict_both kept v vs).trans (if_pos (nearest _ (nearestCross_mem v vs)))

/-- A CROSSED event nearer than every reflection, and the first of the nearest, decides. -/
theorem chooseVerdict_crossed {crossed : List CrossView} {r : CrossView → CrossView → Prop} (ordered : crossed.Pairwise r)
    (here : v ∈ crossed) (beyond : ∀ x ∈ refs, v.distance < x.distance)
    (nearest : ∀ w ∈ crossed, v.distance ≤ w.distance) (first : ∀ w ∈ crossed, r w v → v.distance < w.distance) :
    chooseVerdict refs crossed = crossedChoice refs v := by
  cases crossed with
  | nil => cases here
  | cons w vs =>
    have among := nearestCross_mem w vs
    have top : v = nearestCross w vs := by
      have order : -(v.distance : Int) < -((nearestCross w vs).distance : Int) ∨ v = nearestCross w vs ∨
          r (nearestCross w vs) v ∧ -(v.distance : Int) ≤ -((nearestCross w vs).distance : Int) :=
        nearestCross_eq w vs ▸ firstGreatest_order (fun v : CrossView => -(v.distance : Int)) ordered here
      have atMost := nearest _ among
      rcases order with further | same | ⟨behind, noNearer⟩
      · omega
      · exact same
      · have further := first _ among behind
        omega
    subst top
    cases refs with
    | nil => rfl
    | cons x refs => exact if_neg (Nat.not_le.2 (beyond x List.mem_cons_self))

theorem crossedChoice_isFault (kept : ∀ x ∈ refs, x.Kept) (v : CrossView) : (crossedChoice refs v).1.isFault = true := by
  unfold crossedChoice
  split
  next x found =>
    rw [(kept x (openBeyond_mem found)).choice_eq]
    exact classOf_isFault x.level
  next => rfl

theorem chooseVerdict_ne_untestable (kept : ∀ x ∈ refs, x.Kept) (crossed : List CrossView) :
    (chooseVerdict refs crossed).1 ≠ .untestable := by
  have fault {w : Verdict} (h : w.isFault = true) : w ≠ .untestable := by rintro rfl; cases h
  have reflected (x : Reflection) : x.choice.1 ≠ .untestable := fault (classOf_isFault x.level)
  match refs, crossed with
  | [], [] => exact nofun
  | [], v :: vs => exact fault (crossedChoice_isFault kept (nearestCross v vs))
  | x :: _, [] =>
    rw [chooseVerdict_reflection (kept x List.mem_cons_self) (by simp)]
    exact reflected x
  | x :: _, v :: vs =>
    rw [chooseVerdict_both (kept x List.mem_cons_self)]
    split
    · exact reflected x
    · exact fault (crossedChoice_isFault kept (nearestCross v vs))

end Verdict

/-! ## The pair result (R145) -/

theorem isNoisy_iff {floors : List Nat} {n : Nat} :
    isNoisy floors n = true ↔ n < 2 * floors.countP fun f => decide (96 < f) := by
  rw [isNoisy, decide_eq_true_eq, List.countP_eq_length_filter]

theorem noiseFigure_of_ne_nil {floors : List Nat} (some_ : floors ≠ []) :
    noiseFigure floors = (2 * floors.sum + floors.length) / (2 * floors.length) :=
  if_neg (mt List.isEmpty_iff.1 some_)

section Result

variable (code : List Int) (snap : Snapshot) (c : PairCapture)

/-- The correlation of a pair of a capture (R134, R136). -/
def PairCapture.echo (q : Pair) : List Int := correlate code (average (atPair c.sums q) c.completed)

/-- The launch level (R136). -/
def PairCapture.launch : Nat := largestMagnitude ((c.echo code c.pair).take 16)

/-- What a pair shows beside the one shot (R143). -/
def PairCapture.view (q : Pair) : CrossView := crossView snap (c.launch code) q (c.echo code q)

/-- What the neighbours of the pair shot show, in pair order. -/
def PairCapture.views : List CrossView := (allPairs.filter fun q => decide (q ≠ c.pair)).map (c.view code snap)

/-- The CROSSED events, in pair order (R143). -/
def PairCapture.crossed : List CrossView := (c.views code snap).filter fun v => decide (400 ≤ v.level)

def PairCapture.kept : List Reflection := keptReflections snap (c.launch code) (noiseFigure c.floors) (c.echo code c.pair)

/-- A neighbour of cross level 400 or more (R143). -/
def PairCapture.IsCrossed (q : Pair) : Prop := q ≠ c.pair ∧ 400 ≤ crossLevel (c.launch code) (c.echo code q)

/-- The distance at which a pair shows most (R143). -/
def PairCapture.crossDistance (q : Pair) : Nat := distanceAt snap (c.echo code q) (strongestIndex 16 (c.echo code q))

variable {code snap c} {q : Pair}

theorem PairCapture.kept_all : ∀ x ∈ c.kept code snap, x.Kept := fun _ => keptReflections_kept

theorem PairCapture.view_pair : (c.view code snap q).pair = q := crossView_pair _ _ _ _

theorem PairCapture.view_level (tested : 512 ≤ c.launch code) :
    (c.view code snap q).level = crossLevel (c.launch code) (c.echo code q) := crossView_level snap q (by omega) _

theorem PairCapture.mem_views {v : CrossView} : v ∈ c.views code snap ↔ ∃ q, q ≠ c.pair ∧ c.view code snap q = v := by
  simp [PairCapture.views, mem_allPairs]

theorem PairCapture.views_ordered : (c.views code snap).Pairwise fun v w => pairNumber v.pair < pairNumber w.pair := by
  rw [PairCapture.views, List.pairwise_map]
  simp only [PairCapture.view_pair]
  exact (by decide : allPairs.Pairwise fun q r => pairNumber q < pairNumber r).filter _

theorem PairCapture.views_ne_nil : c.views code snap ≠ [] := by
  obtain ⟨q, other⟩ : ∃ q : Pair, q ≠ c.pair := match c.pair with
    | .a => ⟨.b, nofun⟩
    | .b | .c | .d => ⟨.a, nofun⟩
  exact List.ne_nil_of_mem (PairCapture.mem_views.2 ⟨q, other, rfl⟩)

/-- A CROSSED event shows a neighbour's cross level of 400 or more. -/
theorem PairCapture.mem_crossed (tested : 512 ≤ c.launch code) {v : CrossView} : v ∈ c.crossed code snap ↔
    ∃ q, c.IsCrossed code q ∧ c.view code snap q = v := by
  rw [PairCapture.crossed, List.mem_filter, PairCapture.mem_views, decide_eq_true_eq]
  constructor
  · rintro ⟨⟨q, other, rfl⟩, high⟩
    exact ⟨q, ⟨other, PairCapture.view_level tested ▸ high⟩, rfl⟩
  · rintro ⟨q, ⟨other, high⟩, rfl⟩
    exact ⟨⟨q, other, rfl⟩, (PairCapture.view_level tested).symm ▸ high⟩

theorem PairCapture.IsCrossed.distance (tested : 512 ≤ c.launch code) (h : c.IsCrossed code q) :
    (c.view code snap q).distance = c.crossDistance code snap q := by
  refine crossView_distance snap _ q ?_
  have level : (crossView snap (c.launch code) q (c.echo code q)).level = _ := PairCapture.view_level tested
  have high := h.2
  omega

/-- The largest of what the neighbours show is of a neighbour, at least every other's, and greater than any before it. -/
theorem PairCapture.largestCross_views {v : CrossView} {vs : List CrossView} (views : c.views code snap = v :: vs) :
    ∃ top, largestCross v vs = c.view code snap top ∧ top ≠ c.pair ∧ ∀ q, q ≠ c.pair →
      (c.view code snap q).level ≤ (c.view code snap top).level ∧
        (pairNumber q < pairNumber top → (c.view code snap q).level < (c.view code snap top).level) := by
  obtain ⟨top, other, same⟩ := PairCapture.mem_views.1 (views.symm ▸ largestCross_mem v vs)
  refine ⟨top, same.symm, other, fun q neighbour => ?_⟩
  have order := firstGreatest_order (fun v : CrossView => (v.level : Int)) (views ▸ c.views_ordered)
    (views ▸ PairCapture.mem_views.2 ⟨q, neighbour, rfl⟩)
  rw [← largestCross_eq, ← same, PairCapture.view_pair, PairCapture.view_pair] at order
  rcases order with less | equal | ⟨behind, atMost⟩
  · exact ⟨(Int.ofNat_lt.1 less).le, fun _ => Int.ofNat_lt.1 less⟩
  · have one : q = top := PairCapture.view_pair.symm.trans ((congrArg CrossView.pair equal).trans PairCapture.view_pair)
    exact ⟨one ▸ le_rfl, fun before => absurd (one ▸ before) (lt_irrefl _)⟩
  · exact ⟨Int.ofNat_le.1 atMost, fun before => absurd before behind.not_gt⟩

theorem analysePair_weak (weak : c.launch code < 512) : analysePair code snap c =
    { verdict := .untestable, low := c.clipped, noisy := isNoisy c.floors c.completed, clipped := c.clipped, distance := none,
      noise := noiseFigure c.floors, cross := 0, crossPair := c.pair, reflections := [] } := if_pos weak

theorem analysePair_tested {v : CrossView} {vs : List CrossView} (views : c.views code snap = v :: vs)
    (tested : 512 ≤ c.launch code) : analysePair code snap c =
    { verdict := (chooseVerdict (c.kept code snap) (c.crossed code snap)).1, low := c.clipped
      noisy := isNoisy c.floors c.completed, clipped := c.clipped
      distance := (chooseVerdict (c.kept code snap) (c.crossed code snap)).2, noise := noiseFigure c.floors
      cross := (largestCross v vs).level, crossPair := (largestCross v vs).pair, reflections := c.kept code snap } := by
  refine (if_neg (Nat.not_lt.2 tested)).trans ?_
  dsimp only
  split
  next none => exact nomatch views.symm.trans none
  next w ws same =>
    obtain ⟨rfl, rfl⟩ := List.cons.inj (same.symm.trans views)
    rfl

/-- Confidence, flags and noise figure are the same with and without a launch (R135, R145). -/
theorem analysePair_flags : (analysePair code snap c).low = c.clipped ∧ (analysePair code snap c).clipped = c.clipped ∧
    (analysePair code snap c).noisy = isNoisy c.floors c.completed ∧
    (analysePair code snap c).noise = noiseFigure c.floors := by
  rcases lt_or_ge (c.launch code) 512 with weak | tested
  · rw [analysePair_weak weak]
    exact ⟨rfl, rfl, rfl, rfl⟩
  · obtain ⟨v, vs, views⟩ := List.exists_cons_of_ne_nil (c.views_ne_nil (code := code) (snap := snap))
    rw [analysePair_tested views tested]
    exact ⟨rfl, rfl, rfl, rfl⟩

/-- The verdict and the fault distance are those chosen from the kept reflections and the CROSSED events. -/
theorem analysePair_events (tested : 512 ≤ c.launch code) :
    ((analysePair code snap c).verdict, (analysePair code snap c).distance) =
      chooseVerdict (c.kept code snap) (c.crossed code snap) ∧
    (analysePair code snap c).reflections = c.kept code snap := by
  obtain ⟨v, vs, views⟩ := List.exists_cons_of_ne_nil (c.views_ne_nil (code := code) (snap := snap))
  rw [analysePair_tested views tested]
  exact ⟨rfl, rfl⟩

/-- The cross level is the largest of the neighbours', that of the earliest of equals. -/
theorem analysePair_cross (tested : 512 ≤ c.launch code) :
    let cross (q : Pair) : Nat := crossLevel (c.launch code) (c.echo code q)
    let r := analysePair code snap c
    r.crossPair ≠ c.pair ∧ r.cross = cross r.crossPair ∧
      ∀ q, q ≠ c.pair → cross q ≤ r.cross ∧ (pairNumber q < pairNumber r.crossPair → cross q < r.cross) := by
  obtain ⟨v, vs, views⟩ := List.exists_cons_of_ne_nil (c.views_ne_nil (code := code) (snap := snap))
  obtain ⟨top, same, other, greatest⟩ := PairCapture.largestCross_views views
  simp only [PairCapture.view_level tested] at greatest
  simp only [analysePair_tested views tested, same, PairCapture.view_pair, PairCapture.view_level tested]
  exact ⟨other, trivial, greatest⟩

theorem choice_of_no_event (tested : 512 ≤ c.launch code) (empty : c.kept code snap = []) (none : ∀ q, ¬c.IsCrossed code q) :
    chooseVerdict (c.kept code snap) (c.crossed code snap) = (.good, .none) := by
  have uncrossed : c.crossed code snap = [] := List.eq_nil_iff_forall_not_mem.2 fun v here =>
    let ⟨q, crossed, _⟩ := (PairCapture.mem_crossed tested).1 here
    none q crossed
  rw [empty, uncrossed]
  rfl

theorem choice_of_reflection (tested : 512 ≤ c.launch code) {x : Reflection} {rest : List Reflection}
    (refs : c.kept code snap = x :: rest) (nearest : ∀ q, c.IsCrossed code q → x.distance ≤ c.crossDistance code snap q) :
    chooseVerdict (c.kept code snap) (c.crossed code snap) = x.choice := by
  have kept : x.Kept := c.kept_all (code := code) (snap := snap) x (refs ▸ List.mem_cons_self)
  rw [refs]
  refine chooseVerdict_reflection kept fun v here => ?_
  obtain ⟨q, crossed, rfl⟩ := (PairCapture.mem_crossed tested).1 here
  exact crossed.distance tested ▸ nearest q crossed

/-- A CROSSED event nearer than every reflection, and the first of the nearest, decides. -/
theorem choice_of_crossed (tested : 512 ≤ c.launch code) (crossed : c.IsCrossed code q)
    (beyond : ∀ x ∈ c.kept code snap, c.crossDistance code snap q < x.distance)
    (nearest : ∀ n, c.IsCrossed code n → c.crossDistance code snap q < c.crossDistance code snap n ∨
      (c.crossDistance code snap q = c.crossDistance code snap n ∧ pairNumber q ≤ pairNumber n)) :
    chooseVerdict (c.kept code snap) (c.crossed code snap) = crossedChoice (c.kept code snap) (c.view code snap q) := by
  have ordered := (c.views_ordered (code := code) (snap := snap)).filter fun v => decide (400 ≤ v.level)
  have here := (PairCapture.mem_crossed (snap := snap) tested).2 ⟨q, crossed, rfl⟩
  have away := crossed.distance (snap := snap) tested
  refine chooseVerdict_crossed ordered here (fun x kept => away ▸ beyond x kept) (fun w event => ?_) fun w event earlier => ?_
  · obtain ⟨n, other, rfl⟩ := (PairCapture.mem_crossed tested).1 event
    rw [away, other.distance tested]
    rcases nearest n other with nearer | ⟨equal, -⟩
    · exact nearer.le
    · exact equal.le
  · obtain ⟨n, other, rfl⟩ := (PairCapture.mem_crossed tested).1 event
    rw [PairCapture.view_pair, PairCapture.view_pair] at earlier
    rw [away, other.distance tested]
    rcases nearest n other with nearer | ⟨-, later⟩
    · exact nearer
    · exact absurd earlier later.not_gt

/-- Such a CROSSED event stands, but for the nearest reflection that hides it. -/
theorem crossedChoice_view (tested : 512 ≤ c.launch code) (crossed : c.IsCrossed code q)
    (beyond : ∀ x ∈ c.kept code snap, c.crossDistance code snap q < x.distance) :
    ((∀ x ∈ c.kept code snap, ¬x.Hides (c.crossDistance code snap q)) →
      crossedChoice (c.kept code snap) (c.view code snap q) = (.crossed q, some (c.crossDistance code snap q))) ∧
    ∀ nearer x further, c.kept code snap = nearer ++ x :: further → x.Hides (c.crossDistance code snap q) →
      (∀ n ∈ nearer, ¬n.Hides (c.crossDistance code snap q)) →
      crossedChoice (c.kept code snap) (c.view code snap q) = x.choice := by
  rw [← crossed.distance tested] at beyond ⊢
  refine ⟨fun clear => ?_, fun nearer x further parts hides clear => ?_⟩
  · rw [crossedChoice_clear c.kept_all beyond clear, PairCapture.view_pair]
  · exact crossedChoice_hidden c.kept_all beyond parts hides clear

end Result

/-! ## The level of a listen block (R146) -/

section Block

variable (code : List Int) (blocks : Four (Vector Sample 512))

/-- The correlation of a listen block's samples on one pair. -/
def blockEcho (q : Pair) : List Int := correlate code (sampleInts (atPair blocks q))

theorem blockLevel_eq : blockLevel code blocks =
    max (max (max (largestMagnitude (blockEcho code blocks .a)) (largestMagnitude (blockEcho code blocks .b)))
      (largestMagnitude (blockEcho code blocks .c))) (largestMagnitude (blockEcho code blocks .d)) := by
  simp [blockLevel, allPairs, blockEcho]

theorem largestMagnitude_le_blockLevel (q : Pair) : largestMagnitude (blockEcho code blocks q) ≤ blockLevel code blocks := by
  rw [blockLevel_eq]
  cases q <;> omega

theorem blockLevel_attained : ∃ q, largestMagnitude (blockEcho code blocks q) = blockLevel code blocks := by
  rw [blockLevel_eq]
  by_contra none
  have other := not_exists.1 none
  have := other .a
  have := other .b
  have := other .c
  have := other .d
  omega

theorem blockEcho_ne_nil (q : Pair) : blockEcho code blocks q ≠ [] := by
  refine List.ne_nil_of_length_pos ?_
  simp [blockEcho, length_correlate, sampleInts]

end Block

end Sys2Proof.Machine
end

section
/-! The statement on Echo Arithmetic. -/

open Sys2Proof Sys2Proof.Machine

/-- Settles O60: the lists of the model stand at the indices the rules name, its choices are the first of the greatest, and the
verdict is that of the nearest event. -/
theorem analysedPair : Obligations.AnalysedPair := by
  refine ⟨by decide, fun x d nonzero => roundHalfAway_nearest x nonzero, fun c0 c1 c2 c3 c4 c5 c6 c7 a =>
    ⟨length_correlate _ a, fun i inside => correlate_eightChips c0 c1 c2 c3 c4 c5 c6 c7 inside⟩, fun code snap c => ?_,
    fun code b => ⟨fun q v here => ?_, ?_⟩, fun code sums n => referenceDelay_eq code sums n⟩
  · intro r y launch
    have level : launch = c.launch code := foldl_max_natAbs _
    clear_value launch
    subst level
    intro cross crossed dist hides
    obtain ⟨low, clipped, noisy, noise⟩ := analysePair_flags (code := code) (snap := snap) (c := c)
    refine ⟨analysePair_sound code snap c, low, clipped, ?_, fun some_ => ?_, fun none => ?_, fun weak => ?_, fun tested => ?_⟩
    · rw [show r.noisy = _ from noisy]
      exact isNoisy_iff
    · exact noise.trans (noiseFigure_of_ne_nil some_)
    · exact noise.trans (none ▸ rfl)
    · have result : r = _ := analysePair_weak weak
      rw [result]
      exact ⟨rfl, rfl, rfl, rfl⟩
    · obtain ⟨choice, reflections⟩ := analysePair_events (snap := snap) tested
      have kept := c.kept_all (code := code) (snap := snap)
      refine ⟨?_, ?_, analysePair_cross tested, fun empty none => ?_, fun x rest refs nearest => ?_,
        fun q event beyond nearest => ?_⟩
      · exact (congrArg Prod.fst choice).trans_ne (chooseVerdict_ne_untestable kept _)
      · refine reflections.trans ((keptReflections_eq ..).trans ?_)
        rw [show r.noise = _ from noise]
        rfl
      · exact Prod.mk.inj (choice.trans (choice_of_no_event tested (reflections.symm.trans empty) none))
      · exact Prod.mk.inj (choice.trans (choice_of_reflection tested (reflections.symm.trans refs) nearest))
      · rw [show r.reflections = _ from reflections] at beyond ⊢
        have nearer := choice.trans (choice_of_crossed tested event beyond nearest)
        obtain ⟨clear, hidden⟩ := crossedChoice_view tested event beyond
        exact ⟨fun none => Prod.mk.inj (nearer.trans (clear none)), fun before x after parts hides none =>
          Prod.mk.inj (nearer.trans (hidden before x after parts hides none))⟩
  · exact (le_largestMagnitude _ here).trans (largestMagnitude_le_blockLevel code b q)
  · obtain ⟨q, level⟩ := blockLevel_attained code b
    obtain ⟨v, here, largest⟩ := largestMagnitude_mem _ (blockEcho_ne_nil code b q)
    exact ⟨q, v, here, largest.trans level⟩

end

section
/-! SUPPORT. The Coupling Table (R160, R161): the order of its keys, where an entry goes, which one is evicted, and what a recording
makes of the table. -/

namespace Sys2Proof.Machine

/-! ## Key order (R160) -/

/-- The place of a key in table order, as a number. -/
def CouplingKey.rank (k : CouplingKey) : Nat := (k.localPort.val * 16 + k.station.toNat) * 12 + k.remotePort.val

theorem CouplingKey.rank_inj {a b : CouplingKey} (same : a.rank = b.rank) : a = b := by
  obtain ⟨p, st, q⟩ := a
  obtain ⟨p', st', q'⟩ := b
  simp only [CouplingKey.rank] at same
  rw [CouplingKey.mk.injEq, Fin.ext_iff, ← BitVec.toNat_inj, Fin.ext_iff]
  omega

theorem CouplingKey.before_iff {a b : CouplingKey} : a.before b = true ↔ a.rank < b.rank := by
  obtain ⟨p, st, q⟩ := a
  obtain ⟨p', st', q'⟩ := b
  simp only [CouplingKey.before, CouplingKey.rank, ne_eq, Fin.ext_iff, ← BitVec.toNat_inj]
  split
  · rw [decide_eq_true_iff]
    omega
  · split <;> rw [decide_eq_true_iff] <;> omega

theorem CouplingKey.before_trans {a b c : CouplingKey} (ab : a.before b = true) (bc : b.before c = true) :
    a.before c = true := by
  rw [CouplingKey.before_iff] at *
  omega

theorem CouplingKey.before_ne {a b : CouplingKey} (h : a.before b = true) : a ≠ b := by
  rintro rfl
  exact lt_irrefl _ (CouplingKey.before_iff.1 h)

theorem CouplingKey.not_before {a b : CouplingKey} (h : a.before b = true) : ¬b.before a = true := by
  rw [CouplingKey.before_iff] at *
  omega

/-- Of two different keys one stands before the other. -/
theorem CouplingKey.before_of_not {a b : CouplingKey} (other : a ≠ b) (h : ¬a.before b = true) : b.before a = true := by
  have ranks := mt CouplingKey.rank_inj other
  rw [CouplingKey.before_iff] at *
  omega

/-- Every entry stands before all that follow it. -/
theorem couplingSorted_iff {l : List CouplingEntry} :
    couplingSorted l = true ↔ l.Pairwise fun a b => a.key.before b.key = true := by
  have : IsTrans CouplingEntry fun a b => a.key.before b.key = true := ⟨fun _ _ _ => CouplingKey.before_trans⟩
  rw [← List.isChain_iff_pairwise]
  induction l with
  | nil => simp [couplingSorted]
  | cons a l ih =>
    cases l with
    | nil => simp [couplingSorted]
    | cons b l =>
      rw [couplingSorted, Bool.and_eq_true, List.isChain_cons_cons]
      exact and_congr_right fun _ => ih

/-! ## Where an entry goes (R161) -/

theorem insertCoupling_perm (c : CouplingEntry) (l : List CouplingEntry) : (insertCoupling c l).Perm (c :: l) := by
  induction l with
  | nil => exact .refl _
  | cons x l ih =>
    unfold insertCoupling
    split
    · exact .refl _
    · exact (ih.cons x).trans (.swap c x l)

/-- An entry goes behind those whose keys stand before its own and in front of the others. -/
theorem insertCoupling_append {c : CouplingEntry} {low high : List CouplingEntry}
    (lower : ∀ x ∈ low, x.key.before c.key = true) (higher : ∀ x ∈ high, c.key.before x.key = true) :
    insertCoupling c (low ++ high) = low ++ c :: high := by
  induction low with
  | nil =>
    cases high with
    | nil => rfl
    | cons x high => exact if_pos (higher x List.mem_cons_self)
  | cons x low ih =>
    obtain ⟨first, lower⟩ := List.forall_mem_cons.1 lower
    exact (if_neg (CouplingKey.not_before first)).trans (congrArg (x :: ·) (ih lower))

theorem insertCoupling_sorted {c : CouplingEntry} {l : List CouplingEntry}
    (sorted : l.Pairwise fun a b => a.key.before b.key = true) (fresh : ∀ x ∈ l, x.key ≠ c.key) :
    (insertCoupling c l).Pairwise fun a b => a.key.before b.key = true := by
  induction l with
  | nil => exact List.pairwise_singleton _ _
  | cons x l ih =>
    obtain ⟨below, rest⟩ := List.pairwise_cons.1 sorted
    obtain ⟨other, fresh⟩ := List.forall_mem_cons.1 fresh
    unfold insertCoupling
    split
    next first =>
      have ahead : ∀ y ∈ l, c.key.before y.key = true := fun y here => CouplingKey.before_trans first (below y here)
      exact List.pairwise_cons.2 ⟨List.forall_mem_cons.2 ⟨first, ahead⟩, sorted⟩
    next behind =>
      refine List.pairwise_cons.2 ⟨fun y here => ?_, ih rest fresh⟩
      rcases List.mem_cons.1 ((insertCoupling_perm c l).mem_iff.1 here) with rfl | here
      · exact CouplingKey.before_of_not other.symm behind
      · exact below y here

/-! ## Which entry is evicted (R161) -/

theorem evictLater_iff {a b : CouplingEntry} :
    evictLater a b = true ↔ a.age < b.age ∨ (a.age = b.age ∧ b.level ≤ a.level) := by
  unfold evictLater
  split <;> rw [decide_eq_true_iff] <;> omega

theorem evictee_mem (c : CouplingEntry) (l : List CouplingEntry) : evictee c l ∈ c :: l := by
  induction l generalizing c with
  | nil => exact List.mem_cons_self
  | cons x l ih =>
    rw [evictee]
    split
    · exact List.mem_cons_of_mem c (ih x)
    · exact (List.sublist_cons_self x l).cons_cons c |>.subset (ih c)

/-- An entry evicted rather than each that follows it. -/
theorem evictee_first {c : CouplingEntry} {l : List CouplingEntry} (rather : ∀ x ∈ l, ¬evictLater c x = true) :
    evictee c l = c := by
  induction l with
  | nil => rfl
  | cons x l ih =>
    obtain ⟨first, rather⟩ := List.forall_mem_cons.1 rather
    rw [evictee, if_neg first, ih rather]

/-- An entry evicted rather than each before it: the choice goes on from there. -/
theorem evictee_append {c x : CouplingEntry} {low high : List CouplingEntry}
    (later : ∀ y ∈ c :: low, evictLater y x = true) : evictee c (low ++ x :: high) = evictee x high := by
  induction low generalizing c with
  | nil => rw [List.nil_append, evictee, if_pos (later c List.mem_cons_self)]
  | cons y low ih =>
    rw [List.cons_append, evictee]
    obtain ⟨first, second, later⟩ := by simpa using later
    split
    · exact ih (List.forall_mem_cons.2 ⟨second, later⟩)
    · exact ih (List.forall_mem_cons.2 ⟨first, later⟩)

/-! ## A recording (R161) -/

section Record

variable {table : List CouplingEntry} {k : CouplingKey} (level : Nat) (src : CouplingSource)

theorem recordCoupling_known (known : ∃ c ∈ table, c.key = k) : recordCoupling table k level src =
    table.map fun c => if c.key = k then c.refresh level src else c :=
  if_pos (by simpa using known)

theorem recordCoupling_room (new : ∀ c ∈ table, c.key ≠ k) (room : table.length < 64) :
    recordCoupling table k level src = insertCoupling (newCoupling k level src) table :=
  (if_neg (by simpa using new)).trans (if_pos room)

theorem recordCoupling_full {c : CouplingEntry} (new : ∀ x ∈ c :: table, x.key ≠ k) (full : 64 ≤ (c :: table).length) :
    recordCoupling (c :: table) k level src =
      insertCoupling (newCoupling k level src) ((c :: table).filter fun x => decide (x.key ≠ (evictee c table).key)) :=
  (if_neg (by simpa using new)).trans (if_neg full.not_gt)

end Record

/-- In a table in order, no entry but the one evicted has its key. -/
theorem filter_evicted {low high : List CouplingEntry} {x : CouplingEntry}
    (sorted : (low ++ x :: high).Pairwise fun a b => a.key.before b.key = true) :
    ((low ++ x :: high).filter fun y => decide (y.key ≠ x.key)) = low ++ high := by
  obtain ⟨-, above, below⟩ := List.pairwise_append.1 sorted
  have lower : ∀ y ∈ low, decide (y.key ≠ x.key) = true := fun y here =>
    decide_eq_true (CouplingKey.before_ne (below y here x List.mem_cons_self))
  have higher : ∀ y ∈ high, decide (y.key ≠ x.key) = true := fun y here =>
    decide_eq_true (CouplingKey.before_ne (List.rel_of_pairwise_cons above here)).symm
  rw [List.filter_append, List.filter_cons_of_neg (by simp), List.filter_eq_self.2 lower, List.filter_eq_self.2 higher]

/-- The entry evicted has the highest age, then the lowest level, then the last place. -/
theorem evictee_eq {c x : CouplingEntry} {l low high : List CouplingEntry} (parts : c :: l = low ++ x :: high)
    (lower : ∀ y ∈ low, y.age < x.age ∨ (y.age = x.age ∧ x.level ≤ y.level))
    (higher : ∀ y ∈ high, y.age < x.age ∨ (y.age = x.age ∧ x.level < y.level)) : evictee c l = x := by
  have stays : evictee x high = x := evictee_first fun y here => by
    have order := higher y here
    rw [evictLater_iff]
    omega
  cases low with
  | nil =>
    obtain ⟨rfl, rfl⟩ := List.cons.inj parts
    exact stays
  | cons d low =>
    obtain ⟨rfl, rfl⟩ := List.cons.inj parts
    exact (evictee_append fun y here => evictLater_iff.2 (lower y here)).trans stays

/-! ## A sound table (R160 to R162) -/

/-- A level that is kept, an age within its limit, and a source. -/
structure CouplingEntry.Sound (c : CouplingEntry) : Prop where
  level : 20 ≤ c.level ∧ c.level ≤ 1000
  age : c.age ≤ 255
  learned : (c.heard || c.told) = true

/-- At most 64 sound entries, in order. -/
structure TableSound (l : List CouplingEntry) : Prop where
  room : l.length ≤ 64
  sorted : l.Pairwise fun a b => a.key.before b.key = true
  entries : ∀ c ∈ l, c.Sound

theorem State.couplingSound_iff {s : State} : s.couplingSound = true ↔ TableSound s.coupling := by
  simp only [State.couplingSound, Bool.and_eq_true, decide_eq_true_eq, List.all_eq_true, couplingSorted_iff]
  constructor
  · rintro ⟨⟨room, sorted⟩, entries⟩
    refine ⟨room, sorted, fun c here => ?_⟩
    obtain ⟨⟨level, age⟩, learned⟩ := entries c here
    exact ⟨level, age, learned⟩
  · rintro ⟨room, sorted, entries⟩
    exact ⟨⟨room, sorted⟩, fun c here => ⟨⟨(entries c here).level, (entries c here).age⟩, (entries c here).learned⟩⟩

theorem newCoupling_sound (k : CouplingKey) {level : Nat} (kept : 20 ≤ level ∧ level ≤ 1000) (src : CouplingSource) :
    (newCoupling k level src).Sound :=
  ⟨kept, Nat.zero_le _, by cases src <;> rfl⟩

theorem CouplingEntry.Sound.refresh {c : CouplingEntry} {level : Nat} (kept : 20 ≤ level ∧ level ≤ 1000)
    (src : CouplingSource) : (c.refresh level src).Sound :=
  ⟨kept, Nat.zero_le _, by cases src <;> simp [CouplingEntry.refresh]⟩

theorem CouplingEntry.Sound.ageMinute {c : CouplingEntry} (h : c.Sound) : c.ageMinute.Sound :=
  ⟨h.level, Nat.min_le_left _ _, h.learned⟩

namespace TableSound

theorem nil : TableSound [] := ⟨Nat.zero_le _, .nil, nofun⟩

variable {l : List CouplingEntry} (h : TableSound l)
include h

/-- Entries written in their places, under their keys. -/
theorem map {f : CouplingEntry → CouplingEntry} (key : ∀ c, (f c).key = c.key) (sound : ∀ c, c.Sound → (f c).Sound) :
    TableSound (l.map f) where
  room := by rw [List.length_map]; exact h.room
  sorted := by simpa only [List.pairwise_map, key] using h.sorted
  entries := List.forall_mem_map.2 fun c here => sound c (h.entries c here)

theorem filter (keep : CouplingEntry → Bool) : TableSound (l.filter keep) where
  room := (List.length_filter_le keep l).trans h.room
  sorted := h.sorted.filter keep
  entries := fun c here => h.entries c (List.mem_filter.1 here).1

theorem insert {c : CouplingEntry} (room : l.length < 64) (fresh : ∀ x ∈ l, x.key ≠ c.key) (sound : c.Sound) :
    TableSound (insertCoupling c l) where
  room := (insertCoupling_perm c l).length_eq ▸ room
  sorted := insertCoupling_sorted h.sorted fresh
  entries := fun x here => by
    rcases List.mem_cons.1 ((insertCoupling_perm c l).mem_iff.1 here) with rfl | here
    · exact sound
    · exact h.entries x here

/-- A recording refreshes the entry of its key, or makes one: a full table has lost an entry before. -/
theorem record (k : CouplingKey) {level : Nat} (kept : 20 ≤ level ∧ level ≤ 1000) (src : CouplingSource) :
    TableSound (recordCoupling l k level src) := by
  have made := newCoupling_sound k kept src
  by_cases known : ∃ c ∈ l, c.key = k
  · rw [recordCoupling_known level src known]
    refine h.map (fun c => ?_) fun c sound => ?_
    · split <;> rfl
    · split
      · exact .refresh kept src
      · exact sound
  · have new : ∀ c ∈ l, c.key ≠ k := fun c here same => known ⟨c, here, same⟩
    rcases Nat.lt_or_ge l.length 64 with room | full
    · rw [recordCoupling_room level src new room]
      exact h.insert room new made
    · match l with
      | c :: rest =>
        rw [recordCoupling_full level src new full]
        have evicted : ((c :: rest).filter fun x => decide (x.key ≠ (evictee c rest).key)).length < (c :: rest).length :=
          List.length_filter_lt_length_iff_exists.2 ⟨evictee c rest, evictee_mem c rest, by simp⟩
        exact (h.filter _).insert (evicted.trans_le h.room) (fun x here => new x (List.mem_filter.1 here).1) made

theorem ageMinute : TableSound (l.map CouplingEntry.ageMinute) := h.map (fun _ => rfl) fun _ sound => sound.ageMinute

end TableSound

end Sys2Proof.Machine
end

section
/-! SUPPORT. COUPLING_SEEN where the Bundle Coordinator takes it (R164, R174). -/

namespace Sys2Proof.Machine

variable {s : State} {st : Station} {swept mine : Byte} {level : BitVec 16} (taken : s.coordinates = true)
include taken

theorem exec_couplingSeen :
    exec (.couplingSeen st swept mine level) s = .next (s.couplingSeenFrom st swept mine level).settle :=
  State.perform_taken (fun t => t.couplingSeenFrom st swept mine level) (State.coordinates_inReset taken)

variable (peer : s.isPeer st = true)
include peer

theorem State.couplingSeenFrom_outside
    (outside : swept.toNat = 0 ∨ s.portCount < swept.toNat ∨ mine.toNat = 0 ∨ 12 < mine.toNat) :
    s.couplingSeenFrom st swept mine level = s := by
  have unnamed : s.portField swept = none ∨ peerPort mine = none := by
    rcases outside with zero | high | zero | high
    · exact .inl (State.portField_absent (.inl zero))
    · exact .inl (State.portField_absent (.inr high))
    · exact .inr (peerPort_outside (.inl (BitVec.eq_of_toNat_eq zero)))
    · exact .inr (peerPort_outside (.inr high))
  rw [State.couplingSeenFrom, State.fromPeer_taken _ taken peer]
  split
  next named mineNamed =>
    rcases unnamed with none | none
    · exact nomatch named.symm.trans none
    · exact nomatch mineNamed.symm.trans none
  next => rfl

theorem State.couplingSeenFrom_named {p q : Port} (named : swept.toNat = p.val + 1) (here : s.present p = true)
    (mineNamed : mine.toNat = q.val + 1) :
    s.couplingSeenFrom st swept mine level = s.takeCouplingSeen st p q level.toNat := by
  rw [State.couplingSeenFrom, State.fromPeer_taken _ taken peer, State.portField_present named here,
    peerPort_named mineNamed]

end Sys2Proof.Machine
end

section
/-! The statements on COUPLING_SEEN and on CLEAR_COUPLING. -/

open Sys2Proof Sys2Proof.Machine

/-- Settles O34: the decided request empties the table and places the one reply. -/
theorem clearCoupling : Obligations.ClearCoupling :=
  fun _ decides => State.request_decided State.couplingClear decides

/-- Settles O41: the frame is taken where both its ports are named. A recording writes the entry of its key
(`recordCoupling_known`), inserts a new one in key order (`insertCoupling_append`), and drops from a full table the entry that
`evictee_eq` names. -/
theorem couplingSeen : Obligations.CouplingSeen := by
  refine ⟨fun s st swept mine level taken peer => ?_, fun table k level src => ⟨recordCoupling_known level src, ?_, ?_⟩⟩
  · intro out
    have runs : out = .next (s.couplingSeenFrom st swept mine level).settle := exec_couplingSeen taken
    rw [runs]
    refine ⟨fun outside => State.next_settle (State.couplingSeenFrom_outside taken peer outside),
      fun p q named here mineNamed => ?_⟩
    rw [State.couplingSeenFrom_named taken peer named here mineNamed]
    refine ⟨fun low => State.next_settle (if_pos low), fun kept most => State.next_settle ?_,
      fun high => State.next_settle ?_⟩
    · exact (if_neg (Nat.not_lt.2 kept)).trans (by rw [Nat.min_eq_right most]; rfl)
    · exact (if_neg (Nat.lt_asymm (lt_trans (by decide : 20 < 1000) high))).trans (by rw [Nat.min_eq_left high.le]; rfl)
  · rintro low high rfl room lower higher
    have new : ∀ c ∈ low ++ high, c.key ≠ k := List.forall_mem_append.2
      ⟨fun c here => CouplingKey.before_ne (lower c here), fun c here => (CouplingKey.before_ne (higher c here)).symm⟩
    exact (recordCoupling_room level src new room).trans (insertCoupling_append lower higher)
  · intro low x high parts full sorted new lower higher
    match table with
    | c :: rest =>
      have evicted : evictee c rest = x := evictee_eq parts lower higher
      have left : ∀ y ∈ low ++ high, y.key ≠ k := fun y here => new y (by
        rw [parts]
        exact (List.sublist_cons_self x high).append_left low |>.subset here)
      have shorter : (low ++ high).length < 64 := by
        have count := congrArg List.length parts
        simp only [List.length_append, List.length_cons] at count full ⊢
        omega
      rw [recordCoupling_full level src new full.ge, recordCoupling_room level src left shorter, evicted, parts,
        filter_evicted (parts ▸ couplingSorted_iff.1 sorted)]

end

section
/-! SUPPORT. The Coupling Table under the shared operations: a recording, CLEAR_COUPLING, the minute and a reset write it; nothing
else does. -/

namespace Sys2Proof.Machine

theorem Serves.coupling {p : Port} {s t : State} (a : Serves p s t) : t.coupling = s.coupling := by
  obtain ⟨_, _, _, _, h⟩ := a.rest; rw [h]

theorem ServesQueue.coupling {s t : State} (a : ServesQueue s t) : t.coupling = s.coupling := by
  obtain ⟨_, _, _, _, h⟩ := a.rest; rw [h]

theorem foldl_coupling {α : Type} (f : State → α → State) (h : ∀ t x, (f t x).coupling = t.coupling) (l : List α)
    (s : State) : (l.foldl f s).coupling = s.coupling := by
  induction l generalizing s with
  | nil => rfl
  | cons x l ih => rw [List.foldl_cons, ih, h]

variable (s : State) (p : Port) (e : EngineId)

/-! ## Lane operations -/

@[simp] theorem State.laneIssue_coupling (c : TapCommand) : (s.laneIssue p c).coupling = s.coupling :=
  (Touches.laneIssue (p := p) c).coupling

@[simp] theorem State.laneCommand_coupling : (s.laneCommand p).coupling = s.coupling := (Touches.laneCommand (p := p)).coupling

@[simp] theorem State.enterAdvertise_coupling (b : Bool) : (s.enterAdvertise p b).coupling = s.coupling :=
  (Touches.enterAdvertise (p := p) b).coupling

@[simp] theorem State.enterDisabled_coupling : (s.enterDisabled p).coupling = s.coupling :=
  (Touches.enterDisabled (p := p)).coupling

@[simp] theorem State.enterParked_coupling : (s.enterParked p).coupling = s.coupling := (Touches.enterParked (p := p)).coupling

@[simp] theorem State.enterBackoff_coupling : (s.enterBackoff p).coupling = s.coupling :=
  (Touches.enterBackoff (p := p)).coupling

@[simp] theorem State.enterSweepWait_coupling : (s.enterSweepWait p).coupling = s.coupling :=
  (Touches.enterSweepWait (p := p)).coupling

@[simp] theorem State.enterNegotiate_coupling : (s.enterNegotiate p).coupling = s.coupling := rfl

@[simp] theorem State.enterTrain_coupling (g : Grade) : (s.enterTrain p g).coupling = s.coupling :=
  (Touches.enterTrain (p := p) g).coupling

@[simp] theorem State.transferAndRestore_coupling : (s.transferAndRestore p).coupling = s.coupling := rfl

@[simp] theorem State.leaveUp_coupling : (s.leaveUp p).coupling = s.coupling := rfl

@[simp] theorem State.addReason_coupling (r : HoldReason) : (s.addReason p r).coupling = s.coupling :=
  (Touches.addReason (p := p) r).coupling

@[simp] theorem State.dropReason_coupling (r : HoldReason) : (s.dropReason p r).coupling = s.coupling :=
  (Touches.dropReason (p := p) r).coupling

@[simp] theorem State.quietAskLane_coupling (ask : QuietRecord) : (s.quietAskLane p ask).coupling = s.coupling :=
  (Touches.quietAskLane (p := p) ask).coupling

@[simp] theorem State.quietEndLane_coupling (st : Station) (q : Port) : (s.quietEndLane p st q).coupling = s.coupling :=
  (Touches.quietEndLane (p := p) st q).coupling

@[simp] theorem State.releasePort_coupling : (s.releasePort e p).coupling = s.coupling :=
  (Touches.releasePort (p := p) e).coupling

@[simp] theorem State.freeEngine_coupling : (s.freeEngine e p).coupling = s.coupling := (Touches.freeEngine (p := p) e).coupling

@[simp] theorem State.listenPort_coupling : (s.listenPort e p).coupling = s.coupling := rfl

@[simp] theorem State.listenDrop_coupling : (s.listenDrop p).coupling = s.coupling := (Touches.listenDrop (p := p)).coupling

@[simp] theorem State.sweepWaitTest_coupling : (s.sweepWaitTest p).coupling = s.coupling :=
  (Touches.sweepWaitTest (p := p)).coupling

@[simp] theorem State.laneEntrySuspended_coupling : (s.laneEntrySuspended p).coupling = s.coupling :=
  (Touches.laneEntrySuspended (p := p)).coupling

@[simp] theorem State.applyProfile_coupling (now : Bool) : (s.applyProfile p now).coupling = s.coupling :=
  (Touches.applyProfile (p := p) now).coupling

@[simp] theorem State.beginPair_coupling (q : Pair) : (s.beginPair e p q).coupling = s.coupling := rfl

@[simp] theorem State.fireShot_coupling (q : Pair) : (s.fireShot e p q).coupling = s.coupling := rfl

@[simp] theorem State.fireCal_coupling : (s.fireCal e p).coupling = s.coupling := rfl

/-! ## The Sweep Queue, failures and the course of a sweep -/

@[simp] theorem State.removeEntry_coupling (o : RemovalOutcome) : (s.removeEntry p o).coupling = s.coupling :=
  (Serves.removeEntry (p := p) o).coupling

@[simp] theorem State.startChoice_coupling : s.startChoice.coupling = s.coupling := (ServesQueue.startChoice s).coupling

@[simp] theorem State.requestSweep_coupling (r : SweepRequest) : (s.requestSweep r).coupling = s.coupling := by
  unfold State.requestSweep
  split <;> rfl

@[simp] theorem State.postCoord_coupling (f : Frame) (x : Option EngineId) : (s.postCoord f x).coupling = s.coupling := by
  rw [State.postCoord_of_line (s := s) rfl rfl rfl f x]

@[simp] theorem State.afterFailure_coupling (b : Bool) (o : LadderOutcome) : (s.afterFailure p b o).coupling = s.coupling := by
  cases o <;> simp [State.afterFailure, apply_ite State.coupling]

@[simp] theorem State.failLane_coupling (r : LastFailure) (b : Bool) : (s.failLane p r b).coupling = s.coupling := by
  simp [State.failLane, apply_ite State.coupling]

@[simp] theorem State.enterUp_coupling : (s.enterUp p).coupling = s.coupling := by
  unfold State.enterUp State.preempt
  split <;> simp [apply_ite State.coupling]

@[simp] theorem State.pairWrite_coupling (q : Pair) (x : PairResult) (o : Origin) (c : Bool) :
    (s.pairWrite p q x o c).coupling = s.coupling := by
  have posted (t : State) (f : Option ChangeFlag) : (t.postOption p f).coupling = t.coupling := by cases f <;> rfl
  simp [State.pairWrite, posted, State.handOver, State.unparkByRecord, apply_ite State.coupling]

@[simp] theorem State.postEndFrame_coupling : (s.postEndFrame e p).coupling = s.coupling := by
  unfold State.postEndFrame
  rw [State.modifyEngine_coupling]
  split <;> simp

@[simp] theorem State.completeSweep_coupling : (s.completeSweep e p).coupling = s.coupling := by simp [State.completeSweep]

@[simp] theorem State.cancelStop_coupling : (s.cancelStop e p).coupling = s.coupling := by simp [State.cancelStop]

@[simp] theorem State.suspendSweep_coupling : (s.suspendSweep e p).coupling = s.coupling := by simp [State.suspendSweep]

@[simp] theorem State.suspendOn_coupling (b : Bool) : (s.suspendOn p b).coupling = s.coupling := by
  unfold State.suspendOn
  split
  · split <;> simp [apply_ite State.coupling]
  · rfl

@[simp] theorem State.passEnd_coupling (x : Entry) : (s.passEnd e x).coupling = s.coupling := by
  simp [State.passEnd, apply_ite State.coupling]

@[simp] theorem State.afterPair_coupling (q : Pair) : (s.afterPair e p q).coupling = s.coupling := by
  unfold State.afterPair
  split
  · rfl
  · split
    · simp [apply_ite State.coupling]
    · split <;> simp [apply_ite State.coupling]

@[simp] theorem State.writePair_coupling (q : Pair) (r : PairResult) : (s.writePair e p q r).coupling = s.coupling := by
  unfold State.writePair
  split <;> simp

@[simp] theorem State.afterShot_coupling (q : Pair) (d : Nat) : (s.afterShot e p q d).coupling = s.coupling := by
  simp [State.afterShot, apply_ite State.coupling]

@[simp] theorem State.endAnalysis_coupling (q : Pair) : (s.endAnalysis e p q).coupling = s.coupling := by
  unfold State.endAnalysis
  split <;> simp [apply_ite State.coupling]

@[simp] theorem State.settled_coupling (x : Entry) : (s.settled e x).coupling = s.coupling := by
  unfold State.settled
  simp only
  split <;> simp

@[simp] theorem State.shotCompleted_coupling (b : Four ShotBlock) : (s.shotCompleted e p b).coupling = s.coupling := by
  unfold State.shotCompleted
  split <;> simp

/-! ## Calibration and start-up -/

@[simp] theorem State.takeCalibration_coupling : (s.takeCalibration e).coupling = s.coupling := by
  unfold State.takeCalibration
  split <;> rfl

@[simp] theorem State.afterCalShot_coupling : (s.afterCalShot e).coupling = s.coupling := by
  unfold State.afterCalShot
  split <;> simp [apply_ite State.coupling]

@[simp] theorem State.shotFailed_coupling : (s.shotFailed p).coupling = s.coupling := by
  unfold State.shotFailed
  simp only
  split
  · rfl
  · split
    case h_1 => simp
    case h_2 => split <;> simp
    all_goals rfl

@[simp] theorem State.finishCalibration_coupling : (s.finishCalibration e).coupling = s.coupling := by
  unfold State.finishCalibration
  split <;> simp

@[simp] theorem State.leaveStarting_coupling : (s.leaveStarting p).coupling = s.coupling := by
  simp [State.leaveStarting, apply_ite State.coupling]

@[simp] theorem State.startupEnd_coupling : s.startupEnd.coupling = s.coupling := by
  simp [State.startupEnd, apply_ite State.coupling, foldl_coupling _ State.leaveStarting_coupling]

/-! ## The frames of peers, the survey and the holdoffs -/

@[simp] theorem State.takeQuietAsk_coupling (st : Station) (q : Port) (u : Byte) :
    (s.takeQuietAsk st q u).coupling = s.coupling :=
  foldl_coupling _ (fun t p => t.quietAskLane_coupling p _) _ s

@[simp] theorem State.endQuiet_coupling (st : Station) (q : Port) : (s.endQuiet st q).coupling = s.coupling :=
  foldl_coupling _ (fun t p => t.quietEndLane_coupling p st q) _ s

@[simp] theorem State.takeSweepStart_coupling (st : Station) (q : Port) (u : Byte) :
    (s.takeSweepStart st q u).coupling = s.coupling := by
  unfold State.takeSweepStart
  simp only
  split
  · rfl
  · rw [apply_ite State.coupling, foldl_coupling _ fun t p => t.listenPort_coupling p _,
      foldl_coupling _ fun t m => t.addReason_coupling (Member.port m) .listen, State.setEngine_coupling, ite_self]

@[simp] theorem State.restartSurvey_coupling : s.restartSurvey.coupling = s.coupling := rfl

@[simp] theorem State.expireSurvey_coupling : s.expireSurvey.coupling = s.coupling := by
  unfold State.expireSurvey
  split <;> simp [apply_ite State.coupling]

@[simp] theorem State.expireHoldoff_coupling : (s.expireHoldoff p).coupling = s.coupling := by
  simp [State.expireHoldoff, apply_ite State.coupling]

/-! ## The events of the taps -/

@[simp] theorem State.energyRises_coupling : (s.energyRises p).coupling = s.coupling := by simp [State.energyRises]

@[simp] theorem State.energyFalls_coupling : (s.energyFalls p).coupling = s.coupling := by
  simp [State.energyFalls, apply_ite State.coupling]

@[simp] theorem State.firstWord_coupling (offer : GradeSet) (fault : Bool) :
    (s.firstWord p offer fault).coupling = s.coupling := by
  simp [State.firstWord, apply_ite State.coupling]

@[simp] theorem State.completeNegotiation_coupling : (s.completeNegotiation p).coupling = s.coupling := by
  unfold State.completeNegotiation
  simp only
  split <;> simp

@[simp] theorem State.nextWord_coupling (offer : GradeSet) (ack fault : Bool) :
    (s.nextWord p offer ack fault).coupling = s.coupling := by
  simp [State.nextWord, apply_ite State.coupling]

@[simp] theorem State.legacyDetected_coupling : (s.legacyDetected p).coupling = s.coupling := by
  simp [State.legacyDetected, apply_ite State.coupling]

@[simp] theorem State.loseLink_coupling : (s.loseLink p).coupling = s.coupling := by
  simp [State.loseLink, apply_ite State.coupling]

/-! ## The requests -/

@[simp] theorem State.enableLane_coupling : (s.enableLane p).coupling = s.coupling := by
  simp [State.enableLane, apply_ite State.coupling]

@[simp] theorem State.disableLane_coupling : (s.disableLane p).coupling = s.coupling := by
  simp [State.disableLane, apply_ite State.coupling]

@[simp] theorem State.retrainLane_coupling : (s.retrainLane p).1.coupling = s.coupling := by
  unfold State.retrainLane State.carryOutRetrain
  split
  · rfl
  · split <;> simp [apply_ite State.coupling]

@[simp] theorem State.unparkLane_coupling : (s.unparkLane p).1.coupling = s.coupling := by
  unfold State.unparkLane
  split <;> simp

@[simp] theorem State.sweepDecision_coupling (mask : PairSet) (depth : Nat) (force : Bool) :
    (s.sweepDecision p mask depth force).1.coupling = s.coupling := by
  unfold State.sweepDecision
  simp only
  repeat (split; rfl)
  exact s.requestSweep_coupling _

@[simp] theorem State.cancelDecision_coupling : (s.cancelDecision p).coupling = s.coupling := by
  unfold State.cancelDecision
  split
  · rfl
  · split <;> simp [apply_ite State.coupling]

@[simp] theorem State.profileDecision_coupling (b : ProfileBytes) : (s.profileDecision b).1.coupling = s.coupling := by
  unfold State.profileDecision
  simp only
  split
  · rfl
  · split
    · rfl
    · rw [foldl_coupling _ fun t p => t.applyProfile_coupling p _,
        foldl_coupling _ fun t p => t.modifyLane_coupling p (·.writeShadow b)]

@[simp] theorem State.surveyDecision_coupling (n : Nat) (b : Bool) : (s.surveyDecision n b).1.coupling = s.coupling := by
  simp [State.surveyDecision, apply_ite State.coupling]

theorem State.withPort_coupling {k : RequestKind} {b : Byte} {f : Port → State} (same : ∀ p, (f p).coupling = s.coupling) :
    (s.withPort k b f).coupling = s.coupling := by
  unfold State.withPort
  split <;> simp [same]

@[simp] theorem State.laneControl_coupling (port action : Byte) : (s.laneControl port action).coupling = s.coupling := by
  refine s.withPort_coupling fun p => ?_
  split <;> simp [State.conclude]

@[simp] theorem State.sweepRequest_coupling (port mask depth flags : Byte) :
    (s.sweepRequest port mask depth flags).coupling = s.coupling :=
  s.withPort_coupling fun p => by simp [State.conclude, apply_ite State.coupling]

@[simp] theorem State.cancelRequest_coupling (port : Byte) : (s.cancelRequest port).coupling = s.coupling :=
  s.withPort_coupling fun p => by simp

@[simp] theorem State.profileRequest_coupling (b : ProfileBytes) : (s.profileRequest b).coupling = s.coupling := by
  simp [State.profileRequest, State.conclude, apply_ite State.coupling]

@[simp] theorem State.guardRequest_coupling (mask : BitVec 16) : (s.guardRequest mask).coupling = s.coupling := by
  simp [State.guardRequest, apply_ite State.coupling]

@[simp] theorem State.surveyRequest_coupling (interval mode : Byte) : (s.surveyRequest interval mode).coupling = s.coupling := by
  simp [State.surveyRequest, State.conclude, apply_ite State.coupling]

@[simp] theorem State.portQuery_coupling (port : Byte) : (s.portQuery port).coupling = s.coupling :=
  s.withPort_coupling fun _ => rfl

@[simp] theorem State.recordRead_coupling (port : Byte) : (s.recordRead port).coupling = s.coupling :=
  s.withPort_coupling fun _ => rfl

/-- STATION_RESET keeps the table (R30). -/
@[simp] theorem State.stationReset_coupling : s.stationReset.coupling = s.coupling := by
  obtain ⟨⟨_, same⟩, -⟩ := s.stationReset_eq
  rw [same]
  rfl

/-! ## The transmitter -/

@[simp] theorem State.leaveQueue_coupling (place : TxPlace) : (s.leaveQueue place).coupling = s.coupling := by
  cases place with
  | coordination | portNotice => rfl
  | stationNotice => simp [State.leaveQueue, apply_ite State.coupling]
  | reply =>
    unfold State.leaveQueue
    simp only
    split
    · rfl
    · split <;> rfl

@[simp] theorem State.collide_coupling (f : TxFrame) : (s.collide f).coupling = s.coupling := by
  simp [State.collide, apply_ite State.coupling]

end Sys2Proof.Machine
end

section
/-! SUPPORT. The Coupling Table stays sound (R160 to R162) through every command: what a listen job hears and what a peer tells are
recorded at levels of 20 to 1000, the minute counts the ages, and CLEAR_COUPLING and the resets empty the table. -/

namespace Sys2Proof.Machine

theorem alienLevel_le (n : Nat) : alienLevel n ≤ 1000 := alienLevel_eq n ▸ Nat.min_le_left _ _

namespace TableSound

/-! ## What is heard and told (R173, R174) -/

/-- A listen job records its loud members. -/
theorem heard (j : ListenJob) {loud : List Member} (kept : ∀ m ∈ loud, 20 ≤ alienLevel m.reading)
    {table : List CouplingEntry} (h : TableSound table) : TableSound (loud.foldl j.heard table) := by
  induction loud generalizing table with
  | nil => exact h
  | cons m loud ih =>
    obtain ⟨first, kept⟩ := List.forall_mem_cons.1 kept
    exact ih kept (h.record _ ⟨first, alienLevel_le _⟩ .heard)

theorem ite {c : Prop} [Decidable c] {s t : State} (a : c → TableSound s.coupling) (b : ¬c → TableSound t.coupling) :
    TableSound (if c then s else t).coupling := by
  split
  next h => exact a h
  next h => exact b h

variable {s : State} (h : TableSound s.coupling)
include h

theorem same {t : State} (coupling : t.coupling = s.coupling) : TableSound t.coupling := coupling ▸ h

theorem endListenJob (e : EngineId) : TableSound (s.endListenJob e).coupling := by
  cases job : (s.engine e).job with
  | none =>
    rw [State.endListenJob, job]
    exact h
  | some j =>
    have written : (s.jobLeft e j).coupling = _ := congrArg State.coupling (s.jobLeft_writes e j)
    rw [State.endListenJob_eq job, State.startChoice_coupling, written]
    exact h.heard j fun m here => of_decide_eq_true (List.mem_filter.1 here).2

theorem takeSweepEnd (st : Station) (q : Port) : TableSound (s.takeSweepEnd st q).coupling := by
  have endJobOf {t : State} (k : TableSound t.coupling) (e : EngineId) : TableSound (t.endJobOf e st q).coupling :=
    ite (fun _ => k.endListenJob e) fun _ => k
  exact endJobOf (endJobOf (h.same (s.endQuiet_coupling st q)) 0) 1

theorem takeCouplingSeen (st : Station) (p q : Port) (level : Nat) : TableSound (s.takeCouplingSeen st p q level).coupling :=
  ite (fun _ => h) fun kept => h.record _ ⟨Nat.le_min.2 ⟨by decide, Nat.le_of_not_lt kept⟩, Nat.min_le_left _ _⟩ .told

/-! ## The frames of peers and the requests -/

theorem fromPeer (st : Station) {f : State → State} (k : TableSound (f s).coupling) : TableSound (s.fromPeer st f).coupling :=
  ite (fun _ => h) fun _ => ite (fun _ => k) fun _ => h

theorem withPeerPort (b : Byte) {f : Port → State} (k : ∀ p, TableSound (f p).coupling) :
    TableSound (s.withPeerPort b f).coupling := by
  unfold State.withPeerPort
  split
  · exact k _
  · exact h

theorem quietAskFrom (st : Station) (port units : Byte) : TableSound (s.quietAskFrom st port units).coupling :=
  h.fromPeer st (h.withPeerPort port fun p => h.same (s.takeQuietAsk_coupling st p units))

theorem sweepStartFrom (st : Station) (port units : Byte) : TableSound (s.sweepStartFrom st port units).coupling :=
  h.fromPeer st (h.withPeerPort port fun p => h.same (s.takeSweepStart_coupling st p units))

theorem sweepEndFrom (st : Station) (port : Byte) : TableSound (s.sweepEndFrom st port).coupling :=
  h.fromPeer st (h.withPeerPort port fun p => h.takeSweepEnd st p)

theorem quietEndFrom (st : Station) (port : Byte) : TableSound (s.quietEndFrom st port).coupling :=
  h.fromPeer st (h.withPeerPort port fun p => h.same (s.endQuiet_coupling st p))

theorem couplingSeenFrom (st : Station) (swept port : Byte) (level : BitVec 16) :
    TableSound (s.couplingSeenFrom st swept port level).coupling := by
  refine h.fromPeer st ?_
  split
  · exact h.takeCouplingSeen st _ _ _
  · exact h

theorem takeCoordination (kind : Byte) (st : Station) (payload : List Byte) :
    TableSound (s.takeCoordination kind st payload).coupling := by
  unfold State.takeCoordination
  split
  · exact h.quietAskFrom st _ _
  · exact h.sweepStartFrom st _ _
  · exact h.sweepEndFrom st _
  · exact h.quietEndFrom st _
  · exact h.couplingSeenFrom st _ _ _
  · exact h

theorem takeRequest {f : State → State} (decided : TableSound (f s).coupling) : TableSound (s.takeRequest f).coupling :=
  ite (fun _ => h) fun _ => ite (fun _ => h) fun _ => decided

theorem decideRequest {k : RequestKind} {payload : List Byte} {f : State → State}
    (decided : Machine.decideRequest k payload = some f) : TableSound (f s).coupling := by
  cases k with
  | stationReset => match payload, decided with | [], rfl => exact h.same s.stationReset_coupling
  | laneControl => match payload, decided with | [_, _], rfl => exact h.same (s.laneControl_coupling _ _)
  | sweep => match payload, decided with | [_, _, _, _], rfl => exact h.same (s.sweepRequest_coupling _ _ _ _)
  | cancelSweep => match payload, decided with | [_], rfl => exact h.same (s.cancelRequest_coupling _)
  | setProfile =>
    match payload, decided with
    | [_, _, _, _, _, _, _, _, _, _, _, _, _], rfl => exact h.same (s.profileRequest_coupling _)
  | setGuard => match payload, decided with | [_, _], rfl => exact h.same (s.guardRequest_coupling _)
  | setSurvey => match payload, decided with | [_, _], rfl => exact h.same (s.surveyRequest_coupling _ _)
  | queryStation => match payload, decided with | [], rfl => exact h
  | queryPort => match payload, decided with | [_], rfl => exact h.same (s.portQuery_coupling _)
  | readRecord => match payload, decided with | [_], rfl => exact h.same (s.recordRead_coupling _)
  | readCoupling => match payload, decided with | [_], rfl => exact h
  | clearCoupling => match payload, decided with | [], rfl => exact nil

theorem takeFrame (kind header : Byte) (payload : List Byte) (check : Byte) :
    TableSound (s.takeFrame kind header payload check).coupling := by
  refine ite (fun _ => h) fun _ => ite (fun _ => ?_) fun _ => h
  have after : TableSound ({ s with rx := .afterFrame } : State).coupling := h
  rcases State.accept_cases { s with rx := .afterFrame } kind (header.extractLsb' 4 4) (header.extractLsb' 0 4) payload
    with e | e | e | ⟨k, f, -, decided, e⟩ | e <;> rw [e]
  · exact h
  · exact h
  · exact h
  · exact after.takeRequest (after.decideRequest decided)
  · exact after.takeCoordination _ _ _

end TableSound

/-! ## The forms of a command -/

/-- Where the outcome is a state, its table is sound. -/
def TableAfter (o : Host.Outcome State Fault Refusal) : Prop := ∀ t, o = .next t → TableSound t.coupling

namespace TableAfter

variable {s : State} (h : TableSound s.coupling)
include h

theorem perform {f : State → State} (k : TableSound (f s).coupling) : TableAfter (s.perform f) := by
  intro t ran
  unfold State.perform at ran
  split at ran <;> cases ran
  · exact h
  · exact k.same (State.settle_coupling _)

theorem request {f : State → State} (k : TableSound (f s).coupling) : TableAfter (s.perform fun t => t.takeRequest f) :=
  perform h (h.takeRequest k)

/-- An effect that leaves the table as it is. -/
theorem leaves {f : State → State} (same : (f s).coupling = s.coupling) : TableAfter (s.perform f) := perform h (h.same same)

theorem tap {p : Port} {f : State → State} (same : (f s).coupling = s.coupling) : TableAfter (s.tapEvent p f) :=
  perform h (.ite (fun _ => h.same same) fun _ => h)

theorem asks {f : State → State} (same : (f s).coupling = s.coupling) :
    TableAfter (s.perform fun t => t.takeRequest f) := request h (h.same same)

theorem captureDone (p : Port) (tag : Byte) (data : Capture) : TableAfter (execCaptureDone p tag data s) := by
  have ignored : TableAfter (s.perform id) := leaves h rfl
  unfold execCaptureDone
  split
  next => exact ignored
  next =>
    split
    next => exact ignored
    next e _ =>
      split
      case h_1 => exact leaves h (s.shotCompleted_coupling p e _)
      case h_2 => exact leaves h (State.afterCalShot_coupling _ e)
      case h_3 => exact leaves h rfl
      case h_10 | h_11 | h_12 => exact ignored
      all_goals exact fun _ stopped => nomatch stopped

end TableAfter

/-! ## Every command -/

/-- A part that comes out of reset has an empty table (R36, R160). -/
theorem execResetRelease_tableAfter (s : State) (sta : BitVec 3) (pcs aut : Bool) :
    TableAfter (execResetRelease sta pcs aut s) := by
  rintro _ ⟨⟩
  rw [State.beginCalibration, State.takeCalibration_coupling, State.takeCalibration_coupling]
  exact .nil

/-- Every command keeps the table sound. -/
theorem exec_tableAfter (c : Instr) {s : State} (h : TableSound s.coupling) : TableAfter (exec c s) := by
  cases c <;> rw [exec]
  case resetAssert =>
    rintro _ ⟨⟩
    exact .nil
  case resetRelease => exact execResetRelease_tableAfter s _ _ _
  case minuteAdvance => exact .perform h (.ite (fun _ => h.ageMinute) fun _ => h)
  case frameReceived => exact .perform h (.ite (fun _ => h.takeFrame _ _ _ _) fun _ => h)
  case frameBreak | frameLengthOverflow | trailingCell | lineIdle | newFrame | arbitrationLost =>
    exact .perform h (.ite (fun _ => h) fun _ => h)
  case collisionError =>
    refine .leaves h ?_
    split <;> simp
  case frameSent =>
    refine .leaves h ?_
    split <;> simp [State.sent]
  case stationReset => exact .asks h s.stationReset_coupling
  case enable | disable | retrain | unpark => exact .asks h (s.laneControl_coupling _ _)
  case sweep => exact .asks h (s.sweepRequest_coupling _ _ _ _)
  case cancelSweep => exact .asks h (s.cancelRequest_coupling _)
  case setProfile => exact .asks h (s.profileRequest_coupling _)
  case setGuard => exact .asks h (s.guardRequest_coupling _)
  case setSurvey => exact .asks h (s.surveyRequest_coupling _ _)
  case queryStation | readCoupling => exact .asks h rfl
  case queryPort => exact .asks h (s.portQuery_coupling _)
  case readRecord => exact .asks h (s.recordRead_coupling _)
  case clearCoupling => exact .request h .nil
  case quietAsk => exact .perform h (h.quietAskFrom _ _ _)
  case quietEnd => exact .perform h (h.quietEndFrom _ _)
  case sweepStart => exact .perform h (h.sweepStartFrom _ _ _)
  case sweepEnd => exact .perform h (h.sweepEndFrom _ _)
  case couplingSeen => exact .perform h (h.couplingSeenFrom _ _ _ _)
  case burst =>
    refine .tap h ?_
    split <;> simp
  case trainFault =>
    refine .tap h ?_
    split <;> simp [apply_ite State.coupling]
  case captureDone p tag data => exact .captureDone h p tag data
  case settleExpiry | preparePass =>
    refine .perform h (.ite (fun _ => ?_) fun _ => h)
    split <;> exact h.same (by simp [State.preparePass])
  case analysisEnd =>
    refine .perform h (.ite (fun _ => ?_) fun _ => h)
    simp only
    split <;> exact h.same (by simp)
  case retryWaitExpiry => exact .perform h (.ite (fun _ => h) fun _ => h)
  case calibrationResult | surveyExpiry => exact .leaves h (by simp [apply_ite State.coupling])
  case listenJobEnd e => exact .perform h (.ite (fun _ => h.endListenJob e) fun _ => h)
  case energyOn | energyOff | plainPulse | trainProgress | linkLost | powerDetectBegin | powerDetectEnd | captureTimeout
    | negWindowExpiry | trainWindowExpiry | backoffExpiry | quietRecordExpiry | holdoffExpiry =>
    exact .tap h (by simp [apply_ite State.coupling])

end Sys2Proof.Machine
end

section
/-! The statement on what every step keeps of the Coupling Table. -/

open Sys2Proof Sys2Proof.Machine

/-- Settles O11: the table changes by a recording (`TableSound.record`), by the minute, which counts ages, and by CLEAR_COUPLING and
the resets, which empty it. -/
theorem stepKeepsCoupling : Obligations.StepKeepsCoupling := by
  intro s t sound next
  rw [State.couplingSound_iff] at sound ⊢
  rcases step_cases next with ⟨c, pending, free, ran⟩ | rfl | rfl
  · exact exec_tableAfter c (s := { s with pending := pending, freeCount := free }) sound t ran
  · exact sound
  · exact sound

end

section
/-! SUPPORT. SET_SURVEY by its mode bit and by the interval held (R177). -/

namespace Sys2Proof.Machine

/-- A defined mode is CONTINUOUS exactly where it is 1 (R17, R22). -/
theorem modeBit_eq {mode : Byte} (defined : mode.toNat < 2) : mode.getLsbD 0 = decide (mode = 1) := by
  have codes : mode = 0 ∨ mode = 1 := by bv_omega
  rcases codes with rfl | rfl <;> rfl

theorem State.surveyRequest_defined {s : State} {interval mode : Byte} (defined : mode.toNat < 2) :
    s.surveyRequest interval mode =
      State.conclude .setSurvey (s.surveyDecision interval.toNat (decide (mode = 1))) := by
  rw [State.surveyRequest, if_neg (Nat.not_le.2 defined), modeBit_eq defined]

/-- Interval 0 sets the survey off, with no expiry pending. -/
theorem State.surveyDecision_zero (s : State) (continuous : Bool) :
    s.surveyDecision 0 continuous =
      ({ s with
          surveyInterval := 0, surveyEnabled := false, surveyContinuous := continuous, passSet := 0
          surveyTimer := none }, .accepted .done) := rfl

/-- Any other interval is held as at least 6, and the timer starts afresh from now. -/
theorem State.surveyDecision_pos (s : State) {interval : Nat} (positive : 0 < interval) (continuous : Bool) :
    s.surveyDecision interval continuous =
      ({ s with
          surveyInterval := max 6 interval, surveyEnabled := true, surveyContinuous := continuous, passSet := 0
          surveyTimer := some (s.ms + BitVec.ofNat 48 (max 6 interval * 10000)) },
        .accepted (if max 6 interval = interval then .done else .clamped)) := by
  have held : max 6 interval ≠ 0 := by omega
  simp only [State.surveyDecision, positive.ne', if_false, held, ne_eq, not_false_eq_true, decide_true]
  rfl

end Sys2Proof.Machine
end

section
/-! The statement on SET_SURVEY. -/

open Sys2Proof Sys2Proof.Machine

/-- Settles O33: the interval is 0, below the least one held, or held as received; the reply says whether it was clamped. -/
theorem setSurvey : Obligations.SetSurvey := by
  intro s interval mode decides defined set out
  have decided : out =
      .next (State.conclude .setSurvey (s.surveyDecision interval.toNat (decide (mode = 1)))).settle :=
    (State.request_decided _ decides).trans (State.next_settle (State.surveyRequest_defined defined))
  rw [decided]
  refine ⟨fun off => ?_, fun least low => ?_, fun kept => ?_⟩
  · subst off
    exact State.next_settle (congrArg (State.conclude .setSurvey) (s.surveyDecision_zero _))
  · have clamped : max 6 interval.toNat = 6 := by omega
    have changed : 6 ≠ interval.toNat := by omega
    rw [s.surveyDecision_pos least, clamped, if_neg changed]
    rfl
  · have received : max 6 interval.toNat = interval.toNat := by omega
    rw [s.surveyDecision_pos (by omega), received, if_pos rfl]
    rfl

end

section
/-! The statement on the step with a command waiting. -/

namespace Sys2Proof.Machine

/-- The counterpart of `step_of_pending_nil`: the command leaves the queue before it runs. -/
theorem step_of_pending_cons {s : State} {c : Instr} {rest : List Instr} (h : s.pending = c :: rest) :
    step s = exec c { s with pending := rest } := by
  rw [step, h]

end Sys2Proof.Machine

open Sys2Proof Sys2Proof.Machine

/-- Settles O1, by the arm of `step` that the front command selects. -/
theorem stepRunsFrontCommand : Obligations.StepRunsFrontCommand :=
  fun _ _ _ => step_of_pending_cons

end
